-- ==== Sys2Proof/Word.lean ====
section
/-! DEFINITION. Words, the names of the machine's parts, and the operand types of the commands. -/

namespace Sys2Proof

abbrev W8 := BitVec 8
abbrev W16 := BitVec 16
abbrev W32 := BitVec 32
abbrev W64 := BitVec 64
abbrev W128 := BitVec 128
/-- Bytes in ascending address order, as a frame, an I3C transfer or an image carries them. -/
abbrev Bytes := List (BitVec 8)

/-- Field index f = 8 * fy + fx (R36). -/
abbrev FieldId := Fin 64
/-- Virtual tile 768 * y + x of the fixed grid (R72). -/
abbrev TileId := Fin 589824
/-- Stream unit sd0-sd3. -/
abbrev UnitId := Fin 4
/-- Message queue q0-q3. -/
abbrev QNum := Fin 4
/-- Press cluster c = 4 * (fy div 2) + (fx div 2) (R471). -/
abbrev ClusterId := Fin 16
/-- Core of a Press cluster. -/
abbrev CoreId := Fin 4
/-- Rim die or direction: 0 N, 1 E, 2 S, 3 W (Table 2.6). -/
abbrev DieId := Fin 4
/-- Port of a Rim die. -/
abbrev PortId := Fin 16
/-- Mesh channel C0-C3 (Table 9.4). -/
abbrev Chan := Fin 4

/-- Sparse data by number: keys strictly rising; an unlisted key holds the default that the reader supplies. -/
abbrev Sparse (α : Type) := List (Nat × α)
/-- Bytes of one memory, at rising addresses; an unlisted byte reads as zero. -/
abbrev Mem := List Host.Cell

/-- Who makes an access (Table 12.1 and R202): the tile's own software, software on another tile or of
another Plate, Press software by level, Warden firmware, host software by BAR0 or by a host window. -/
inductive Party where
  | tileSelf | tileSw | pressU | pressS | pressM | wardenFw | hostPcie | hostWin
  deriving DecidableEq, Repr

/-- What executes an instruction: a tile's Veluc-T core, a Press Veluc-H core (R489), or the Warden's lockstep pair of
management cores, which acts as one Veluc-H core (R500). -/
inductive Hart where
  | tile (t : TileId)
  | press (c : ClusterId) (k : CoreId)
  | mgmt
  deriving DecidableEq, Repr

/-- A party that takes answers and releases: a tile, or the gate of a Press cluster. -/
inductive Taker where
  | tile (t : TileId)
  | gate (c : ClusterId)
  deriving DecidableEq, Repr

/-- What the SECDED check of an arriving flit finds (R361, R362). -/
inductive FlitErr where
  | ok | ce | ue
  deriving DecidableEq, Repr

/-- The ports of a router (R340-R342): four mesh ports, four Hatch ports, and the attachment ports. -/
inductive RPort where
  | n | e | s | w | hn | he | hs | hw | loc | ctl | gate | bridge
  deriving DecidableEq, Repr

/-- One input lane of one router: the router, the port its flits enter by, the channel, and the lane (A or B). -/
structure LaneId where
  r : TileId
  port : RPort
  ch : Chan
  b : Bool
  deriving DecidableEq, Repr

/-- A domain with a PLL other than a field: a Rim die or a Press cluster (R131, R132). -/
inductive Domain where
  | rim (d : DieId)
  | press (c : ClusterId)
  deriving DecidableEq, Repr

/-- What reports its supply power to the Warden: a field controller, a Rim die or a Press cluster (R103). -/
inductive PowerSrc where
  | field (f : FieldId)
  | rim (d : DieId)
  | press (c : ClusterId)
  deriving DecidableEq, Repr

/-- How the tests of an island start end (R544, R545, R553): all pass; one of them fails; KEYGEN's pairwise test fails. -/
inductive StartRes where
  | pass | fail | pairFail
  deriving DecidableEq, Repr

/-- Instructions of the IEEE 1149.1 test access port (R568): those offered while test access is locked, and any other
code. -/
inductive TapInstr where
  | bypass | idcode | sample | extest | challenge | unlock
  | other (code : Nat)
  deriving DecidableEq, Repr

/-- One scan of the TAP: the instruction and the data shifted in under it. -/
structure TapScan where
  ir : TapInstr
  data : Bytes
  deriving DecidableEq, Repr

/-- Who sends Krovas a command (R616, R622): the host through Redfish, or the Plate that SPLATE of a management packet
names. -/
inductive KSrc where
  | host
  | plate (src : Nat)
  deriving DecidableEq, Repr

/-- One bus access: a PCI Express TLP on a window, or a Stylus register access. -/
structure BusAccess where
  wr : Bool
  off : Nat
  size : Nat
  data : List W32
  deriving DecidableEq, Repr

/-- The kinds of Table 12.3: a plain access, a full/empty access, a queue message. -/
inductive AccKind where
  | plain | fe | queue
  deriving DecidableEq, Repr

/-- An access that Warden firmware makes through a field controller (R509). -/
structure FwReq where
  wr : Bool
  kind : AccKind
  ga : W64
  size : Nat
  data : List W32
  deriving DecidableEq, Repr

/-- Where an epoch's commit goes (R590): a field controller or a Rim die. -/
inductive CommitTgt where
  | field (f : FieldId)
  | die (d : DieId)
  deriving DecidableEq, Repr

/-- The ResetType of ComputerSystem.Reset (R621): On, or a value that it does not accept. The other three accepted values have rows of
their own. -/
inductive ResetType where
  | on | other
  deriving DecidableEq, Repr

/-- A Redfish request to turn the package on: its command tag and its ResetType. -/
structure OnReq where
  tag : W32
  ty : ResetType
  deriving DecidableEq, Repr

/-- A reading of the tray's coolant sensors, in °C (Table 16.1). -/
structure CoolantReading where
  inlet : Int
  coolant : Int
  deriving DecidableEq, Repr

/-- What a Redfish read asks for (R620). -/
inductive ReadItem where
  | state | telemetry | log | settings
  deriving DecidableEq, Repr

/-- The Krovas settings of Table 16.4 that the host writes. -/
inductive Setting where
  | orphanT | hbT | trialT | trayPmax | policy | topology | fmPlate
  deriving DecidableEq, Repr

/-- A firmware set as it is pushed (16.7): the manifest and the five images, each with its envelope. -/
structure FwSet where
  manifest : Bytes
  krovas : Bytes
  warden : Bytes
  rim : Bytes
  press : Bytes
  island : Bytes
  deriving DecidableEq, Repr

end Sys2Proof
end

