-- ==== Sys2Proof/Machine/Sparse.lean ====
section
/-! DEFINITION. Sparse tables and byte memories as plain data, and the byte and bit-field helpers. -/

namespace Sys2Proof.Machine

/-- The entry at key `i`, or the default. -/
def sget {α : Type} (d : α) : Sparse α → Nat → α
  | [], _ => d
  | (k, v) :: m, i => if i = k then v else sget d m i

/-- Write the entry at key `i`, keeping the keys rising. -/
def sput {α : Type} : Sparse α → Nat → α → Sparse α
  | [], i, v => [(i, v)]
  | (k, w) :: m, i, v =>
    if i < k then (i, v) :: (k, w) :: m
    else if i = k then (i, v) :: m
    else (k, w) :: sput m i v

/-- Remove the entry at key `i`. -/
def sdel {α : Type} (m : Sparse α) (i : Nat) : Sparse α := m.filter (fun e => !(e.1 == i))

/-- Whether key `i` has an entry. -/
def shas {α : Type} (m : Sparse α) (i : Nat) : Bool := m.any (fun e => e.1 == i)

/-- Every entry whose key lies in [lo, hi) is removed. -/
def sclr {α : Type} (m : Sparse α) (lo hi : Nat) : Sparse α := m.filter (fun e => decide (e.1 < lo ∨ hi ≤ e.1))

/-- One byte of a memory: an unlisted byte reads zero (R123, R129, R488). -/
def mget (m : Mem) (a : Nat) : W8 := sget 0#8 m a

/-- Write one byte in the canonical form: writing zero removes the entry. -/
def mput (m : Mem) (a : Nat) (v : W8) : Mem := if v = 0#8 then sdel m a else sput m a v

/-- Keys strictly rising from `lo`, no zero byte listed. -/
def memFrom : Nat → Mem → Bool
  | _, [] => true
  | lo, (k, v) :: m => decide (lo ≤ k) && (v != 0#8) && memFrom (k + 1) m

/-- The canonical form of a memory: addresses strictly rising, no entry equal to what an unlisted address reads as. -/
def Memory.wf (m : Mem) : Bool := memFrom 0 m

/-- Bytes as a little-endian number (R7). -/
def leNat : Bytes → Nat
  | [] => 0
  | b :: bs => b.toNat + 256 * leNat bs

/-- The low `n` bytes of a number, little-endian. -/
def natLe : Nat → Nat → Bytes
  | 0, _ => []
  | n + 1, x => BitVec.ofNat 8 x :: natLe n (x / 256)

/-- `n` bytes of a memory from address `a`. -/
def mread (m : Mem) (a : Nat) : Nat → Bytes
  | 0 => []
  | n + 1 => mget m a :: mread m (a + 1) n

/-- Write consecutive bytes from address `a`. -/
def mwrite (m : Mem) (a : Nat) : Bytes → Mem
  | [] => m
  | b :: bs => mwrite (mput m a b) (a + 1) bs

/-- Remove the bytes of [lo, hi): they read zero again. -/
def mclr (m : Mem) (lo hi : Nat) : Mem := m.filter (fun e => decide (e.1 < lo ∨ hi ≤ e.1))

def mread32 (m : Mem) (a : Nat) : W32 := BitVec.ofNat 32 (leNat (mread m a 4))
def mread64 (m : Mem) (a : Nat) : W64 := BitVec.ofNat 64 (leNat (mread m a 8))
def mwrite32 (m : Mem) (a : Nat) (v : W32) : Mem := mwrite m a (natLe 4 v.toNat)
def mwrite64 (m : Mem) (a : Nat) (v : W64) : Mem := mwrite m a (natLe 8 v.toNat)

/-- Field [hi:lo] of a word, as a number. -/
def bits {n : Nat} (w : BitVec n) (hi lo : Nat) : Nat := (w.toNat >>> lo) % 2 ^ (hi + 1 - lo)

/-- Bit [i] of a word. -/
def bit {n : Nat} (w : BitVec n) (i : Nat) : Bool := w.getLsbD i

/-- A bit as 0 or 1. -/
def b2n (b : Bool) : Nat := if b then 1 else 0

/-- Sign-extend the low `n` bits of a number to a 32-bit word. -/
def sextN (n x : Nat) : W32 := (BitVec.ofNat n x).signExtend 32

/-- Replace field [hi:lo] of a word. -/
def setBits {n : Nat} (w : BitVec n) (hi lo v : Nat) : BitVec n :=
  BitVec.ofNat n (w.toNat - (bits w hi lo) * 2 ^ lo + (v % 2 ^ (hi + 1 - lo)) * 2 ^ lo)

/-- Set or clear bit [i] of a word. -/
def setBit {n : Nat} (w : BitVec n) (i : Nat) (b : Bool) : BitVec n := setBits w i i (b2n b)

/-- Bytes cut into words, little-endian. -/
def toWords (n : Nat) (b : Bytes) : List W32 :=
  (List.range n).map (fun i => BitVec.ofNat 32 (leNat ((b.drop (4 * i)).take 4)))

/-- Words as bytes, little-endian. -/
def ofWords (ws : List W32) : Bytes := ws.flatMap (fun w => natLe 4 w.toNat)

/-- Number of one bits among the low `n` bits. -/
def popc (x : Nat) : Nat → Nat
  | 0 => 0
  | n + 1 => b2n (x.testBit n) + popc x n

/-- Numbers i < n with p i, ascending. -/
def idxs (n : Nat) (p : Nat → Bool) : List Nat := (List.range n).filter p

/-- Replace list element `i`. -/
def lset {α : Type} (l : List α) (i : Nat) (v : α) : List α := l.set i v

end Sys2Proof.Machine
end

