-- ==== Sys2Proof/Machine/Codes.lean ====
section
/-! DEFINITION. The check codes the spec names: CRC-16/CCITT-FALSE (Table 2.3, R47) and the IEEE 802.3 CRC-32 (11.3). -/

namespace Sys2Proof.Machine

def crc16Bit : Nat → Nat → Nat
  | 0, c => c
  | n + 1, c => crc16Bit n (if c ≥ 32768 then ((2 * c) % 65536) ^^^ 0x1021 else 2 * c)

/-- CRC-16/CCITT-FALSE: polynomial 0x1021, start 0xFFFF, not reflected. -/
def crc16From : Nat → Bytes → Nat
  | c, [] => c
  | c, b :: bs => crc16From (crc16Bit 8 (c ^^^ (b.toNat * 256))) bs
def crc16 (b : Bytes) : Nat := crc16From 0xFFFF b

def crc32Bit : Nat → Nat → Nat
  | 0, c => c
  | n + 1, c => crc32Bit n (if c % 2 = 1 then (c / 2) ^^^ 0xEDB88320 else c / 2)

/-- The CRC-32 of IEEE 802.3: start all ones, reflected, complemented. -/
def crc32From : Nat → Bytes → Nat
  | c, [] => c
  | c, b :: bs => crc32From (crc32Bit 8 (c ^^^ b.toNat)) bs
def crc32 (b : Bytes) : Nat := (crc32From 0xFFFFFFFF b) ^^^ 0xFFFFFFFF

/-- "123456789", the usual check string of both codes. -/
def checkBytes : Bytes := [0x31#8, 0x32#8, 0x33#8, 0x34#8, 0x35#8, 0x36#8, 0x37#8, 0x38#8, 0x39#8]

end Sys2Proof.Machine
end

