-- ==== Sys2Proof/Config.lean ====
section
/-! DEFINITION. What a part fixes (Table 0.4, Tables 1.4 and 3.4), and the values the spec leaves open.
Keys and random numbers are opaque: DESIGN CHOICE (log entry 8). -/

namespace Sys2Proof.Config

/-- Clock of operating point n in MHz (Table 3.4): 400 + 50 n. -/
def opMhz (n : Nat) : Nat := 400 + 50 * n

/-- VCODE of operating point n (Table 3.4). -/
def opVcode (n : Nat) : Nat := if n ≤ 8 then n else 8 + 4 * (n - 8)

/-- SKU ceiling as an operating point (R21, R88): OP16 on SZ2-A (SKU 1), OP11 on SZ2-E. -/
def skuCeil (sku : Nat) : Nat := if sku = 1 then 16 else 11

/-- SKU package power cap in units of 10 W (Table 1.4). -/
def skuCap (sku : Nat) : Nat := if sku = 1 then 1500 else 1050

/-- The contribution of an LVM block whose unit W items come from two commands of different modes
(R687): the accumulator lane's new value, for the free-value counter and the lane. Free: DESIGN CHOICE (log entry 10). -/
opaque lvmMixed : Nat → Nat → BitVec 32

/-- Whether a fault and the fault that another stream unit's next read finds arise in the same field cycle (R198), for the
free-value counter. Free: DESIGN CHOICE (log entry 76). -/
opaque sameCycle : Nat → Bool

/-- The line that a full cache gives up for a new one, for the free-value counter. Free: DESIGN CHOICE (log entry 53). -/
opaque victim : Nat → Nat

/-- COREID as a management core reads it; Table 12.5 gives it for the clusters' cores. Free: DESIGN CHOICE (log entry 65). -/
opaque mgmtCoreId : BitVec 64

/-- Whether a low pulse of 100 to 200 ns on TRAY_RST_N starts TRAY (R113). Free: DESIGN CHOICE (log entry 11). -/
opaque trayPulse : Nat → Bool

/-- The private keys of generation n (R553): identity and key agreement. Free: the random bit generator makes
them (log entry 8). -/
opaque dikPriv : Nat → Nat
opaque kakPriv : Nat → Nat
/-- The secret number of an ECDSA signature: the generation and the hash that is signed. Free (log entry 8). -/
opaque signNonce : Nat → Bytes → Nat

/-- Output of the island's random bit generator: counter and length. Free (log entry 8). -/
opaque drbg : Nat → Nat → Bytes

/-- Hiuri's certificate of the identity key made at manufacture (Table 14.5). Free (log entry 8). -/
opaque dikCert : Bytes

/-- Fused hash of firmware-signing key slot n (FWKH0 to FWKH3, Table 14.5), and Krovas's own copy (R638). Free
(log entry 8). -/
opaque fwkh : Nat → Bytes

/-- SHA-384 of the island firmware that the part was made with, and its version (R556, SIS_STAT.FWVER). Free (log entry 24). -/
opaque islandHash : Bytes
opaque islandVer : Nat

/-- The version that an island image in boot flash carries (SIS_STAT.FWVER); the spec gives its place in no image. Free:
DESIGN CHOICE (log entry 24). -/
opaque imageVer : Bytes → Nat

/-- What the IDCODE instruction captures, and the boundary register as SAMPLE/PRELOAD and EXTEST capture it (R568, IEEE
1149.1), which the spec does not restate. Free: DESIGN CHOICE (log entry 80). -/
opaque tapIdcode : Bytes
opaque tapBoundary : Nat → Bytes

/-- The PCI Express endpoint's class code, Device ID and Maximum Payload Size in bytes (R503). -/
def pcieClass : Nat := 0x12
def pcieDevice : Nat := 0x5A02
def pcieMaxPayload : Nat := 512

/-- The Warden's static address on the I3C bus (R505). -/
def i3cStatic : Nat := 0x2A

/-- The dynamic address that ENTDAA gives it; the spec names no value. Free: DESIGN CHOICE (log entry 79). -/
opaque entdaa : Nat

/-- Krovas's own fuses: revoked signing-key slots and its minimum SVN (R638). Free (log entry 8). -/
opaque krovasRevoked : List Nat
opaque krovasMinSvn : Nat

/-- What a byte of a staged image reads as that no transfer wrote: PRESUMED (log entry 67), as erased NOR flash does. -/
def flashErased : W8 := 0xFF#8

end Sys2Proof.Config
end

