-- ==== Sys2Proof/Machine/TileTypes.lean ====
section
/-! DEFINITION. Packets, flits, and the state of one tile, as plain data. -/

namespace Sys2Proof.Machine

/-- What the check of a stored word finds (R183, R185, R186). -/
inductive Ecc where
  | good | ce | ue
  deriving DecidableEq, Repr

/-- The fields of a header flit (Table 9.3). -/
structure Hdr where
  dx : Nat := 0
  dy : Nat := 0
  dplate : Nat := 0x7FF
  long : Bool := false
  sx : Nat := 0
  sy : Nat := 0
  splate : Nat := 0x7FF
  srckind : Bool := false
  pkey : Nat := 0
  op : Nat := 0
  ch : Nat := 0
  route : Nat := 0
  tag : Nat := 0
  status : Nat := 0
  payload : W32 := 0#32
  len : Nat := 0
  off : Nat := 0
  sel : Nat := 0
  deriving DecidableEq, Repr

/-- A packet: its header, its words, and two marks of the model's own: the port of the source router its answer
goes back to (the spec names only the router), and how many TILE resets its issuer had seen (R387). -/
structure Packet where
  h : Hdr
  ws : List W32 := []
  back : RPort := .loc
  gen : Nat := 0
  deriving DecidableEq, Repr

/-- KIND of a wire flit (Table 9.2). -/
inductive FKind where
  | single | head | body | tail
  deriving DecidableEq, Repr

/-- A flit on a lane (Table 9.2). Every flit of a packet carries the packet's header here, a model's own
convenience: on the wire a data flit follows its head by the lane's ownership. -/
structure Flit where
  kind : FKind
  h : Hdr
  back : RPort := .loc
  gen : Nat := 0
  ws : List W32 := []
  poison : Bool := false
  deriving DecidableEq, Repr

/-- STATE of TILE_STAT (Table 5.1). -/
inductive TState where
  | stopped | running | faulted | halted
  deriving DecidableEq, Repr

/-- A queue word with its check status (R574). -/
structure QWord where
  v : W32
  e : Ecc := .good
  deriving DecidableEq, Repr

/-- A pending-table entry (Table 10.5), with the completion credits its arrival still waits for (R250). -/
structure Pend where
  valid : Bool := false
  released : Bool := false
  sent : Bool := false
  cut : Bool := false
  id : Nat := 0
  waits : List Nat := []
  deriving DecidableEq, Repr

/-- One operation waiting on a word's full/empty bit, in the order they began to wait (R231, R383): the core's
own LDF or STE (register, next pc), or a parked remote operation with the header of its request. -/
inductive Waiter where
  | core (st : Bool) (word : Nat) (v : W32) (rd : Nat) (npc : W32)
  | parked (st : Bool) (word : Nat) (v : W32) (h : Hdr) (back : RPort) (gen : Nat)
  deriving DecidableEq, Repr

/-- The kinds of blocking remote instruction (R167). -/
inductive BlkKind where
  | rlw | rldf | rste
  deriving DecidableEq, Repr

/-- The blocking remote request in progress: its packet, destination register, next pc, GA, NAKs received, the
limits in force at issue (R203), and whether a retry waits for its backoff. -/
structure Blk where
  kind : BlkKind
  rd : Nat
  npc : W32
  ga : W64
  pkt : Packet
  naks : Nat := 0
  limit : W32
  backoff : Bool := false
  deriving DecidableEq, Repr

/-- A posted packet that holds a completion credit (R236). -/
structure Posted where
  ch : Nat
  ga : W64
  deriving DecidableEq, Repr

/-- One item a read stream has fetched: a linear vector, a stipple slot, or a structured-weights slot. -/
inductive Item where
  | vec (b : Bytes)
  | slot (hdr : W32) (packed : Bytes)
  | group (b : Bytes)
  deriving DecidableEq, Repr

/-- A stream unit (R188 to R194, Table 5.5): descriptor words 0-11, the active and the waiting command with their
copied words, flags, counters, and what the unit holds. -/
structure SUnit where
  desc : Sparse W32 := []
  act : Option (Sparse W32) := none
  wait : Option (Sparse W32) := none
  abort : Bool := false
  paused : Bool := false
  /-- STOP came while the unit still held vectors to write; it pauses once they are written (R194) -/
  pauseReq : Bool := false
  nnz : W32 := 0#32
  dens : W32 := 0#32
  pos : W32 := 0#32
  /-- items fetched so far (read), or vectors written so far (write) -/
  idx : Nat := 0
  /-- items the Lattice or VPOP has taken, or vectors LPUSH has handed over -/
  taken : Nat := 0
  /-- read: fetched items not yet taken -/
  buf : List Item := []
  /-- images of the front item already taken (WORD32 halves, structured groups) -/
  sub : Nat := 0
  /-- write: vectors handed over and not yet written, already in bytes with their element lanes -/
  res : List (List Nat) := []
  deriving DecidableEq, Repr

/-- A Lattice command that has not started (R285), with the operands read at issue (R286). -/
inductive LCmd where
  | lmac (f ad : Nat) (xs ws : List Nat)
  | lzero (ad : Nat)
  | lmov (ad aa : Nat)
  | ladd (f ad aa : Nat)
  | lsel (mx : Bool) (f ad aa : Nat)
  | lwid (f ad : Nat) (xs : List Nat)
  | lcvt (f : Nat) (sat int : Bool) (wd aa : Nat) (sc : Int)
  | lpush (n aa : Nat) (sc : Int)
  | lvm (f ad count ua uw : Nat)
  deriving DecidableEq, Repr

/-- One thing unit W supplies to a block: a vector for position k, or a structured group from position k. -/
inductive WPart where
  | vec (k : Nat) (l : List Nat)
  | group (k : Nat) (es : Nat) (b : Bytes)
  deriving DecidableEq, Repr

/-- The operands of an LVM block taken so far (R302, R317): the activations, the header bits when they came from a
stipple-in command, the next position, what unit W has supplied, and the MODE of each of its items. -/
structure LvmPart where
  xs : List Nat
  hdr : Option Nat := none
  pos : Nat := 0
  parts : List WPart := []
  modes : List Nat := []
  deriving DecidableEq, Repr

/-- The LVM being executed: accumulator, blocks left, format, units A and W, and the block in progress. -/
structure LvmRun where
  f : Nat
  ad : Nat
  left : Nat
  ua : Nat
  uw : Nat
  part : Option LvmPart := none
  deriving DecidableEq, Repr

/-- A fault to take: CODE, DETAIL, INFO (Table 5.7). -/
structure FaultRec where
  code : Nat
  detail : Nat
  info : W64
  deriving DecidableEq, Repr

/-- One physical tile (chapters 5 to 8 and 10). The defaults are the reset values. -/
structure Tile where
  /-- held in TILE reset (R118, R142): a view that `State.tile` takes from the field's released sub-waves; the stored
  copy is never read -/
  rst : Bool := true
  /-- TILE_STAT -/
  state : TState := .stopped
  stopping : Bool := false
  waiting : Bool := false
  wref : Bool := false
  /-- one instruction runs under STEP (R161) -/
  stepping : Bool := false
  pc : W32 := 0#32
  sregs : Sparse W32 := []
  vregs : Sparse (BitVec 256) := []
  accs : Sparse (BitVec 512) := []
  origin : W32 := 0x03F00000#32
  compat : W32 := 0#32
  feLimit : W32 := 0x0000C540#32
  /-- TILE_FAULT, TILE_FAULT_PC, TILE_FAULT_INFO -/
  fault : W32 := 0#32
  faultPc : W32 := 0#32
  faultInfo : W64 := 0#64
  /-- TILE_ECC_STAT and TILE_ECC_ADDR -/
  eccCe : Nat := 0
  eccUe : Nat := 0
  eccAddr : W32 := 0#32
  cyc : W64 := 0#64
  accSel : W32 := 0#32
  /-- tile memory: data bytes, full/empty bits and check status by word index (R68, R183) -/
  mem : Mem := []
  full : Sparse Bool := []
  upset : Sparse Ecc := []
  /-- corrected words not yet written back (R185) -/
  wb : List Nat := []
  queues : Sparse (List QWord) := []
  under : Sparse Bool := []
  pend : Sparse Pend := []
  /-- entries whose arrival has not left, in the order of their BARRIVEs (R250) -/
  arrivals : List Nat := []
  waiters : List Waiter := []
  blk : Option Blk := none
  out : Sparse Posted := []
  /-- credits a stalled REMFENCE or O = 1 queue send still waits for (R238, R245) -/
  fence : Option (List Nat) := none
  /-- the fence of the O = 1 queue send that stalls for credit is passed (R245) -/
  fenced : Bool := false
  /-- the fetch of the instruction that stalls has been counted (R185) -/
  noted : Bool := false
  /-- the core's posted packet whose head has been injected and whose tail has not: its channel, and the pc after its
  instruction (R379) -/
  sendCh : Option (Nat × W32) := none
  /-- the stream unit whose packet on C0 has a head injected and a tail not (R296) -/
  sendU : Option Nat := none
  /-- sources of C0 packets at the local port that wait for their turn or a credit, 0 the core and u + 1 unit u, and the
  source granted last (R353) -/
  want : List Nat := []
  lastC0 : Nat := 4
  /-- remote error latch: status and GA, and whether a further error came while it was set (R237) -/
  latch : Option (Nat × W64) := none
  latchMore : Bool := false
  /-- an asynchronous fault to take at the next instruction boundary (R197) -/
  afault : Option FaultRec := none
  /-- another fault was detected in the cycle of the one that waits (R198) -/
  afMulti : Bool := false
  streams : Sparse SUnit := []
  latq : List LCmd := []
  latRun : Option LvmRun := none
  /-- TILE or wider resets taken, a model's own count: answers to requests of an earlier life are discarded (R387) -/
  gen : Nat := 0
  /-- entries of the field's release log already taken (R403's multicast) -/
  relSeen : Nat := 0
  deriving DecidableEq, Repr

end Sys2Proof.Machine
end

