-- ==== Sys2Proof/Machine/FieldTypes.lean ====
section
/-! DEFINITION. The state of one field controller and of the mesh, as plain data. -/

namespace Sys2Proof.Machine

/-- A barrier node entry (Table 10.2). -/
structure BarNode where
  scope : Nat := 0
  rootf : Nat := 0
  expect : Nat := 0
  rels : Nat := 0
  remain : Nat := 0
  deriving DecidableEq, Repr

/-- A barrier root entry (Table 10.3). `cut` and `cutp` mark an FDONE or a Plate completion of the running instance
that carried CUT (R405); `fcount` and `pcount` say that an FDONE or a Plate completion has been counted in it (R395). -/
structure BarRoot where
  armed : Bool := false
  sys : Bool := false
  sysroot : Bool := false
  epoch : Bool := false
  rootplate : Nat := 0
  expectp : Nat := 0
  fmask : W64 := 0#64
  rcvd : W64 := 0#64
  lastf : Nat := 0
  remainp : Nat := 0
  remainf : Nat := 0
  rels : Nat := 0
  cut : Bool := false
  cutp : Bool := false
  fcount : Bool := false
  pcount : Bool := false
  deriving DecidableEq, Repr

/-- A RELEASE_F or RELEASE_T multicast (R402 to R405): id, LASTF, CUT, EPOCH, the field that sent it, and the routers of the
field, as 96 × row + column, that failed links kept a RELEASE_T from. -/
structure Rel where
  id : Nat
  lastf : Nat
  cut : Bool
  epoch : Bool
  src : Nat
  miss : List Nat := []
  deriving DecidableEq, Repr

/-- A Stylus command in a field's queues (Table 12.10): resets, a ceiling, column map, topology copy and a packet to inject
on the way down; an event on the way up. -/
inductive StyCmd where
  | rstF
  | rstT (row col : Nat)
  | ceil
  | colmap
  | topo (v : W32)
  | mesh (q : Packet)
  | event (bits : Nat)
  deriving DecidableEq, Repr

/-- An operating-point change in progress: the point pursued and its direction (Tables 3.5, 3.6). -/
structure OpChange where
  goal : Nat
  rising : Bool
  deriving DecidableEq, Repr

/-- Counts of a Slack Harvesting window (R96 to R98). -/
structure ShWin where
  cyc : Nat := 0
  act : Nat := 0
  wait : Nat := 0
  rel : Nat := 0
  last : Nat := 0
  deriving DecidableEq, Repr

/-- One field controller (chapters 2, 3, 4, 9, 10, 12, 15). The defaults are the reset values; `clkCeil` and the
column map are set at release (Tables 2.4, 3.7). -/
structure Field where
  /-- held in reset (R118, R137, R144) -/
  rst : Bool := true
  /-- steps 1 to 3 of Table 4.5 done: column map loaded, memory initialised, crossings restored -/
  seqDone : Bool := false
  /-- tile sub-waves released (R141), and tiles under a TILE reset, 96 * row + column (R145) -/
  subwave : Nat := 0
  tileRst : List Nat := []
  clkTgt : Nat := 13
  clkCeil : Nat := 16
  clkWref : Bool := false
  src : Bool := false
  lock : Bool := false
  vcode : Nat := 0
  eff : Nat := 0
  limit : Nat := 0
  change : Option OpChange := none
  /-- operating point of the clock itself, a model's own field: EFF may lead it during a change (R90, R92) -/
  op : Nat := 0
  /-- EFF and LIMIT follow R89: the field's last sub-wave has been released (R93) -/
  tracking : Bool := false
  shCtl : W32 := 0x80100059#32
  shBar : Nat := 0
  shOp : Nat := 16
  quiet : Nat := 0
  shWin : ShWin := {}
  shOld : ShWin := {}
  xdrop : Nat := 0
  colmap : List W32 := []
  colmapSh : List W32 := []
  topo : W32 := 0#32
  sealAct : W32 := 0x00001FC0#32
  sealSh : W32 := 0x00001FC0#32
  meshStat : W32 := 0#32
  sealDrop : Nat := 0
  keyDrop : Nat := 0
  hopCe : Nat := 0
  hopRetry : Nat := 0
  linkFail : W32 := 0#32
  dropHdr : BitVec 128 := 0#128
  barNode : Sparse BarNode := []
  barRoot : Sparse BarRoot := []
  barcutSel : W32 := 0#32
  barStat : W32 := 0#32
  barDrop : W32 := 0#32
  evt : W32 := 0#32
  evtEn : W32 := 0x1FF#32
  fltLog : List W32 := []
  burnCtl : W32 := 0x11#32
  burnPass : W32 := 0#32
  burnCe : Nat := 0
  burnUec : Nat := 0
  burnUea : W32 := 0#32
  /-- Burnish: next word by physical tile, and the tiles that have completed the running pass (R585, R587) -/
  burnPos : Sparse Nat := []
  burnDone : List Nat := []
  ecnt : Nat := 0
  colref : Nat := 0
  coldone : Bool := false
  sealdone : Bool := false
  /-- RELEASE_F multicasts that have reached this field controller and wait to be taken -/
  relF : List Rel := []
  /-- RELEASE_T multicasts sent in this field, oldest first -/
  relLog : List Rel := []
  /-- Stylus queues: Warden to field, field to Warden (R510) -/
  down : List StyCmd := []
  up : List StyCmd := []
  deriving DecidableEq, Repr

/-- The mesh and Hatch layer (chapter 9), keyed by lane, link direction or attachment port. -/
structure Mesh where
  /-- flits held by each input lane, front first (R343, Tables 3.2, 3.3) -/
  lanes : Sparse (List Flit) := []
  /-- credits in use at the sender of each lane, and credits on their way back (R81, R83) -/
  used : Sparse Nat := []
  retn : Sparse Nat := []
  /-- the input lane whose packet holds an output lane, and that packet's head (R352) -/
  owner : Sparse (Nat × Flit) := []
  /-- input lanes that drop flits up to and with the next tail; the flag tells that FLD_XDROP counts them (R373, R577) -/
  sink : Sparse Bool := []
  /-- flits of the packet being handed over at an attachment port, by port and channel -/
  asm : Sparse (List W32) := []
  /-- packets handed over and not yet taken, by port and channel (R354) -/
  inbox : Sparse (List Packet) := []
  /-- flits of packets begun at an attachment port, by port and channel, that wait there for a credit (R85, R379) -/
  entry : Sparse (List Flit) := []
  /-- the last 16 flits sent on each link direction with their lanes, newest last (R362) -/
  sent : Sparse (List (Nat × Flit)) := []
  /-- flits discarded behind a replay request on a link direction, which the sender resends in this order (R362) -/
  replay : Sparse (List (Nat × Flit)) := []
  /-- how often a lane's front flit arrived uncorrectable (R363) -/
  ueCnt : Sparse Nat := []
  /-- round-robin: the (channel, lane) pair that an output granted last (R351), and the input port, with its lane, whose
  packet held an output lane last (R352) -/
  pairRr : Sparse Nat := []
  portRr : Sparse Nat := []
  /-- failed links by link direction (R363), and lanes stopped by a lost credit return (R365) -/
  failed : Sparse Bool := []
  stopped : Sparse Bool := []
  deriving DecidableEq, Repr

end Sys2Proof.Machine
end

