-- ==== Sys2Proof/Machine/IslandTypes.lean ====
section
/-! DEFINITION. The state of the security island (chapter 14), as plain data. -/

namespace Sys2Proof.Machine

/-- SIS_STAT.STATE (Table 14.2). -/
inductive SisSt where
  | selftest | operational | softErr | hardErr | zeroizing | keygen
  deriving DecidableEq, Repr

def SisSt.code : SisSt → Nat
  | .selftest => 0 | .operational => 1 | .softErr => 2 | .hardErr => 3 | .zeroizing => 4 | .keygen => 5

/-- A master key with the partition key it is bound to (slot 0 ignores K). -/
structure Master where
  key : Bytes
  k : Nat
  deriving DecidableEq, Repr

/-- The command in progress (R550): its opcode, and the challenge that it consumed (R551). -/
structure SisBusy where
  op : Nat
  ch : Option Bytes
  deriving DecidableEq, Repr

/-- The island: status and command registers, volatile secrets, NVM and fuses. The defaults are the state at POR of a
part as made, with no owner. -/
structure Island where
  st : SisSt := .selftest
  wref : Bool := false
  dbg : Bool := false
  /-- the island firmware image in boot flash that the ROM verified (R556); none for the one the part was made with -/
  img : Option Bytes := none
  /-- SIS_RSP -/
  busy : Option SisBusy := none
  done : Bool := false
  result : Nat := 0
  /-- SIS_BUF -/
  buf : Mem := []
  /-- master key slots 0 to 64 (Table 14.5) -/
  slots : Sparse Master := []
  /-- MREG0 to MREG7 where extended -/
  mreg : Sparse Bytes := []
  /-- challenge not yet used, and its age in ticks (R551) -/
  chal : Option Bytes := none
  chalAge : Nat := 0
  qcount : Nat := 0
  /-- greatest GEN loaded since the start, by 16 × die + port (R563) -/
  gens : Sparse Nat := []
  /-- an accepted unlock waits for the release of ZERO (R570) -/
  unlock : Bool := false
  /-- HARD_ERR follows the zeroization in progress -/
  hardAfter : Bool := false
  /-- bits drawn from the random generator so far, in calls: the model's own counter -/
  drawn : Nat := 0
  /-- NVM: DIK and KAK present, Hiuri certificate present, owner hash -/
  hasDik : Bool := true
  hasCert : Bool := true
  owner : Option Bytes := none
  /-- fuses: revoked signing-key slots, MINSVN by TYPE, DIKGEN, tamper count -/
  revoked : List Nat := []
  minSvn : Sparse Nat := []
  dikGen : Nat := 0
  tamper : Nat := 0
  /-- the passive lid-breach latch is open -/
  lidLatch : Bool := false
  deriving DecidableEq, Repr

/-- What POR, TRAY and ZERO clear (Table 4.2, Table 14.5, R557, R571). A zeroization in progress goes on through its own
ZERO, and an accepted unlock with it (R570). -/
def Island.reset (i : Island) (zero : Bool) : Island :=
  let z : Bool := zero && i.st == .zeroizing
  { st := if z then .zeroizing else .selftest, unlock := z && i.unlock, hardAfter := z && i.hardAfter, drawn := i.drawn, hasDik := i.hasDik, hasCert := i.hasCert,
    owner := i.owner, revoked := i.revoked, minSvn := i.minSvn, dikGen := i.dikGen, tamper := i.tamper,
    lidLatch := i.lidLatch }

end Sys2Proof.Machine
end

