-- ==== Sys2Proof/Machine/KrovasTypes.lean ====
section
/-! DEFINITION. The state of the Krovas tray controller (chapter 16), as plain data. -/

namespace Sys2Proof.Machine

/-- Bank states (Table 16.8). -/
inductive BankSt where
  | empty | staging | staged | trial | active | rejected
  deriving DecidableEq, Repr

/-- A settings copy (Table 16.4): ORPHAN_T in minutes, HB_T in seconds, TRIAL_T in minutes, TRAY_PMAX in W, power
policy (0 Off, 1 On, 2 Last), the topology record. -/
structure Settings where
  orphanT : Nat := 10
  hbT : Nat := 30
  trialT : Nat := 5
  trayPmax : Nat := 15000
  policy : Nat := 0
  topo : Option (W32 × Nat) := none
  deriving DecidableEq, Repr

/-- A firmware bank of Krovas with its settings copy (16.7): set version and schemas of its manifest, the schema that
its copy was written in, and whether the copy has its commit record (R642). -/
structure Bank where
  st : BankSt := .empty
  reason : Nat := 0
  setVer : Nat := 0
  schema : Nat := 0
  migMin : Nat := 0
  krovas : Bytes := []
  manifest : Bytes := []
  copy : Settings := {}
  copySchema : Nat := 0
  committed : Bool := false
  deriving DecidableEq, Repr

/-- The two masters (R616). -/
inductive Master2 where
  | host | fm
  deriving DecidableEq, Repr

/-- What Krovas logs and reports. -/
inductive KEvent where
  | islandState (st : Nat)
  | sisErr (low : Bool)
  | lockstep
  | overCap
  | bootFail (ty : Nat)
  | ready
  | bypPos (d : Nat) (thru : Bool)
  | bypFail (d : Nat)
  | powerOff
  | orphan
  | stagingRefused
  | rejected (bank reason : Nat)
  | hold
  deriving DecidableEq, Repr

/-- An answer of Krovas to a master: tag, status (Table 16.3), ARG0. -/
structure KAns where
  tag : Nat
  status : Nat
  arg0 : Nat := 0
  deriving DecidableEq, Repr

/-- A Redfish answer: the Krovas code in the message arguments, and the Redfish status (Table 16.3, R621). -/
structure HAns where
  tag : Nat
  status : Nat
  http : Nat
  deriving DecidableEq, Repr

/-- A BYPASS_OUT that waits for its position sense (R634): its tag, its directions and the Plate that sent it. -/
structure BypWait where
  tag : Nat
  mask : Nat
  src : Nat
  deriving DecidableEq, Repr

/-- The last power command of a master (R618): whether it asks for on, its tag, and when it came. -/
structure PwCmd where
  on : Bool
  tag : Nat
  at_ : Nat
  deriving DecidableEq, Repr

/-- What GET_STATE gives of Table 16.6. -/
structure HwTel where
  stage : Nat := 0
  ready : Bool := false
  hb : Nat := 0
  deriving DecidableEq, Repr

/-- What TELEM_RD gives (Table 16.6): RIMx_PORTUP, RIMx_STAT and WDN_EVT_RIM for both masters, the rest for the host. -/
structure FwTel where
  portUp : List W32 := []
  rimStat : List W32 := []
  evtRim : W32 := 0#32
  pkgW : Nat := 0
  pwrStat : W32 := 0#32
  fldW : List Nat := []
  dead : W64 := 0#64
  unav : W64 := 0#64
  evtPend : W64 := 0#64
  deriving DecidableEq, Repr

/-- A reading of the Warden with its stale flag, and the age of the last reading in ticks (R637). -/
structure Reading (α : Type) where
  val : α
  stale : Bool
  age : Nat
  deriving DecidableEq, Repr

/-- What a telemetry frame holds (R637): the items of Table 16.6 marked Both. -/
structure TelFrame where
  inlet : Int
  coolant : Int
  pkg : Int
  trayW : Nat
  alertLow : Bool
  islandSt : Nat
  sisErr : Bool
  hw : Reading HwTel
  rim : Reading (List W32 × List W32 × W32)
  bypPos : Nat
  bypFail : Nat
  banks : List BankSt
  setVer : Nat
  deriving DecidableEq, Repr

/-- Krovas and its tray. -/
structure Krovas where
  standby : Bool := true
  /-- PKG_PWR_EN -/
  pwr : Bool := true
  /-- the package was on when standby was lost (policy Last) -/
  wasOn : Bool := true
  banks : Sparse Bank := [(0, { st := .active, committed := true })]
  /-- the bank that runs -/
  run : Nat := 0
  /-- a trial or a fallback is running (R646); the fallback of the last staging is spent (R644); maintenance hold -/
  trial : Bool := false
  fallback : Bool := false
  hold : Bool := false
  /-- BYP_DRV and BYP_POS by direction; switches logged as failed -/
  drv : W8 := 0#8
  pos : W8 := 0#8
  failed : W8 := 0#8
  /-- BYPASS_OUT commands that wait for their position sense (R634) -/
  wait : List BypWait := []
  /-- tray sensors as last read, in °C: inlet, coolant, package (Table 16.1) -/
  inletT : Int := 0
  coolantT : Int := 0
  pkgT : Int := 0
  /-- tray input power as last averaged, in W; FM_PLATE that the host wrote while no record is stored -/
  trayW : Nat := 0
  fmPend : Nat := 0
  /-- the last readings of the Warden by GET_STATE and by TELEM_RD, and when they were made (R637) -/
  seenHw : Option (Nat × HwTel) := none
  seenFw : Option (Nat × FwTel) := none
  /-- PWR_ALERT_N low; conditions of Table 16.5 -/
  alertLow : Bool := false
  coolant : Bool := false
  pkgHot : Bool := false
  leak : Bool := false
  overP : Bool := false
  /-- SIS_ERR_N as last seen low -/
  sisErr : Bool := false
  islandSt : Nat := 0
  ready : Bool := false
  lockstep : Bool := false
  stall : Bool := false
  noReady : Bool := false
  /-- HBCOUNT as last read since READY (Table 16.9, step 6); the time until which an orphan action runs (R632) -/
  hbSeen : Option Nat := none
  actTill : Nat := 0
  /-- times of the orphan resets of the last 24 h (R633) -/
  orphans : List Nat := []
  /-- ticks since the model began: Krovas's own clock -/
  now : Nat := 0
  /-- last tag and result of each master (R619); the fabric manager's last tag, whose command may still wait -/
  lastHost : Option KAns := none
  lastFm : Option KAns := none
  fmTag : Option Nat := none
  /-- the last power command of each master (R618) -/
  pwHost : Option PwCmd := none
  pwFm : Option PwCmd := none
  /-- outputs: answers to the host and to the fabric manager, Redfish reads, telemetry frames, the log -/
  hostOut : List HAns := []
  fmOut : List KAns := []
  readOut : List W32 := []
  telPeriod : Nat := 0
  telOut : List TelFrame := []
  /-- the Plate that subscribed, and frames that wait for MGMT_WR with the Plate they go to (R622) -/
  telTo : Nat := 0
  frameOut : List (Nat × Bytes) := []
  log : List KEvent := []
  deriving DecidableEq, Repr

def Krovas.bank (k : Krovas) (n : Nat) : Bank := sget {} k.banks n
def Krovas.setBank (k : Krovas) (n : Nat) (b : Bank) : Krovas := { k with banks := sput k.banks n b }
/-- The running settings copy. -/
def Krovas.settings (k : Krovas) : Settings := (k.bank k.run).copy

end Sys2Proof.Machine
end

