-- ==== Sys2Proof/Isa.lean ====
section
/-! DEFINITION. The mnemonics of Veluc-T and Veluc-H, and the fields of a decoded instruction word. -/

namespace Sys2Proof

/-- Mnemonics of Tables 6.2 to 6.4, 7.3 to 7.6 and 12.4. -/
inductive Mn where
  | add | sub | and | or | xor | sll | srl | sra | slt | sltu | mul | mulh | mulhu | min | max | minu | maxu
  | clz | popc | fadd | fsub | fmul | fmin | fmax | feq | flt | fle | fcvtws | fcvtsw | addi | andi | ori
  | xori | slti | sltiu | lui | slli | srli | srai | limm | lw | lh | lhu | lb | lbu | sw | sh | sb | ldf
  | ste | crd | cwr | beq | bne | blt | bge | bltu | bgeu | jal | jalr | halt | brk | rlw | rsw | rsh | rsb
  | rcopy | rldf | rste | sendq | sendq2 | sendqm | remfence | gaxy | qtry | qcnt | barrive | barwait
  | bartest | vldb | vldh | vstb | vsth | vadd | vsub | vmul | vmin | vmax | vmov | vsplat | vext | vins
  | vcvt | scvtf | scvtn | lmac | lmacs | lzero | lmov | ladd | lmaxa | lmina | lwid | lcvt | lcvtq | lvm
  | sdgo | sdwait | vpop | lpush | ld | sd | pcrr | pcrw | sysc | tret | idle | pfence | xlinv | cinv
  | cinvall | atswp | atadd
  deriving DecidableEq, Repr

/-- The fields of one instruction word (Tables 6.1 and R274), as numbers; `imm` is the extended immediate,
`limm` tells that a LIMM prefix supplied its upper half. -/
structure Fields where
  mn : Mn
  d : Nat := 0
  a : Nat := 0
  b : Nat := 0
  qa : Bool := false
  qb : Bool := false
  o : Bool := false
  imm : W32 := 0#32
  fmt : Nat := 0
  sat : Bool := false
  deriving DecidableEq, Repr

end Sys2Proof
end

