-- ==== Sys2Proof/Machine/PressTypes.lean ====
section
/-! DEFINITION. The state of a Press cluster, its gate and its cores (chapter 12), as plain data. -/

namespace Sys2Proof.Machine

/-- Privilege levels of Veluc-H (R491). -/
inductive Lvl where
  | u | s | m
  deriving DecidableEq, Repr

/-- A cached translation (R495): first VA and size of its page, XID, entry. -/
structure Tlb where
  va : Nat
  size : Nat
  xid : Nat
  ent : W64
  deriving DecidableEq, Repr

/-- What a blocked core waits for: an uncached load, a full/empty access, or a line fill (R478, R483, R486). -/
inductive PKind where
  | load | feLd | feSt | fill
  deriving DecidableEq, Repr

/-- An access a core waits for: the instruction, its destination and next pc, the GA, the first byte's place and the
line's PA (fills), the words still awaited by index, those that came, and for a full/empty access its retries. -/
structure PBlk where
  kind : PKind
  mn : Mn
  rd : Nat
  npc : W64
  va : W64
  ga : W64
  pos : Nat := 0
  line : Nat := 0
  need : List Nat
  got : Sparse W32 := []
  naks : Nat := 0
  backoff : Bool := false
  pkt : Packet
  deriving DecidableEq, Repr

/-- A gate tag in use (R477): the core, the word of its blocked access, or none for a posted packet, the channel and
the GA; `dead` marks the tag of an access that has already failed. -/
structure GTag where
  core : Nat
  word : Option Nat
  ch : Nat
  ga : W64
  dead : Bool := false
  deriving DecidableEq, Repr

/-- A tile-memory line in L2 or L3: its 64 bytes, and whether its check is uncorrectable (R486, R576). -/
structure CLine where
  b : Bytes := []
  ue : Bool := false
  deriving DecidableEq, Repr

/-- One Veluc-H core. -/
structure PCore where
  pc : W64 := 0#64
  lvl : Lvl := .m
  xregs : Sparse W64 := []
  /-- control registers by number (Table 12.5); the S_ views of M_IMASK and M_IPEND have no storage -/
  ctl : Sparse W64 := []
  pend : Sparse Pend := []
  arrivals : List Nat := []
  latch : Option (Nat × W64) := none
  latchMore : Bool := false
  /-- tags a stalled PFENCE still waits for (R496) -/
  fence : Option (List Nat) := none
  blk : Option PBlk := none
  tlb : List Tlb := []
  /-- tile-memory lines in L2, by PA / 64 (R486) -/
  l2 : Sparse CLine := []
  deriving DecidableEq, Repr

/-- One Press cluster with its gate (Tables 12.2, 12.8). The defaults are the reset values. The management pair (R500) has the same
form, as unit 16: its SRAM in the place of scratch, its one program in core 0. -/
structure Press where
  rst : Bool := true
  pll : Bool := false
  /-- not locked 200 µs after it was enabled: held in reset on the reference (R132) -/
  pllDown : Bool := false
  /-- PRS_CORECTL.HOLD -/
  hold : W32 := 0xF#32
  bootvec : W32 := 0#32
  ways : Nat := 4
  /-- a change of WAYS that waits for accesses in flight (R488) -/
  waysNew : Option Nat := none
  clkTgt : Nat := 8
  clkEff : Nat := 8
  gov : Nat := 24
  gstat : W32 := 0#32
  ckey : Sparse W32 := []
  fwin : Sparse W64 := []
  gkeymap : Sparse W32 := []
  db : Sparse W32 := []
  ipi : W32 := 0#32
  scratch : Mem := []
  /-- 8-byte scratch words with an uncorrectable error (R576) -/
  scratchBad : List Nat := []
  /-- tile-memory lines in L3, by PA / 64 -/
  l3 : Sparse CLine := []
  tags : Sparse GTag := []
  /-- tags freed by HOLD that are not yet idle for 1 ms (R612) -/
  idle : List Nat := []
  cores : Sparse PCore := []
  /-- packets that the gate has admitted for the cluster (R476) -/
  inq : List Packet := []
  relSeen : Nat := 0
  deriving DecidableEq, Repr

end Sys2Proof.Machine
end

