-- ==== Sys2Proof/Machine/ProofTypes.lean ====
section
/-! DEFINITION. The state of the Proof Console (chapter 17), as plain data. -/

namespace Sys2Proof.Machine

/-- The Proof Console (Tables 17.4, 17.5). The defaults are the reset values. -/
structure Proof where
  ctl : W32 := 0#32
  /-- PRF_STAT [5:0] -/
  stat : W32 := 0#32
  hpd : Bool := false
  lock : Bool := false
  vblank : Bool := false
  /-- a write of PRF_PCLK whose PLL has not locked yet (R670) -/
  locking : Bool := false
  pclk : Nat := 0x61A8
  htim0 : W32 := 0#32
  htim1 : W32 := 0#32
  vtim0 : W32 := 0#32
  vtim1 : W32 := 0#32
  frame : W32 := 0#32
  cframe : W32 := 0#32
  pending : Bool := false
  /-- a latch point has passed since the pending GO, or since the last fence, was written (R657, R664) -/
  goOld : Bool := false
  fenceOld : Bool := false
  bg : W32 := 0#32
  auxCtl : W32 := 0#32
  auxBusy : Bool := false
  auxTimeout : Bool := false
  auxCode : Nat := 0
  auxData : Mem := []
  /-- PRF_MAP_FLIP: REQ, BASE (offset bits [21:12]), FID -/
  req : Bool := false
  flipBase : Nat := 0
  fid : Nat := 0
  /-- PRF_FENCE_SIG, and the value that the pixel domain holds (R664) -/
  fence : Nat := 0
  fencePix : Nat := 0
  mapFframe : W32 := 0#32
  /-- Table 17.5 by offset / 4 -/
  shadow : Sparse W32 := []
  active : Sparse W32 := []
  /-- palette entries: 256 × bank + i -/
  pal : Sparse W32 := []
  /-- the last line composed, and its number: an output -/
  line : List W32 := []
  lineNo : Nat := 0
  deriving DecidableEq, Repr

end Sys2Proof.Machine
end

