-- ==== Sys2Proof/Machine/RimTypes.lean ====
section
/-! DEFINITION. The state of a Rim die and its ports (chapter 11), as plain data. -/

namespace Sys2Proof.Machine

/-- A packet on its way out of a port, with its ring lane (11.5), and the corner link whose buffer it still fills: the die
that sent it over the link and its ring lane there (R437). -/
structure OutPkt where
  p : Packet
  rl : Bool := false
  via : Option (Nat × Bool) := none
  deriving DecidableEq, Repr

/-- A packet of an accepted frame that has not been passed on: its port and ring lane, and the units of the receive buffer
that it fills (R437). -/
structure RxPkt where
  port : Nat
  rl : Bool
  units : Nat
  p : Packet
  deriving DecidableEq, Repr

/-- A frame in a replay buffer (R432): its number, its bytes as sent, and the packets it carries. -/
structure RepEnt where
  seq : Nat
  frame : Bytes
  ps : List OutPkt
  deriving DecidableEq, Repr

/-- What a port in TRAINING will do when its LINK_ID arrives: start from SEQ 0 (enable, R450) or go on (R436). -/
inductive Train where
  | fresh | keep
  deriving DecidableEq, Repr

/-- One port of a Rim die. -/
structure RimPort where
  /-- RIMx_PCFGn -/
  pcfg : W32 := 0#32
  /-- RIMx_PSTATn: STATE 0 DISABLED, 1 TRAINING, 2 UP, 3 DOWN; REASON -/
  st : Nat := 0
  reason : Nat := 0
  /-- RIMx_PERRn and RIMx_PRETRn -/
  replays : Nat := 0
  crcErr : Nat := 0
  pretr : Nat := 0
  train : Train := .fresh
  /-- signal present (R449) -/
  sig : Bool := true
  /-- identity that the peer reported: fields A and B of its LINK_ID (R436) -/
  peer : Option (Nat × Nat) := none
  /-- next SEQ to send; expected SEQ; whether a frame has been accepted; expected number last named in a NAK, and when (R432, R433) -/
  seq : Nat := 0
  exp : Nat := 0
  got : Bool := false
  nakFor : Option (Nat × Nat) := none
  rep : List RepEnt := []
  /-- replay count (R435) -/
  count : Nat := 0
  /-- credits by channel and ring lane, in units of 16 bytes, cumulative: used and returned at the sender; freed at
  the receiver, and freed as last told (R437) -/
  txUsed : Sparse Nat := []
  txFree : Sparse Nat := []
  rxFree : Sparse Nat := []
  rxTold : Sparse Nat := []
  /-- packets waiting to be framed, oldest first -/
  q : List OutPkt := []
  /-- key slots 0 and 1 by 2 × slot + direction (0 transmit, 1 receive): 32-byte key and 4-byte salt (R466, R562) -/
  keys : Sparse Bytes := []
  /-- the IV counter of each key (R466, R562) -/
  iv : Sparse Nat := []
  /-- frames sent on the wire, oldest first: an output -/
  tx : List Bytes := []
  deriving DecidableEq, Repr

/-- A failover in progress or waiting (R443 to R446): the failed port, whether its buckets have moved and the request
is out, its frames and the buckets it held. -/
structure Failover where
  port : Nat
  run : Bool := false
  buckets : List Nat
  frames : List RepEnt
  deriving DecidableEq, Repr

/-- Neighbour loss (R449, R450). -/
inductive NbrState where
  | ok | noSignal | training | broken
  deriving DecidableEq, Repr

/-- One Rim die (Table 11.7). The defaults are the reset values. -/
structure Rim where
  rst : Bool := true
  /-- the die's PLL is locked; it runs on the reference otherwise (R131, R132) -/
  pll : Bool := false
  /-- not locked 200 µs after it was enabled: held in reset on the reference (R132) -/
  pllDown : Bool := false
  topo : W32 := 0#32
  stat : W32 := 0#32
  keydrop : Nat := 0
  undeliv : Nat := 0
  bkt : Sparse W32 := []
  bktSh : Sparse W32 := []
  keymap : Sparse W32 := []
  keymapSh : Sparse W32 := []
  span : Sparse W32 := []
  ports : Sparse RimPort := []
  /-- the ring neighbour's Plate id, learnt from LINK_ID (R450) -/
  nbr : Option Nat := none
  loss : NbrState := .ok
  fo : List Failover := []
  /-- buckets moved by an epoch and the port whose older frames they wait for (R448) -/
  moved : List (Nat × Nat) := []
  /-- packets held by R445, R448 or R449, in order -/
  held : List OutPkt := []
  /-- packets in the receive buffers, in the order they were accepted (R437) -/
  rx : List RxPkt := []
  /-- answers that wait for a credit into the mesh, with the bridge router (R81, R348) -/
  ans : List (Nat × Packet) := []
  /-- MGMT packets for the Warden (R507) -/
  mgmt : List Packet := []
  deriving DecidableEq, Repr

end Sys2Proof.Machine
end

