-- ==== Sys2Proof/Machine/WardenTypes.lean ====
section
/-! DEFINITION. The state of the Warden: reset controller, governor, host interface, epoch sequencer (chapters 3, 4, 12,
15), as plain data. -/

namespace Sys2Proof.Machine

/-- The four classes that reset more than one field, widest first (Table 4.1). -/
inductive RCls where
  | por | tray | zero | plate
  deriving DecidableEq, Repr

/-- The FIELD or TILE command in progress (R117). -/
inductive RstCmd where
  | field (f : Nat)
  | tile (r : Nat)
  deriving DecidableEq, Repr

/-- An epoch that a root has reported to the sequencer (R591): root field, id, CUT, LASTF. -/
structure EpochEv where
  f : Nat
  id : Nat
  cut : Bool
  lastf : Nat
  /-- the root field was reset after its event: its release is lost (15.9) -/
  lost : Bool := false
  deriving DecidableEq, Repr

/-- A MESH injection whose answer is awaited (R504, R509): the host window that asked, or none for firmware; whether
it is a read; the word of the access it carries, and how many words the access reads. -/
structure MeshReq where
  win : Option Nat
  rd : Bool
  word : Nat := 0
  words : Nat := 1
  deriving DecidableEq, Repr

/-- A host window read that waits for its answers (R504). -/
structure HostRd where
  words : Nat
  got : Sparse W32 := []
  deriving DecidableEq, Repr

/-- A record of the retirement log: field index, physical column, spare, sequence number (R47). -/
structure LogRec where
  f : Nat
  p : Nat
  s : Nat
  seq : Nat
  deriving DecidableEq, Repr

/-- A slot of one copy of the log: erased, a record whose CRC matches, or neither (R49). -/
inductive LogSlot where
  | erased | ok (r : LogRec) | bad
  deriving DecidableEq, Repr

/-- A completion returned to the host: data, or Completer Abort. -/
inductive Cpl where
  | data (ws : List W32)
  | abort
  deriving DecidableEq, Repr

/-- The controller of the test access port (R152, R568): its instruction, and what its data register last captured. -/
structure Tap where
  ir : TapInstr := .idcode
  dr : Bytes := []
  deriving DecidableEq, Repr

/-- The Warden: reset controller, governor, host interface, Stylus, epoch sequencer. What reaches the world from it stands
in `cpl`, `msix` and `ibi`. -/
structure Warden where
  /-- the governing class, whether it is still asserted, and the release in progress (R118, R135) -/
  cls : RCls := .por
  asserted : Bool := true
  stage : Nat := 1
  /-- stage 3a done: clock network and PLLs enabled -/
  clkOn : Bool := false
  go : Bool := false
  /-- next wave to release (R137) -/
  wave : Nat := 0
  cmd : Option RstCmd := none
  rstRef : Bool := false
  cmdFail : Bool := false
  /-- WDN_RST_CAUSE -/
  cause : W32 := 1#32
  dead : W64 := 0#64
  /-- field regulators enabled (stage 3a, R154), bit f for field f -/
  reg : W64 := 0#64
  /-- Rim dies and clusters reported down to Warden firmware because their PLL did not lock (R132), oldest first -/
  downRep : List Domain := []
  /-- the island asserts ZERO: the release order begins when it reports erasure complete (R114) -/
  zeroHold : Bool := false
  /-- a ZERO has started and stage 2 has not ended since (R120) -/
  zeroWin : Bool := false
  unav : W64 := 0#64
  /-- WDN_RST_GAPn where written; the others hold the resets of Table 4.8 -/
  gap : Sparse Nat := []
  keep : Sparse W64 := []
  ground : Mem := []
  /-- Ground and SRAM 64-bit words with an uncorrectable or a single-bit error, by Warden offset / 8 (R129, R575) -/
  bad : Sparse Ecc := []
  /-- pins: PLATE_RST_OUT, TRAY_RST_N low, supplies in regulation, reference present, power alert -/
  rstOut : Bool := true
  trayLow : Bool := false
  supply : Bool := false
  refOk : Bool := true
  alertPin : Bool := false
  /-- management cores and peripherals released; the lockstep pair stopped (R500); boot ROM done (R502) -/
  coresUp : Bool := false
  periphUp : Bool := false
  lstep : Bool := false
  booted : Bool := false
  /-- WDN_BOOT.SRC, and its value when the management cores were released (R502) -/
  bootSrc : Bool := false
  bootFrom : Bool := false
  /-- the test access port -/
  tap : Tap := {}
  /-- the dynamic address that ENTDAA gave the I3C target (R505) -/
  dynAddr : Option Nat := none
  /-- the Stylus link whose request was served last (R511) -/
  rrSty : Nat := 63
  /-- governor (3.6) -/
  pwrCap : Nat := 1500
  headroom : Nat := 0x0D
  alert : Bool := false
  overCap : Bool := false
  pkgW : Nat := 0
  fldW : Sparse Nat := []
  /-- the last power report of each field, of each Rim die and of each Press cluster, in watts (R103) -/
  rimW : Sparse Nat := []
  prsW : Sparse Nat := []
  ceil : Sparse Nat := []
  rrNext : Nat := 0
  /-- onsets of OVER reported to Krovas -/
  overRep : Nat := 0
  /-- column state of each field (R46) -/
  colSt : Sparse (List W32) := []
  /-- fields whose rebuilt column state is invalid or whose log has an unreadable slot (R48, R49) -/
  colBad : W64 := 0#64
  /-- the two copies of the retirement log in boot flash, by slot 4 * field + n (R47) -/
  logA : Sparse LogSlot := []
  logB : Sparse LogSlot := []
  /-- Warden SRAM by Warden offset: mailbox and frame buffers (Table 12.9) -/
  sram : Mem := []
  err : W32 := 0#32
  errAddr : W32 := 0#32
  hdb : W32 := 0#32
  hostStat : W32 := 0#32
  hwin : Sparse W64 := []
  hwkey : Sparse W32 := []
  styUp : W64 := 0#64
  evtPend : W64 := 0#64
  evtCl : W32 := 0x10#32
  evtRim : W32 := 0#32
  /-- MESH injections awaiting answers, by 64 × field + tag -/
  req : Sparse MeshReq := []
  hostRd : Sparse HostRd := []
  /-- answers to firmware's own injections, oldest first: status and word -/
  fwAns : List (Nat × W32) := []
  /-- outputs: completions to the host, MSI-X vectors, in-band interrupts waiting for Krovas -/
  cpl : List Cpl := []
  msix : List Nat := []
  msixTab : Mem := []
  ibi : List Nat := []
  /-- Warden firmware has reported ready; HBCOUNT (Table 16.5c) -/
  ready : Bool := false
  hb : Nat := 0
  /-- slot named by SET_BOOTSEL (R628) -/
  bootSel : Option Nat := none
  /-- images in boot flash that Krovas staged, by 8 × slot + TYPE; STAGE_CHK's result and the TYPE that failed -/
  imgs : Sparse Bytes := []
  chk : Nat × Nat := (0, 0xFF)
  /-- topology record that Krovas passed: RIMx_TOPO value and FM_PLATE (R624, R625) -/
  topoRec : Option (W32 × Nat) := none
  /-- frames relayed to Krovas that wait for MGMT_RD, with the SPLATE they came under, and those of firmware's own TYPEs (R622) -/
  mgmtIn : List (Nat × Bytes) := []
  fwFrames : List Packet := []
  /-- the bytes of the last I3C read, and whether the last transfer was NACKed -/
  i3c : Bytes := []
  nack : Bool := false
  /-- epoch sequencer (R591): the epoch being run, the fields and dies that the commit has yet to reach, WDN_EPOCH.COUNT -/
  ep : Option EpochEv := none
  epF : List Nat := []
  /-- fields whose column map commit is under way: closed to incoming traffic (R592) -/
  epM : List Nat := []
  epD : List Nat := []
  epCount : Nat := 0
  deriving DecidableEq, Repr

end Sys2Proof.Machine
end

