-- ==== Sys2Proof/Syntax.lean ====
section
/-! DEFINITION. The commands: one constructor per row of spec/opcode_table.json, in the table's order. -/

namespace Sys2Proof

/-- The commands of the block. A row of the instruction set names only the hart that executes it: the
instruction's fields come from the word the hart fetches. -/
inductive Instr where
  /-- ADD (R216). -/
  | add (h : Hart)
  /-- SUB (R216). -/
  | sub (h : Hart)
  /-- AND (R216). -/
  | and (h : Hart)
  /-- OR (R216). -/
  | or (h : Hart)
  /-- XOR (R216). -/
  | xor (h : Hart)
  /-- SLL (R216). -/
  | sll (h : Hart)
  /-- SRL (R216). -/
  | srl (h : Hart)
  /-- SRA (R216). -/
  | sra (h : Hart)
  /-- SLT (R216). -/
  | slt (h : Hart)
  /-- SLTU (R216). -/
  | sltu (h : Hart)
  /-- MUL (R216). -/
  | mul (h : Hart)
  /-- MULH (R216). -/
  | mulh (h : Hart)
  /-- MULHU (R216). -/
  | mulhu (h : Hart)
  /-- MIN (R216). -/
  | min (h : Hart)
  /-- MAX (R216). -/
  | max (h : Hart)
  /-- MINU (R216). -/
  | minu (h : Hart)
  /-- MAXU (R216). -/
  | maxu (h : Hart)
  /-- CLZ (R216). -/
  | clz (h : Hart)
  /-- POPC (R216). -/
  | popc (h : Hart)
  /-- FADD (R217). -/
  | fadd (h : Hart)
  /-- FSUB (R217). -/
  | fsub (h : Hart)
  /-- FMUL (R217). -/
  | fmul (h : Hart)
  /-- FMIN (R218). -/
  | fmin (h : Hart)
  /-- FMAX (R218). -/
  | fmax (h : Hart)
  /-- FEQ (R217). -/
  | feq (h : Hart)
  /-- FLT (R217). -/
  | flt (h : Hart)
  /-- FLE (R217). -/
  | fle (h : Hart)
  /-- FCVTWS (R219). -/
  | fcvtws (h : Hart)
  /-- FCVTSW (R216). -/
  | fcvtsw (h : Hart)
  /-- ADDI (R216). -/
  | addi (h : Hart)
  /-- ANDI (R216). -/
  | andi (h : Hart)
  /-- ORI (R216). -/
  | ori (h : Hart)
  /-- XORI (R216). -/
  | xori (h : Hart)
  /-- SLTI (R216). -/
  | slti (h : Hart)
  /-- SLTIU (R216). -/
  | sltiu (h : Hart)
  /-- LUI (R216). -/
  | lui (h : Hart)
  /-- SLLI (R216). -/
  | slli (h : Hart)
  /-- SRLI (R216). -/
  | srli (h : Hart)
  /-- SRAI (R216). -/
  | srai (h : Hart)
  /-- LIMM (R210). -/
  | limm (h : Hart)
  /-- LW (R225). -/
  | lw (h : Hart)
  /-- LH (R225). -/
  | lh (h : Hart)
  /-- LHU (R225). -/
  | lhu (h : Hart)
  /-- LB (R225). -/
  | lb (h : Hart)
  /-- LBU (R225). -/
  | lbu (h : Hart)
  /-- SW (R225). -/
  | sw (h : Hart)
  /-- SH (R225). -/
  | sh (h : Hart)
  /-- SB (R225). -/
  | sb (h : Hart)
  /-- LDF (R229). -/
  | ldf (h : Hart)
  /-- STE (R229). -/
  | ste (h : Hart)
  /-- CRD (R226). -/
  | crd (h : Hart)
  /-- CWR (R227). -/
  | cwr (h : Hart)
  /-- BEQ (R221). -/
  | beq (h : Hart)
  /-- BNE (R221). -/
  | bne (h : Hart)
  /-- BLT (R221). -/
  | blt (h : Hart)
  /-- BGE (R221). -/
  | bge (h : Hart)
  /-- BLTU (R221). -/
  | bltu (h : Hart)
  /-- BGEU (R221). -/
  | bgeu (h : Hart)
  /-- JAL (R222). -/
  | jal (h : Hart)
  /-- JALR (R222). -/
  | jalr (h : Hart)
  /-- HALT (R223). -/
  | halt (h : Hart)
  /-- BRK (R224). -/
  | brk (h : Hart)
  /-- RLW (R239). -/
  | rlw (h : Hart)
  /-- RSW (R240). -/
  | rsw (h : Hart)
  /-- RSH (R240). -/
  | rsh (h : Hart)
  /-- RSB (R240). -/
  | rsb (h : Hart)
  /-- RCOPY (R241). -/
  | rcopy (h : Hart)
  /-- RLDF (R242). -/
  | rldf (h : Hart)
  /-- RSTE (R242). -/
  | rste (h : Hart)
  /-- SENDQ (R245). -/
  | sendq (h : Hart)
  /-- SENDQ2 (R245). -/
  | sendq2 (h : Hart)
  /-- SENDQM (R245). -/
  | sendqm (h : Hart)
  /-- REMFENCE (R238). -/
  | remfence (h : Hart)
  /-- GAXY (R234). -/
  | gaxy (h : Hart)
  /-- QTRY (R246). -/
  | qtry (h : Hart)
  /-- QCNT (R247). -/
  | qcnt (h : Hart)
  /-- BARRIVE (R250). -/
  | barrive (h : Hart)
  /-- BARWAIT (R252). -/
  | barwait (h : Hart)
  /-- BARTEST (R253). -/
  | bartest (h : Hart)
  /-- VLDB (R278). -/
  | vldb (h : Hart)
  /-- VLDH (R278). -/
  | vldh (h : Hart)
  /-- VSTB (R278). -/
  | vstb (h : Hart)
  /-- VSTH (R278). -/
  | vsth (h : Hart)
  /-- VADD (R280). -/
  | vadd (h : Hart)
  /-- VSUB (R280). -/
  | vsub (h : Hart)
  /-- VMUL (R280). -/
  | vmul (h : Hart)
  /-- VMIN (R280). -/
  | vmin (h : Hart)
  /-- VMAX (R280). -/
  | vmax (h : Hart)
  /-- VMOV (R281). -/
  | vmov (h : Hart)
  /-- VSPLAT (R281). -/
  | vsplat (h : Hart)
  /-- VEXT (R281). -/
  | vext (h : Hart)
  /-- VINS (R281). -/
  | vins (h : Hart)
  /-- VCVT (R282). -/
  | vcvt (h : Hart)
  /-- SCVTF (R283). -/
  | scvtf (h : Hart)
  /-- SCVTN (R283). -/
  | scvtn (h : Hart)
  /-- LMAC (R293). -/
  | lmac (h : Hart)
  /-- LMACS (R293). -/
  | lmacs (h : Hart)
  /-- LZERO (R293). -/
  | lzero (h : Hart)
  /-- LMOV (R293). -/
  | lmov (h : Hart)
  /-- LADD (R293). -/
  | ladd (h : Hart)
  /-- LMAXA (R293). -/
  | lmaxa (h : Hart)
  /-- LMINA (R293). -/
  | lmina (h : Hart)
  /-- LWID (R293). -/
  | lwid (h : Hart)
  /-- LCVT (R293). -/
  | lcvt (h : Hart)
  /-- LCVTQ (R293). -/
  | lcvtq (h : Hart)
  /-- LVM (R301). -/
  | lvm (h : Hart)
  /-- SDGO (R191). -/
  | sdgo (h : Hart)
  /-- SDWAIT (R296). -/
  | sdwait (h : Hart)
  /-- VPOP (R298). -/
  | vpop (h : Hart)
  /-- LPUSH (R299). -/
  | lpush (h : Hart)
  /-- LD (R489). -/
  | ld (h : Hart)
  /-- SD (R489). -/
  | sd (h : Hart)
  /-- PCRR (R490). -/
  | pcrr (h : Hart)
  /-- PCRW (R490). -/
  | pcrw (h : Hart)
  /-- SYSC (R491). -/
  | sysc (h : Hart)
  /-- TRET (R491). -/
  | tret (h : Hart)
  /-- IDLE (R492). -/
  | idle (h : Hart)
  /-- PFENCE (R496). -/
  | pfence (h : Hart)
  /-- XLINV (R495). -/
  | xlinv (h : Hart)
  /-- CINV (R487). -/
  | cinv (h : Hart)
  /-- CINVALL (R487). -/
  | cinvall (h : Hart)
  /-- ATSWP (R489). -/
  | atswp (h : Hart)
  /-- ATADD (R489). -/
  | atadd (h : Hart)
  /-- ECC_WRITEBACK (R185). -/
  | eccWriteback (t : TileId)
  /-- RUN (R158). -/
  | run (p : Party) (t : TileId)
  /-- STOP (R160). -/
  | stop (p : Party) (t : TileId)
  /-- STEP (R161). -/
  | stepCmd (p : Party) (t : TileId)
  /-- CLRF (R159). -/
  | clrf (p : Party) (t : TileId)
  /-- STOP_COMPLETE (R160). -/
  | stopComplete (t : TileId)
  /-- TILE_COMPAT_WRITE (R29). -/
  | tileCompatWrite (p : Party) (t : TileId) (v : W32)
  /-- TILE_ORIGIN_WRITE (R63). -/
  | tileOriginWrite (p : Party) (t : TileId) (v : W32)
  /-- TILE_PC_WRITE (R686). -/
  | tilePcWrite (p : Party) (t : TileId) (v : W32)
  /-- TILE_FE_LIMIT_WRITE (R203). -/
  | tileFeLimitWrite (p : Party) (t : TileId) (v : W32)
  /-- REG_WINDOW_WRITE (R173). -/
  | regWindowWrite (p : Party) (t : TileId) (off : Nat) (v : W32)
  /-- FE_WINDOW_WRITE (R71). -/
  | feWindowWrite (p : Party) (t : TileId) (off : Nat) (v : W32)
  /-- TILE_QPOP (R178). -/
  | tileQpop (p : Party) (t : TileId) (q : QNum)
  /-- TILE_QPUSH (R178). -/
  | tileQpush (p : Party) (t : TileId) (q : QNum) (v : W32)
  /-- PENDING_ENTRY_WRITE (R407). -/
  | pendingEntryWrite (p : Party) (t : TileId) (n : Fin 16) (v : W32)
  /-- TILE_ECC_STAT_READ (R9). -/
  | tileEccStatRead (p : Party) (t : TileId)
  /-- LATTICE_CMD_START (R287). -/
  | latticeCmdStart (t : TileId)
  /-- LVM_BLOCK (R302). -/
  | lvmBlock (t : TileId)
  /-- STREAM_VECTOR (R189). -/
  | streamVector (t : TileId) (u : UnitId)
  /-- STREAM_CMD_END (R297). -/
  | streamCmdEnd (t : TileId) (u : UnitId)
  /-- BURNISH_READ (R585). -/
  | burnishRead (t : TileId)
  /-- RD_MEM (R347). -/
  | rdMem (t : TileId)
  /-- RD_CTL (R61). -/
  | rdCtl (t : TileId)
  /-- RD_FLD (R684). -/
  | rdFld (f : FieldId)
  /-- RD_PRS (R499). -/
  | rdPrs (c : ClusterId)
  /-- RD_RIM (R469). -/
  | rdRim (f : FieldId)
  /-- RD_WDN (R511). -/
  | rdWdn (f : FieldId)
  /-- FE_LD (R382). -/
  | feLd (t : TileId)
  /-- FE_ST (R382). -/
  | feSt (t : TileId)
  /-- WR_MEM (R409). -/
  | wrMem (t : TileId)
  /-- WR_CTL (R202). -/
  | wrCtl (t : TileId)
  /-- WR_FLD (R684). -/
  | wrFld (f : FieldId)
  /-- WR_PRS (R499). -/
  | wrPrs (c : ClusterId)
  /-- WR_RIM (R684). -/
  | wrRim (f : FieldId)
  /-- WR_WDN (R501). -/
  | wrWdn (f : FieldId)
  /-- WR_H (R182). -/
  | wrH (t : TileId)
  /-- WR_B (R182). -/
  | wrB (t : TileId)
  /-- QMSG (R177). -/
  | qmsg (t : TileId)
  /-- RESP (R243). -/
  | resp (k : Taker)
  /-- ACK (R237). -/
  | ack (k : Taker)
  /-- ARRIVE (R399). -/
  | arrive (f : FieldId)
  /-- FDONE (R400). -/
  | fdone (f : FieldId)
  /-- PDONE (R401). -/
  | pdone (f : FieldId)
  /-- PRELEASE (R401). -/
  | prelease (f : FieldId)
  /-- RELEASE_F (R402). -/
  | releaseF (f : FieldId)
  /-- RELEASE_T (R404). -/
  | releaseT (k : Taker)
  /-- MGMT (R507). -/
  | mgmt (d : DieId)
  /-- ROUTER_FORWARD (R355). -/
  | routerForward (l : LaneId) (e : FlitErr)
  /-- HOP_REPLAY (R362). -/
  | hopReplay (l : LaneId)
  /-- CREDIT_RETURN (R85). -/
  | creditReturn (l : LaneId) (ue : Bool)
  /-- FE_RETRY (R203). -/
  | feRetry (t : TileId)
  /-- FLD_CLK_TGT_WRITE (R94). -/
  | fldClkTgtWrite (p : Party) (f : FieldId) (v : W32)
  /-- OP_CHANGE_DONE (R92). -/
  | opChangeDone (f : FieldId)
  /-- FLD_SH_CTL_WRITE (R102). -/
  | fldShCtlWrite (p : Party) (f : FieldId) (v : W32)
  /-- FLD_SH_BAR_WRITE (R102). -/
  | fldShBarWrite (p : Party) (f : FieldId) (v : W32)
  /-- SH_WINDOW_CLOSE (R97). -/
  | shWindowClose (f : FieldId)
  /-- FLD_XDROP_READ (R86). -/
  | fldXdropRead (p : Party) (f : FieldId)
  /-- POWER (R103). -/
  | power (f : PowerSrc) (w : Nat)
  /-- GOV_PERIOD (R105). -/
  | govPeriod (w : Nat)
  /-- CEIL (R108). -/
  | ceil (f : FieldId)
  /-- WDN_PWR_CAP_WRITE (R104). -/
  | wdnPwrCapWrite (p : Party) (v : W32)
  /-- PWR_ALERT_ASSERT (R107). -/
  | pwrAlertAssert
  /-- WDN_PWR_STAT_WRITE (R107). -/
  | wdnPwrStatWrite (p : Party) (v : W32)
  /-- POR_ASSERT (R112). -/
  | porAssert
  /-- POR_RELEASE (R112). -/
  | porRelease
  /-- TRAY_RST_ASSERT (R113). -/
  | trayRstAssert (ns : Nat)
  /-- TRAY_RST_RELEASE (R113). -/
  | trayRstRelease
  /-- REF_LOSS (R134). -/
  | refLoss
  /-- REF_RESTORED (R134). -/
  | refRestored
  /-- PLATE_RESET (R115). -/
  | plateReset (p : Party)
  /-- RST_GO (R136). -/
  | rstGo (p : Party)
  /-- FIELD_RESET (R144). -/
  | fieldReset (p : Party) (v : W32)
  /-- FIELD_RESET_DONE (R144). -/
  | fieldResetDone (f : FieldId)
  /-- TILE_RESET (R145). -/
  | tileReset (p : Party) (v : W32)
  /-- RESET_STAGE_ADVANCE (R135). -/
  | resetStageAdvance
  /-- FIELD_WAVE_RELEASE (R137). -/
  | fieldWaveRelease
  /-- TILE_SUBWAVE_RELEASE (R141). -/
  | tileSubwaveRelease (f : FieldId)
  /-- FIELD_PLL_LOCK (R77). -/
  | fieldPllLock (f : FieldId)
  /-- FIELD_PLL_TIMEOUT (R77). -/
  | fieldPllTimeout (f : FieldId)
  /-- DOMAIN_PLL_TIMEOUT (R132). -/
  | domainPllTimeout (m : Domain)
  /-- REGULATOR_TIMEOUT (R153). -/
  | regulatorTimeout (f : FieldId)
  /-- STYLUS_ACK_TIMEOUT (R153). -/
  | stylusAckTimeout (f : FieldId)
  /-- FIELD_INIT_TIMEOUT (R153). -/
  | fieldInitTimeout (f : FieldId)
  /-- WDN_FLD_DEAD_WRITE (R153). -/
  | wdnFldDeadWrite (p : Party) (hi : Bool) (v : W32)
  /-- WDN_FLD_UNAV_WRITE (R155). -/
  | wdnFldUnavWrite (p : Party) (hi : Bool) (v : W32)
  /-- WDN_RST_GAP_WRITE (R150). -/
  | wdnRstGapWrite (p : Party) (n : Fin 9) (v : W32)
  /-- WDN_KEEP_WRITE (R127). -/
  | wdnKeepWrite (p : Party) (off : Nat) (v : W64)
  /-- WDN_RST_CAUSE_WRITE (R156). -/
  | wdnRstCauseWrite (p : Party) (v : W32)
  /-- TAP_RESET (R152). -/
  | tapReset
  /-- FLD_BARNODE_WRITE (R394). -/
  | fldBarnodeWrite (p : Party) (f : FieldId) (id : Fin 16384) (v : W32)
  /-- FLD_BARROOT_WRITE (R395). -/
  | fldBarrootWrite (p : Party) (f : FieldId) (id : Fin 16384) (k : Fin 3) (v : W32)
  /-- BARCUT_NODE (R415). -/
  | barcutNode (p : Party) (f : FieldId) (v : W32)
  /-- BARCUT_ROOT_REMOVE (R415). -/
  | barcutRootRemove (p : Party) (f : FieldId) (v : W32)
  /-- BARCUT_ROOT_CREDIT (R415). -/
  | barcutRootCredit (p : Party) (f : FieldId) (v : W32)
  /-- BARCUT_SYSROOT (R415). -/
  | barcutSysroot (p : Party) (f : FieldId) (v : W32)
  /-- DROPV_CLEAR (R414). -/
  | dropvClear (p : Party) (f : FieldId)
  /-- FLD_SEAL_SH_WRITE (R366). -/
  | fldSealShWrite (p : Party) (f : FieldId) (v : W32)
  /-- HDRV_CLEAR (R381). -/
  | hdrvClear (p : Party) (f : FieldId)
  /-- FLD_SEAL_DROP_READ (R381). -/
  | fldSealDropRead (p : Party) (f : FieldId)
  /-- FLD_KEY_DROP_READ (R381). -/
  | fldKeyDropRead (p : Party) (f : FieldId)
  /-- FLD_HOP_CE_READ (R381). -/
  | fldHopCeRead (p : Party) (f : FieldId)
  /-- FLD_HOP_RETRY_READ (R381). -/
  | fldHopRetryRead (p : Party) (f : FieldId)
  /-- RIM_DATA (R433). -/
  | rimData (d : DieId) (n : PortId) (b : Bytes)
  /-- RIM_ACK (R435). -/
  | rimAck (d : DieId) (n : PortId) (b : Bytes)
  /-- RIM_NAK (R435). -/
  | rimNak (d : DieId) (n : PortId) (b : Bytes)
  /-- RIM_CREDIT (R437). -/
  | rimCredit (d : DieId) (n : PortId) (b : Bytes)
  /-- CREDIT_SEND (R437). -/
  | creditSend (d : DieId) (n : PortId)
  /-- LINK_ID (R451). -/
  | linkId (d : DieId) (n : PortId) (b : Bytes)
  /-- REPLAY_TIMER (R435). -/
  | replayTimer (d : DieId) (n : PortId)
  /-- RETRAIN_TIMEOUT (R436). -/
  | retrainTimeout (d : DieId) (n : PortId)
  /-- FAILOVER_REQ (R444). -/
  | failoverReq (d : DieId) (n : PortId) (b : Bytes)
  /-- FAILOVER_RSP (R444). -/
  | failoverRsp (d : DieId) (n : PortId) (b : Bytes)
  /-- FAILOVER_REQ_REPEAT (R444). -/
  | failoverReqRepeat (d : DieId)
  /-- SIGNAL_LOSS (R449). -/
  | signalLoss (d : DieId) (n : PortId)
  /-- SIGNAL_RETURN (R450). -/
  | signalReturn (d : DieId)
  /-- NEIGHBOUR_WAIT_TIMEOUT (R450). -/
  | neighbourWaitTimeout (d : DieId)
  /-- RIM_BRIDGE_PACKET (R438). -/
  | rimBridgePacket (d : DieId) (k : Fin 48) (ch : Chan)
  /-- RIMX_TOPO_WRITE (R425). -/
  | rimxTopoWrite (p : Party) (d : DieId) (v : W32)
  /-- PORT_ENABLE (R470). -/
  | portEnable (p : Party) (d : DieId) (n : PortId) (v : W32)
  /-- PORT_DISABLE (R447). -/
  | portDisable (p : Party) (d : DieId) (n : PortId) (v : W32)
  /-- KSEL_SWITCH (R565). -/
  | kselSwitch (p : Party) (d : DieId) (n : PortId) (v : W32)
  /-- RIMX_KEYDROP_READ (R469). -/
  | rimxKeydropRead (p : Party) (d : DieId)
  /-- RIMX_UNDELIV_READ (R469). -/
  | rimxUndelivRead (p : Party) (d : DieId)
  /-- RIMX_PERR_READ (R469). -/
  | rimxPerrRead (p : Party) (d : DieId) (n : PortId)
  /-- RIMX_PRETR_READ (R469). -/
  | rimxPretrRead (p : Party) (d : DieId) (n : PortId)
  /-- GATE_INBOUND (R476). -/
  | gateInbound (c : ClusterId) (ch : Chan)
  /-- GATE_FE_RETRY (R483). -/
  | gateFeRetry (c : ClusterId) (k : CoreId)
  /-- GATE_TAG_IDLE (R612). -/
  | gateTagIdle (c : ClusterId) (g : Fin 64)
  /-- INTERRUPT_TAKE (R492). -/
  | interruptTake (c : ClusterId) (k : CoreId)
  /-- TIMER_INTERRUPT (R490). -/
  | timerInterrupt (c : ClusterId) (k : CoreId)
  /-- PRS_CLK_WRITE (R497). -/
  | prsClkWrite (p : Party) (c : ClusterId) (v : W32)
  /-- CLUSTER_CLK_DONE (R497). -/
  | clusterClkDone (c : ClusterId)
  /-- CORE_RELEASE (R498). -/
  | coreRelease (p : Party) (c : ClusterId) (k : CoreId)
  /-- CORE_HOLD (R498). -/
  | coreHold (p : Party) (c : ClusterId) (k : CoreId)
  /-- L3LOCK_APPLY (R488). -/
  | l3lockApply (c : ClusterId)
  /-- PRS_FWIN_WRITE (R481). -/
  | prsFwinWrite (p : Party) (c : ClusterId) (n : Fin 16) (v : W64)
  /-- DOORBELL (R499). -/
  | doorbell (p : Party) (c : ClusterId) (k : CoreId) (v : W32)
  /-- DOORBELL_CLEAR (R499). -/
  | doorbellClear (p : Party) (c : ClusterId) (k : CoreId) (v : W32)
  /-- PRS_IPI_WRITE (R499). -/
  | prsIpiWrite (p : Party) (c : ClusterId) (v : W32)
  /-- LOCKSTEP_MISMATCH (R500). -/
  | lockstepMismatch
  /-- BOOT_ROM_START (R502). -/
  | bootRomStart
  /-- HOST_DOORBELL (R502). -/
  | hostDoorbell (p : Party) (v : W32)
  /-- HOST_DOORBELL_CLEAR (R513). -/
  | hostDoorbellClear (p : Party) (v : W32)
  /-- MSI_SEND (R513). -/
  | msiSend (p : Party) (v : W32)
  /-- BAR0_ACCESS (R503). -/
  | bar0Access (a : BusAccess)
  /-- HOST_WINDOW_ACCESS (R504). -/
  | hostWindowAccess (n : Fin 16) (a : BusAccess)
  /-- HOST_WINDOW_TIMEOUT (R504). -/
  | hostWindowTimeout (n : Fin 16)
  /-- WDN_HWIN_WRITE (R504). -/
  | wdnHwinWrite (p : Party) (n : Fin 16) (key : Bool) (v : W64)
  /-- RST_F (R144). -/
  | rstF (f : FieldId)
  /-- RST_T (R145). -/
  | rstT (f : FieldId)
  /-- COLMAP (R50). -/
  | colmap (f : FieldId)
  /-- STYLUS_TOPO (R426). -/
  | stylusTopo (f : FieldId)
  /-- REG (R510). -/
  | reg (f : FieldId) (a : BusAccess)
  /-- MESH (R509). -/
  | mesh (f : FieldId) (q : Option FwReq)
  /-- RELAY (R511). -/
  | relay (f : FieldId)
  /-- EVENT (R584). -/
  | event (f : FieldId)
  /-- ANSWER (R510). -/
  | answer (f : FieldId)
  /-- GET_STATE (R626). -/
  | getState
  /-- MGMT_RD (R627). -/
  | mgmtRd
  /-- MGMT_WR (R627). -/
  | mgmtWr (b : Bytes)
  /-- I3C_TOPO (R625). -/
  | i3cTopo (b : Bytes)
  /-- STAGE_WR (R627). -/
  | stageWr (b : Bytes)
  /-- STAGE_CHK (R639). -/
  | stageChk (b : Bytes)
  /-- TELEM_RD (R627). -/
  | telemRd
  /-- SET_BOOTSEL (R628). -/
  | setBootsel (b : Bytes)
  /-- BOOTSEL_TIMEOUT (R628). -/
  | bootselTimeout
  /-- ISLAND_START (R544). -/
  | islandStart (o : StartRes)
  /-- PERIODIC_SELFTEST (R546). -/
  | periodicSelftest (ok : Bool)
  /-- HEALTH_TEST_FAIL (R545). -/
  | healthTestFail
  /-- TEMP_EXCURSION (R543). -/
  | tempExcursion
  /-- SELFTEST (R546). -/
  | selftest (p : Party) (ok : Bool)
  /-- GETID (R550). -/
  | getid (p : Party)
  /-- VERIFY (R555). -/
  | verify (p : Party)
  /-- EXTEND (R557). -/
  | islandExtend (p : Party)
  /-- QUOTE (R560). -/
  | quote (p : Party)
  /-- IMPORT (R561). -/
  | islandImport (p : Party)
  /-- FORGET (R550). -/
  | forget (p : Party)
  /-- LOADKEY (R562). -/
  | loadkey (p : Party)
  /-- RANDOM (R550). -/
  | random (p : Party)
  /-- CHALLENGE (R551). -/
  | challenge (p : Party)
  /-- SET_OWNER (R552). -/
  | setOwner (p : Party)
  /-- ZEROIZE (R566). -/
  | zeroize (p : Party)
  /-- UNLOCK (R570). -/
  | unlock (p : Party)
  /-- REVOKE (R552). -/
  | revoke (p : Party)
  /-- SVNRAISE (R552). -/
  | svnraise (p : Party)
  /-- LID_TRIP (R569). -/
  | lidTrip
  /-- TAP_UNLOCK (R568). -/
  | tapUnlock (c : TapScan)
  /-- EPOCH_BEGIN (R591). -/
  | epochBegin
  /-- EPOCH_COMMIT (R590). -/
  | epochCommit (g : CommitTgt)
  /-- COLMAP_COMMIT (R592). -/
  | colmapCommit (f : FieldId)
  /-- EPOCH_COMPLETE (R591). -/
  | epochComplete
  /-- FLD_COLMAP_SH_WRITE (R595). -/
  | fldColmapShWrite (p : Party) (f : FieldId) (n : Fin 7) (v : W32)
  /-- FLD_TFLT_READ (R583). -/
  | fldTfltRead (p : Party) (f : FieldId)
  /-- FLD_EVT_CLEAR (R586). -/
  | fldEvtClear (p : Party) (f : FieldId) (v : W32)
  /-- FLD_BURN_CTL_WRITE (R581). -/
  | fldBurnCtlWrite (p : Party) (f : FieldId) (v : W32)
  /-- FLD_BURN_CE_READ (R581). -/
  | fldBurnCeRead (p : Party) (f : FieldId)
  /-- FLD_BURN_UEC_READ (R581). -/
  | fldBurnUecRead (p : Party) (f : FieldId)
  /-- ON (R621). -/
  | redfishOn (r : OnReq)
  /-- FORCE_OFF (R621). -/
  | forceOff (tag : W32)
  /-- POWER_CYCLE (R641). -/
  | powerCycle (tag : W32)
  /-- FORCE_RESTART (R621). -/
  | forceRestart (tag : W32)
  /-- REDFISH_READ (R620). -/
  | redfishRead (tag : W32) (item : ReadItem)
  /-- SETTINGS_WRITE (R620). -/
  | settingsWrite (tag : W32) (k : Setting) (v : W32)
  /-- FIRMWARE_PUSH (R639). -/
  | firmwarePush (tag : W32) (fs : FwSet)
  /-- HELLO (R622). -/
  | hello (src : Nat) (tag : W32)
  /-- BYPASS_IN (R635). -/
  | bypassIn (src : KSrc) (tag : W32) (mask : BitVec 4)
  /-- BYPASS_OUT (R634). -/
  | bypassOut (src : KSrc) (tag : W32) (mask : BitVec 4)
  /-- SET_TOPO (R624). -/
  | setTopo (src : KSrc) (tag : W32) (topo : W32) (fm : BitVec 10)
  /-- POWER_OFF (R616). -/
  | powerOff (src : Nat) (tag : W32)
  /-- TELEM_SUB (R637). -/
  | telemSub (src : Nat) (tag : W32) (period : BitVec 16)
  /-- TELEMETRY_FRAME (R637). -/
  | telemetryFrame
  /-- KROVAS_IBI (R629). -/
  | krovasIbi
  /-- COOLANT_OVERTEMP (R630). -/
  | coolantOvertemp (r : CoolantReading)
  /-- PACKAGE_OVERTEMP (R630). -/
  | packageOvertemp (t : Int)
  /-- LEAK_OR_SUPPLY_FAULT (R630). -/
  | leakOrSupplyFault (holds : Bool)
  /-- TRAY_OVERPOWER (R630). -/
  | trayOverpower (w : Nat)
  /-- TRAY_POWER_NORMAL (R630). -/
  | trayPowerNormal (w : Nat)
  /-- SIS_ERR_N_CHANGE (R630). -/
  | sisErrNChange
  /-- HEARTBEAT_STALL (R631). -/
  | heartbeatStall
  /-- ORPHAN_TIMEOUT (R632). -/
  | orphanTimeout
  /-- TRIAL_TIMEOUT (R643). -/
  | trialTimeout
  /-- BYPASS_MISMATCH (R636). -/
  | bypassMismatch (d : DieId)
  /-- PLATE_RST_OUT_ASSERT (R635). -/
  | plateRstOutAssert
  /-- STANDBY_RESTORE (R641). -/
  | standbyRestore
  /-- PRF_COMMIT_GO (R656). -/
  | prfCommitGo (p : Party)
  /-- LATCH_POINT (R655). -/
  | latchPoint (go : Bool) (fence : Bool)
  /-- PRF_MAP_FLIP_WRITE (R663). -/
  | prfMapFlipWrite (p : Party) (v : W32)
  /-- PRF_FENCE_SIG_WRITE (R664). -/
  | prfFenceSigWrite (p : Party) (v : W32)
  /-- PRF_SHADOW_WRITE (R659). -/
  | prfShadowWrite (p : Party) (off : Nat) (v : W32)
  /-- PRF_PAL_WRITE (R674). -/
  | prfPalWrite (p : Party) (bank : Bool) (n : BitVec 8) (v : W32)
  /-- PROOF_ENABLE (R669). -/
  | proofEnable (p : Party) (v : W32)
  /-- PROOF_DISABLE (R661). -/
  | proofDisable (p : Party) (v : W32)
  /-- PRF_PCLK_WRITE (R670). -/
  | prfPclkWrite (p : Party) (v : W32)
  /-- PIXEL_PLL_LOCK (R670). -/
  | pixelPllLock
  /-- HPD_CHANGE (R671). -/
  | hpdChange (level : Bool)
  /-- AUX_REQUEST (R668). -/
  | auxRequest (p : Party) (v : W32)
  /-- AUX_DONE (R668). -/
  | auxDone (timeout : Bool) (code : BitVec 4) (b : Bytes)
  /-- COMPOSE_LINE (R650). -/
  | composeLine (y : Nat)
  /-- REGISTER_WRITE (R13). -/
  | registerWrite (p : Party) (ga : W64) (v : W64) (wide : Bool)
  /-- DOMAIN_PLL_LOCK (R131). -/
  | domainPllLock (m : Domain)
  /-- STANDBY_LOSS (R615). -/
  | standbyLoss
  /-- BYP_POS_CHANGE (R634). -/
  | bypPosChange (d : DieId) (thru : Bool)
  deriving DecidableEq, Repr

end Sys2Proof
end

