-- ==== Sys2Proof/Machine/State.lean ====
section
/-! DEFINITION. The whole state of the block, and the state after reset. -/

namespace Sys2Proof.Machine

/-- No command of this block makes the model stop with a fault: the faults of a tile or a Press core are
effects on their own state (R195, R491). Nobody raises it; safe. -/
inductive Fault where
  deriving DecidableEq, Repr

/-- Refusals of the model. -/
inductive Refusal where
  /-- Raised by `exec` for a command that has no meaning yet. Safe: the run stops. -/
  | notModelled (mnemonic : String)
  deriving DecidableEq, Repr

/-- The block and its tray. The defaults are the state at reset. -/
structure State where
  /-- commands that wait, oldest first -/
  pending : List Instr := []
  /-- the counter that free values are applied to, a model's own field: DESIGN CHOICE (log entry 10) -/
  freeCtr : Nat := 0
  /-- what the last register read returned, a model's own output: DESIGN CHOICE (log entry 15) -/
  rdata : W64 := 0#64
  tiles : Sparse Tile := []
  fields : Sparse Field := []
  mesh : Mesh := {}
  rims : Sparse Rim := []
  press : Sparse Press := []
  wdn : Warden := {}
  island : Island := {}
  proof : Proof := {}
  krovas : Krovas := {}
  /-- epochs reported to the sequencer and not begun, in the order their EVENTs reach it (R591) -/
  epochQ : List EpochEv := []
  /-- TIME (Table 12.5) -/
  time : W64 := 0#64
  /-- WDN_ID.SKU and STEP, fused (R2, R3): DESIGN CHOICE (log entry 4) -/
  sku : Nat := 1
  stepId : Nat := 0x10
  /-- Etch map: SERIAL, and the eight words of each field record that differs from the default part (Tables 2.2, 2.3): DESIGN CHOICE (log entry 4) -/
  serial : W64 := 0#64
  etch : Sparse (List W32) := []
  deriving DecidableEq, Repr

/-- The machine while POR is still asserted (R112, R118). DESIGN CHOICE (log entry 3) for the moment; DESIGN CHOICE (log
entries 4, 5) for what is fused and for what the spec gives no reset value. -/
def State.reset : State := {}

end Sys2Proof.Machine
end

