-- ==== Sys2Proof/Machine/Ops.lean ====
section
/-! DEFINITION. The named operations over tiles, fields, memories and the mesh that every family shares. -/

namespace Sys2Proof.Machine

/-- R134: what a domain does that runs on the reference: `u`, or nothing while the reference is lost, for its clock has stopped and
it holds its state. DEDUCED (log entry 81). -/
def State.clocked (s u : State) : State := if s.wdn.refOk then u else s

/-! ### Grid and column map (chapter 2) -/

/-- Row, column and field of a router number 768 * y + x (R36). -/
def rowOf (r : Nat) : Nat := r / 768
def colOf (r : Nat) : Nat := r % 768
def routerOf (y x : Nat) : Nat := 768 * y + x
def fieldAt (y x : Nat) : Nat := 8 * (y / 96) + x / 96
def fieldOf (r : Nat) : Nat := fieldAt (rowOf r) (colOf r)
/-- The origin router of field f (R37). -/
def originOf (f : Nat) : Nat := routerOf (96 * (f / 8)) (96 * (f % 8))
/-- The gate router of the Press cluster's field, for a field with fx and fy odd (Table 9.1). -/
def gateOf (f : Nat) : Nat := routerOf (96 * (f / 8) + 95) (96 * (f % 8) + 48)
def hasGate (f : Nat) : Bool := f / 8 % 2 == 1 && f % 8 % 2 == 1
/-- Field of cluster c, and cluster of a field with a gate (R471). -/
def fieldOfCluster (c : Nat) : Nat := 8 * (2 * (c / 4) + 1) + 2 * (c % 4) + 1
def clusterOfField (f : Nat) : Nat := 4 * (f / 8 / 2) + f % 8 / 2

/-- State code of physical column p in COLSTATE words (Table 2.3). -/
def colCode (ws : List W32) (p : Nat) : Nat := bits (ws.getD (p / 16) 0#32) (2 * (p % 16) + 1) (2 * (p % 16))

/-- The physical column, from `p` on, of the `n`-th IN_USE column (R38); `k` columns are left. -/
def colScan (ws : List W32) : Nat → Nat → Nat → Nat
  | 0, p, _ => p
  | k + 1, p, n =>
    if colCode ws p = 0 then (if n = 0 then p else colScan ws k (p + 1) (n - 1)) else colScan ws k (p + 1) n

/-- Physical column of local virtual column v (R38). -/
def physCol (ws : List W32) (v : Nat) : Nat := colScan ws 100 0 v

/-- Number of a physical tile: 9,600 per field, 100 columns per row. -/
def physIdx (f row p : Nat) : Nat := f * 9600 + row * 100 + p

/-- A field controller with nothing written: FLD_CLK_CEIL resets to the SKU ceiling (Table 3.7). -/
def Field.init (sku : Nat) : Field := { clkCeil := Config.skuCeil sku }
def State.fld (s : State) (f : Nat) : Field := sget (Field.init s.sku) s.fields f
def State.setFld (s : State) (f : Nat) (x : Field) : State := { s with fields := sput s.fields f x }

/-- The physical tile that carries virtual tile r under its field's active column map. -/
def State.phys (s : State) (r : Nat) : Nat :=
  physIdx (fieldOf r) (rowOf r % 96) (physCol (s.fld (fieldOf r)).colmap (colOf r % 96))

/-- Tile r is held in reset: its field is, or runs on the reference (R78), or its sub-wave is not released (R141), or a
TILE reset is asserted (R145). -/
def State.held (s : State) (r : Nat) : Bool :=
  let c := s.fld (fieldOf r)
  c.rst || c.src || decide (24 * c.subwave ≤ rowOf r % 96) || c.tileRst.contains (96 * (rowOf r % 96) + colOf r % 96)

def State.tile (s : State) (r : Nat) : Tile := { sget {} s.tiles (s.phys r) with rst := s.held r }
def State.setTile (s : State) (r : Nat) (t : Tile) : State := { s with tiles := sput s.tiles (s.phys r) t }
def State.modTile (s : State) (r : Nat) (g : Tile → Tile) : State := s.setTile r (g (s.tile r))
def State.modFld (s : State) (f : Nat) (g : Field → Field) : State := s.setFld f (g (s.fld f))
def State.setMesh (s : State) (m : Mesh) : State := { s with mesh := m }

/-- A field's copy of the topology gives the Plate's own id, or 0x7FF while none is assigned (R60, R349). -/
def ownPlate (topo : W32) : Nat := if bit topo 31 then bits topo 9 0 else 0x7FF
def isOwn (topo : W32) (p : Nat) : Bool := p == 0x7FF || (bit topo 31 && p == bits topo 9 0)

def State.rim (s : State) (d : Nat) : Rim := sget {} s.rims d
def State.setRim (s : State) (d : Nat) (x : Rim) : State := { s with rims := sput s.rims d x }
def State.modRim (s : State) (d : Nat) (g : Rim → Rim) : State := s.setRim d (g (s.rim d))
def State.prs (s : State) (c : Nat) : Press := sget {} s.press c
def State.setPrs (s : State) (c : Nat) (x : Press) : State := { s with press := sput s.press c x }
def State.modPrs (s : State) (c : Nat) (g : Press → Press) : State := s.setPrs c (g (s.prs c))
def State.setWdn (s : State) (w : Warden) : State := { s with wdn := w }
def State.modWdn (s : State) (g : Warden → Warden) : State := { s with wdn := g s.wdn }

/-! ### Global Addresses (2.5, 2.6) -/

/-- The fields of a Global Address (Table 2.5). -/
structure Ga where
  space : Nat
  plate : Nat
  y : Nat
  x : Nat
  off : Nat
  deriving DecidableEq, Repr

def gaOf (w : W64) : Ga := ⟨bits w 63 60, bits w 59 49, bits w 48 39, bits w 38 29, bits w 28 0⟩
def Ga.word (g : Ga) : W64 :=
  BitVec.ofNat 64 (g.space * 2 ^ 60 + g.plate * 2 ^ 49 + g.y * 2 ^ 39 + g.x * 2 ^ 29 + g.off)

/-- The ranges of Table 2.8: an access of n bytes at `off` lies in one of them. -/
def ctlRange (off n : Nat) : Bool :=
  let within (lo hi : Nat) := decide (lo ≤ off ∧ off + n ≤ hi)
  within 0 0x400 || within 0x400 0x500 || within 0x800 0x900 || within 0xC00 0xD00 || within 0x20000 0x20C00

/-- R57 for a resolved GA and an access of n bytes: malformed. -/
def Ga.bad (g : Ga) (n : Nat) : Bool :=
  (0x400 ≤ g.plate && g.plate ≤ 0x7FE) ||
  match g.space with
  | 0 => !(g.y < 768 && g.x < 768 && g.off + n ≤ 0x18000)
  | 1 => !(g.y < 768 && g.x < 768 && ctlRange g.off n)
  | 2 => !(g.y < 768 && g.x < 768 && g.y % 96 == 0 && g.x % 96 == 0 && g.off + n ≤ 0xC0000)
  | 3 => !(g.y < 768 && g.x < 768 && g.y % 192 == 96 && g.x % 192 == 96 && g.off + n ≤ 0x810000)
  | 4 => !(g.y == 0 && g.x < 4 && g.off + n ≤ 0x14000)
  | 5 => !(g.y == 0 && g.x == 0 && g.off + n ≤ 0xF02000)
  | _ => true

/-- R65: resolve a region-relative GA by TILE_ORIGIN; none when a coordinate lies outside the extent. -/
def Ga.resolve (g : Ga) (origin : W32) : Option Ga :=
  if g.space = 8 ∨ g.space = 9 then
    if g.y < 96 * (bits origin 25 23 + 1) ∧ g.x < 96 * (bits origin 22 20 + 1) then
      some { g with space := g.space - 8, y := (g.y + bits origin 19 10) % 1024, x := (g.x + bits origin 9 0) % 1024 }
    else none
  else some g

/-! ### Packets and flits (9.2, 9.3) -/

/-- The header flit as it lies on the wire (Table 9.3). -/
def Hdr.word (h : Hdr) : BitVec 128 :=
  let lo := h.dx + h.dy * 2 ^ 10 + h.dplate * 2 ^ 20 + b2n h.long * 2 ^ 31 + h.sx * 2 ^ 32 + h.sy * 2 ^ 42
    + h.splate * 2 ^ 52 + b2n h.srckind * 2 ^ 63 + h.pkey * 2 ^ 64 + h.op * 2 ^ 76 + h.ch * 2 ^ 81 + h.route * 2 ^ 83
    + h.tag * 2 ^ 86
  BitVec.ofNat 128
    (if h.long then lo + h.len * 2 ^ 92 + h.off * 2 ^ 97 + h.sel * 2 ^ 126
     else lo + h.status * 2 ^ 92 + h.payload.toNat * 2 ^ 96)

/-- The header that 128 bits hold (Table 9.3). -/
def Hdr.ofWord (w : BitVec 128) : Hdr :=
  let long := bit w 31
  { dx := bits w 9 0, dy := bits w 19 10, dplate := bits w 30 20, long := long, sx := bits w 41 32, sy := bits w 51 42,
    splate := bits w 62 52, srckind := bit w 63, pkey := bits w 75 64, op := bits w 80 76, ch := bits w 82 81,
    route := bits w 85 83, tag := bits w 91 86,
    status := if long then 0 else bits w 95 92, payload := if long then 0#32 else BitVec.ofNat 32 (bits w 127 96),
    len := if long then bits w 96 92 else 0, off := if long then bits w 125 97 else 0,
    sel := if long then bits w 127 126 else 0 }

/-- Data words in groups of four (R346). -/
def chunk4 : Nat → List W32 → List (List W32)
  | 0, _ => []
  | n + 1, ws => if ws.length ≤ 4 then [ws] else ws.take 4 :: chunk4 n (ws.drop 4)

/-- The data flits after a head: bodies and a tail. -/
def dataFlits (p : Packet) : List (List W32) → List Flit
  | [] => []
  | [c] => [{ kind := .tail, h := p.h, back := p.back, gen := p.gen, ws := c }]
  | c :: cs => { kind := .body, h := p.h, back := p.back, gen := p.gen, ws := c } :: dataFlits p cs

/-- The flits of a packet (R345, Table 9.2). -/
def Packet.flits (p : Packet) : List Flit :=
  if p.h.long then
    { kind := .head, h := p.h, back := p.back, gen := p.gen } :: dataFlits p (chunk4 8 p.ws)
  else [{ kind := .single, h := p.h, back := p.back, gen := p.gen }]

def portIdx : RPort → Nat
  | .n => 0 | .e => 1 | .s => 2 | .w => 3 | .hn => 4 | .he => 5 | .hs => 6 | .hw => 7
  | .loc => 8 | .ctl => 9 | .gate => 10 | .bridge => 11

/-- Key of one input lane: router, port, channel, lane. -/
def laneKey (r : Nat) (p : RPort) (ch : Nat) (b : Bool) : Nat := ((r * 12 + portIdx p) * 4 + ch) * 2 + b2n b
/-- Key of one attachment port and channel, or of one link direction (channel 0). -/
def portKey (r : Nat) (p : RPort) (ch : Nat) : Nat := (r * 12 + portIdx p) * 4 + ch

/-- Opcodes of Table 9.4. -/
def opRd (space : Nat) : Nat := space + 1
def opWr (space : Nat) : Nat := space + 8
abbrev opFeLd : Nat := 0x07
abbrev opWrH : Nat := 0x0E
abbrev opWrB : Nat := 0x0F
abbrev opFeSt : Nat := 0x10
abbrev opResp : Nat := 0x14
abbrev opAck : Nat := 0x15
abbrev opQmsg : Nat := 0x18
abbrev opBar : Nat := 0x1C
abbrev opMgmt : Nat := 0x1D

/-- The port of the destination router that takes an opcode (Table 9.1, 9.5); answers go to the requester's
port, and PRELEASE to the bridge that spreads it (R457). DESIGN CHOICE (log entry 16). -/
def portOf (op : Nat) (back : RPort) : RPort :=
  if op = opResp ∨ op = opAck then back
  else if op = 0x03 ∨ op = 0x05 ∨ op = 0x06 ∨ op = 0x0A ∨ op = 0x0C ∨ op = 0x0D then .ctl
  else if op = opBar then (if back = .bridge then .bridge else .ctl)
  else if op = 0x04 ∨ op = 0x0B then .gate
  else .loc

/-- The die and bridge number that R438 chooses, from the topology copy, the source row and column, and DPLATE. -/
def chooseDie (topo : W32) (dplate : Nat) : Nat :=
  let nx := bits topo 20 16 + 1
  let ny := bits topo 25 21 + 1
  let px := bits topo 9 0 % 32
  let py := bits topo 9 0 / 32
  let dpx := dplate % 32
  let dpy := dplate / 32
  if !bit topo 31 then 0
  else if dpx ≥ nx ∨ dpy ≥ ny then dplate % 4
  else if dpx ≠ px then (if 2 * ((dpx + nx - px) % nx) ≤ nx then 1 else 3)
  else (if 2 * ((dpy + ny - py) % ny) ≤ ny then 2 else 0)

def bridgeNo (die sy sx : Nat) : Nat := min ((if die = 1 ∨ die = 3 then sy else sx) / 16) 47
/-- Router of bridge k of a die (Table 9.1). -/
def bridgeRouter (die k : Nat) : Nat :=
  match die with
  | 0 => routerOf 0 (16 * k)
  | 1 => routerOf (16 * k) 767
  | 2 => routerOf 767 (16 * k)
  | _ => routerOf (16 * k) 0

/-- The router and port a packet is routed to on this Plate (9.5, R438). -/
def destOf (topo : W32) (h : Hdr) (back : RPort) : Nat × RPort :=
  if isOwn topo h.dplate then (routerOf h.dy h.dx, portOf h.op back)
  else
    let die := chooseDie topo h.dplate
    (bridgeRouter die (bridgeNo die h.sy h.sx), .bridge)

/-- A stop coordinate in v's field (R355). -/
def stopOf (v : Nat) : Nat := min (16 * ((v + 8) / 16)) (96 * (v / 96) + 80)
def dist (a b : Nat) : Nat := if a ≤ b then b - a else a - b

/-- ROUTE that the entry router writes (R355, R356). -/
def entryRoute (src dst : Nat) : Nat :=
  let px := decide (dist (colOf src) (colOf dst) ≥ 24)
  let py := decide (dist (rowOf src) (rowOf dst) ≥ 24)
  if px then (if py then 3 else 1) else (if py then 2 else 0)

/-! ### Injection (R343, R353, Tables 3.2, 3.3) -/

/-- Depth of an input lane in flits. `cross` tells that the link crosses a field boundary. -/
def laneDepth (p : RPort) (cross : Bool) : Nat :=
  match p with
  | .n | .e | .s | .w => if cross then 4 else 2
  | .hn | .he | .hs | .hw => if cross then 8 else 4
  | .loc | .ctl => 4
  | .gate => 32
  | .bridge => 64

def Mesh.lane (m : Mesh) (k : Nat) : List Flit := sget [] m.lanes k

/-- Flits that wait for a credit at an attachment port's channel. -/
def Mesh.queued (m : Mesh) (r : Nat) (p : RPort) (ch : Nat) : List Flit := sget [] m.entry (portKey r p ch)

/-- The link direction that lane k belongs to, as its `portKey` of channel 0. -/
def dirOf (k : Nat) : Nat := k / 8 * 4

/-- The receiving side of a mesh link, of a Hatch link or of a crossing checks its flits (R361): every port but the local
and the controller's. -/
def checkedPort (i : Nat) : Bool := i != 8 && i != 9

/-- The sending side of a link direction keeps the last 16 flits that it sent there (R362). -/
def keepSent (sent : Sparse (List (Nat × Flit))) (k : Nat) (fl : List Flit) : Sparse (List (Nat × Flit)) :=
  if checkedPort (k / 8 % 12) && !fl.isEmpty then
    let l := sget [] sent (dirOf k) ++ fl.map (fun x => (k, x))
    sput sent (dirOf k) (l.drop (l.length - 16))
  else sent

/-- Room for flits in an attachment port's lane: its depth less the credits in use (R81); none while the lane is stopped
(R365) or a replay is due on the crossing (R362). -/
def Mesh.room (m : Mesh) (r : Nat) (p : RPort) (ch : Nat) : Nat :=
  let k := laneKey r p ch false
  if sget false m.stopped k || shas m.replay (dirOf k) then 0 else laneDepth p false - sget 0 m.used k

/-- Flits reach an attachment port: those that have a credit enter the lane, and the rest wait behind them (R81, R85). -/
def Mesh.feed (m : Mesh) (r : Nat) (p : RPort) (ch : Nat) (fl : List Flit) : Mesh :=
  let k := laneKey r p ch false
  let q := m.queued r p ch ++ fl
  let n := m.room r p ch
  { m with
    lanes := sput m.lanes k (m.lane k ++ q.take n)
    used := sput m.used k (sget 0 m.used k + (q.take n).length)
    sent := keepSent m.sent k (q.take n)
    entry := if (q.drop n).isEmpty then sdel m.entry (portKey r p ch) else sput m.entry (portKey r p ch) (q.drop n) }

/-- A field whose routers do not serve: in reset, or not yet through step 3 of Table 4.5. DESIGN CHOICE (log entry 62). -/
def Field.closed (c : Field) : Bool := c.rst || !c.seqDone

/-- The answer to a request (R348): RESP or ACK from router `r`, with the request's key, tag and return port.
DESIGN CHOICE (log entry 16). -/
def answerTo (topo : W32) (r : Nat) (kind : Bool) (q : Packet) (ack : Bool) (status : Nat) (data : W32) : Packet :=
  { h := { dx := q.h.sx, dy := q.h.sy, dplate := q.h.splate, sx := colOf r, sy := rowOf r, splate := ownPlate topo,
           srckind := kind, pkey := q.h.pkey, op := if ack then opAck else opResp, ch := 1, tag := q.h.tag,
           status := status, payload := data },
    back := q.back, gen := q.gen }

/-- Whether a request is answered by RESP: reads and full/empty operations (Table 9.4). -/
def wantsResp (op : Nat) : Bool := decide (op ≤ opFeLd) || op == opFeSt

/-- Steps from the one after `last` to `i` in a round of n (R351 to R353). -/
def rrDist (n last i : Nat) : Nat := (i + n - (last + 1) % n) % n

/-- Hand a packet to the party at a port. -/
def State.putInbox (s : State) (r : Nat) (p : RPort) (pk : Packet) : State :=
  let k := portKey r p pk.h.ch
  s.setMesh { s.mesh with inbox := sput s.mesh.inbox k (sget [] s.mesh.inbox k ++ [pk]) }

/-- C0 and C2 packets are answered (R348). -/
def answered (ch : Nat) : Bool := ch == 0 || ch == 2

/-- A crossing from a gate or a Rim die into a field is in discard state: the field is closed (R86, R87), or the crossing
has failed (R363). -/
def State.entryShut (s : State) (r : Nat) (p : RPort) : Bool :=
  (p == .gate || p == .bridge) && ((s.fld (fieldOf r)).closed || sget false s.mesh.failed (portKey r p 0))

/-- The party at port p of router r can begin a packet on a channel: its lane has a credit for the head and no flit of an
earlier packet waits (R81, R85); a crossing in discard state accepts everything (R86). DESIGN CHOICE (log entry 7). -/
def State.canInject (s : State) (r : Nat) (p : RPort) (ch : Nat) : Bool :=
  s.entryShut r p || (decide (0 < s.mesh.room r p ch) && (s.mesh.queued r p ch).isEmpty)

/-- A packet begins at an attachment port; the entry router writes ROUTE (R356). At a crossing in discard state the
surviving side drops it and answers a C0 or C2 packet with UNDELIVERED (R86, R577). DESIGN CHOICE (log entry 7). -/
def State.inject (s : State) (r : Nat) (p : RPort) (pk : Packet) : State :=
  let topo := (s.fld (fieldOf r)).topo
  if s.entryShut r p then
    (if answered pk.h.ch then s.putInbox r p (answerTo topo r true pk (!wantsResp pk.h.op) 6 0#32) else s)
  else
    let dst := (destOf topo pk.h pk.back).1
    let pk := { pk with h := { pk.h with route := entryRoute r dst } }
    s.setMesh (s.mesh.feed r p pk.h.ch pk.flits)

/-- Answer a request from router r's port p with a status and data (R348). -/
def State.reply (s : State) (r : Nat) (p : RPort) (kind : Bool) (q : Packet) (status : Nat) (data : W32) : State :=
  s.inject r p (answerTo (s.fld (fieldOf r)).topo r kind q (!wantsResp q.h.op) status data)

/-- The front packet handed over at a port on a channel (R354). -/
def State.front (s : State) (r : Nat) (p : RPort) (ch : Nat) : Option Packet :=
  (sget [] s.mesh.inbox (portKey r p ch)).head?

def State.popFront (s : State) (r : Nat) (p : RPort) (ch : Nat) : State :=
  let k := portKey r p ch
  s.setMesh { s.mesh with inbox := sput s.mesh.inbox k ((sget [] s.mesh.inbox k).drop 1) }

/-- Take the front packet of a port when it carries opcode `op`; otherwise the command does not occur. A request waits
while its answer would find no C1 credit (R85, R359). -/
def State.take (s : State) (r : Nat) (p : RPort) (ch op : Nat) (go : Packet → State → State) : State :=
  match s.front r p ch with
  | some q => if q.h.op = op ∧ (!answered ch || s.canInject r p 1) then go q (s.popFront r p ch) else s
  | none => s

/-! ### Field events and the fault log (15.1) -/

/-- A counter that saturates (R381, R581). -/
def satInc (n m : Nat) : Nat := if n < m then n + 1 else n

/-- The EVENT that waits on a field's link takes a bit with it, or a new one is queued: at most one waits (R510, R582).
DESIGN CHOICE (log entry 36). -/
def styEvent (b : Nat) : List StyCmd → List StyCmd
  | [] => [.event b]
  | .event m :: q => .event (m ||| b) :: q
  | c :: q => c :: styEvent b q

/-- Set a bit of FLD_EVT; a bit that becomes set and is enabled sends EVENT (R582). -/
def Field.raise (f : Field) (b : Nat) : Field :=
  let new := if bit f.evt b then false else bit f.evtEn b
  let f := { f with evt := setBit f.evt b true }
  if new then { f with up := styEvent (2 ^ b) f.up } else f

/-- Append to the fault log when a tile enters FAULTED or HALTED (R583). -/
def Field.logFault (f : Field) (halted : Bool) (code row col : Nat) : Field :=
  let e : W32 := BitVec.ofNat 32 (2 ^ 31 + b2n halted * 2 ^ 30 + code * 2 ^ 16 + row * 2 ^ 7 + col)
  let f := f.raise 0
  if f.fltLog.length < 32 then { f with fltLog := f.fltLog ++ [e] } else f.raise 1

/-- A flit counted in FLD_XDROP (R86, R582). A full count stays at 0xFFFF_FFFF: DESIGN CHOICE (log entry 69), as the counts of
R381 and R581 do; Table 3.7 gives no behaviour. -/
def State.xdropOne (s : State) (f : Nat) : State :=
  s.modFld f (fun c => Field.raise { c with xdrop := satInc c.xdrop 0xFFFFFFFF } 5)

/-! ### What the Warden sends (R503, R584, R629) -/

/-- Vector v's mask bit in the MSI-X table: bit 0 of word 3 of its 16-byte entry. PRESUMED (log entry 79). -/
def Warden.msixMasked (w : Warden) (v : Nat) : Bool := bit (mread32 w.msixTab (16 * v + 12)) 0

/-- MSI-X vector v goes to the host; a masked one sets its bit in the pending-bit array instead, at 0x1000 of the range of
Table 12.9. PRESUMED (log entry 79). -/
def Warden.sendMsix (w : Warden) (v : Nat) : Warden :=
  if w.msixMasked v then
    { w with msixTab := mwrite32 w.msixTab 0x1000 (setBit (mread32 w.msixTab 0x1000) v true) }
  else { w with msix := w.msix ++ [v] }

/-- In-band interrupt byte and detail for Krovas (R629). -/
def Warden.pushIbi (w : Warden) (code arg : Nat) : Warden := { w with ibi := w.ibi ++ [code + 256 * arg] }

/-- Warden hardware handles an EVENT of field f: its bit in WDN_EVT_PEND, and MSI-X vector 2 (R584). -/
def Warden.fieldEvent (w : Warden) (f : Nat) : Warden := { w with evtPend := setBit w.evtPend f true }.sendMsix 2

end Sys2Proof.Machine
end

