-- ==== Sys2Proof/Machine/Clock.lean ====
section
/-! DEFINITION. Field operating points and Slack Harvesting (3.4, 3.5). -/

namespace Sys2Proof.Machine

/-- Parties that may write most field registers: Warden firmware and Press software at S or M (R94, R393, R581). -/
def fldWriter : Party → Bool
  | .wardenFw | .pressS | .pressM => true
  | _ => false

/-- The effective operating point and the limit that sets it, lowest code first (R89, Table 3.8). -/
def effOp (sku : Nat) (f : Field) : Nat × Nat :=
  let c := Config.skuCeil sku
  let e := min (min c f.clkCeil) (min f.clkTgt f.shOp)
  (e, if e = c then 0 else if e = f.clkCeil then 1 else if e = f.clkTgt then 2 else 3)

/-- Begin a change toward the effective point: the supply first when rising, the clock first when falling (R90). -/
def Field.startChange (f : Field) : Field :=
  if f.change.isSome then f
  else if f.eff > f.op then
    { f with change := some { goal := f.eff, rising := true }, vcode := Config.opVcode f.eff }
  else if f.eff < f.op ∨ f.vcode ≠ Config.opVcode f.op then { f with change := some { goal := f.eff, rising := false } }
  else f

/-- EFF and LIMIT follow R89 once the field's last sub-wave is released (R93). -/
def Field.clkUpdate (sku : Nat) (f : Field) : Field :=
  if f.tracking then
    match effOp sku f with
    | (e, l) => Field.startChange { f with eff := e, limit := l }
  else f

/-- A change completes (R92): a rise whose limit has fallen makes no clock step; then the new value is pursued. -/
def Field.changeDone (sku : Nat) (f : Field) : Field :=
  match f.change with
  | none => f
  | some c =>
    let f :=
      if c.rising then (if c.goal ≤ f.eff then { f with op := c.goal } else f)
      else { f with op := c.goal, vcode := Config.opVcode c.goal }
    Field.clkUpdate sku { f with change := none }

/-- FLD_CLK_STAT (Table 3.8). -/
def Field.clkStat (f : Field) : W32 :=
  BitVec.ofNat 32 (b2n f.clkWref * 65536 + f.limit * 2 ^ 14 + b2n f.change.isSome * 2 ^ 13 + b2n f.src * 2 ^ 12
    + b2n f.lock * 2 ^ 11 + f.vcode * 2 ^ 5 + f.eff)

def Field.clkRefuse (f : Field) : Field := { f with clkWref := true }

/-- FLD_CLK_TGT (R94, R13). -/
def Field.wrClkTgt (sku : Nat) (f : Field) (p : Party) (v : W32) : Field :=
  if !fldWriter p || decide (bits v 4 0 > 16) then f.clkRefuse
  else Field.clkUpdate sku { f with clkTgt := bits v 4 0 }

/-! ### Slack Harvesting windows (R96 to R102) -/

def shEn (w : W32) : Bool := bit w 0
def shMode (w : W32) : Bool := bit w 1
def shWinexp (w : W32) : Nat := bits w 6 2
def shFloor (w : W32) : Nat := bits w 11 7
def shMargin (w : W32) : Nat := bits w 19 12
def shUpThr (w : W32) : Nat := bits w 27 20
def shUpHold (w : W32) : Nat := bits w 31 28

/-- The decision of R99 at the effective operating point `eff` of R89: the new FLD_SH_OP and QUIET. -/
def shDecide (ctl : W32) (eff quiet : Nat) (w : ShWin) : Nat × Nat :=
  let busy : Int := (w.act * w.cyc : Nat) - (w.wait : Int)
  let downOk : Bool := decide (eff > shFloor ctl) &&
    decide (busy * Config.opMhz eff * 256 ≤ (Config.opMhz (eff - 1) * (256 - shMargin ctl) * w.act * w.cyc : Nat))
  if w.act = 0 then (shFloor ctl, 0)
  else if w.rel > 0 then
    (if w.last * 2 > w.rel then min (eff + 1) 16 else if downOk then eff - 1 else eff, 0)
  else
    let q := if w.wait * 256 ≤ shUpThr ctl * w.act * w.cyc then min (quiet + 1) 15 else 0
    if shUpHold ctl ≠ 0 ∧ q ≥ shUpHold ctl then (min (eff + 1) 16, 0)
    else (if downOk then eff - 1 else eff, q)

/-- A window closes: its counts are copied (R96); with `dec` the decision of R99 is taken, when EN is 1 (R100, R101). -/
def Field.shClose (sku : Nat) (f : Field) (dec : Bool) : Field :=
  let w := f.shWin
  let f := { f with shOld := w, shWin := {} }
  if !dec then { f with quiet := 0 }
  else if shEn f.shCtl then
    match shDecide f.shCtl (effOp sku f).1 f.quiet w with
    | (sh, q) => Field.clkUpdate sku { f with shOp := sh, quiet := q }
  else { f with quiet := 0 }

/-- Field cycles after which a window closes without any release (R97): 2^WINEXP in cycle mode, 2^26 in barrier mode. -/
def shLimit (ctl : W32) : Nat := if shMode ctl then 2 ^ 26 else 2 ^ shWinexp ctl

/-- A Slack Harvesting window counts cycles, active tiles and waiting tile-cycles (R96). -/
def ShWin.count (w : ShWin) (n act wait : Nat) : ShWin :=
  { w with cyc := w.cyc + n, act := max w.act act, wait := w.wait + n * wait }

/-- `n` field cycles pass with `act` active tiles of which `wait` wait: the window closes at the cycle that fills it, and
the cycles after it count in the next one (R96, R97). `n` is less than a window. -/
def Field.shPass (sku : Nat) (f : Field) (n act wait : Nat) : Field :=
  let left := shLimit f.shCtl - f.shWin.cyc
  if n < left then { f with shWin := f.shWin.count n act wait }
  else
    let f := Field.shClose sku { f with shWin := f.shWin.count left act wait } true
    if n = left then f else { f with shWin := f.shWin.count (n - left) act wait }

/-- Reserved encodings of FLD_SH_CTL (Table 3.9). -/
def shCtlBad (v : W32) : Bool := decide (shFloor v > 16) || decide (shWinexp v < 16) || decide (shWinexp v > 26)

/-- FLD_SH_CTL (R94, R100, R102). -/
def Field.wrShCtl (sku : Nat) (f : Field) (p : Party) (v : W32) : Field :=
  if !fldWriter p || shCtlBad v then f.clkRefuse
  else
    let f' := if shMode v != shMode f.shCtl || shWinexp v != shWinexp f.shCtl then f.shClose sku false else f
    let f' := { f' with shCtl := v }
    if shEn v then f' else Field.clkUpdate sku { f' with shOp := 16 }

/-- FLD_SH_BAR (R94, R102). -/
def Field.wrShBar (sku : Nat) (f : Field) (p : Party) (v : W32) : Field :=
  if !fldWriter p then f.clkRefuse
  else if bits v 13 0 = f.shBar then f
  else { f.shClose sku false with shBar := bits v 13 0 }

/-- A release of barrier `id` received by the field: counted when it answers a RELEASE_F (R98, R405); in barrier mode
the release of FLD_SH_BAR closes the window (R97). The two 16-bit counts of FLD_SH_REL saturate: DESIGN CHOICE (log
entry 69), since the spec gives them no behaviour beyond 65,535. -/
def Field.shRelease (sku : Nat) (f : Field) (id : Nat) (counted mine : Bool) : Field :=
  let f := if counted then
      { f with shWin := { f.shWin with rel := satInc f.shWin.rel 0xFFFF,
                                       last := if mine then satInc f.shWin.last 0xFFFF else f.shWin.last } }
    else f
  if shMode f.shCtl && id == f.shBar then f.shClose sku true else f

/-- FLD_CLK_CEIL written by the governor (R108). -/
def Field.wrCeil (sku : Nat) (f : Field) (v : Nat) : Field := Field.clkUpdate sku { f with clkCeil := v }

end Sys2Proof.Machine
end

