-- ==== Sys2Proof/Decode.lean ====
section
/-! DEFINITION. No row of the command table has bits, so `decodeTableWord` reads none. The decoder of the
instruction words that tiles and Press cores fetch from their own memories stands here too (R205-R215,
R273-R277, R489). -/

namespace Sys2Proof

/-- The table gives no row any bits: no word spells a command. -/
def decodeTableWord (_nbits _w : Nat) : Option Instr := none

open Machine

/-- Table 6.3: the FN values of major 0x00; the second component tells whether field rb is read. -/
def aluFn : Nat → Option (Mn × Bool)
  | 0x01 => some (.add, true) | 0x02 => some (.sub, true) | 0x03 => some (.and, true) | 0x04 => some (.or, true)
  | 0x05 => some (.xor, true) | 0x06 => some (.sll, true) | 0x07 => some (.srl, true) | 0x08 => some (.sra, true)
  | 0x09 => some (.slt, true) | 0x0A => some (.sltu, true) | 0x0B => some (.mul, true) | 0x0C => some (.mulh, true)
  | 0x0D => some (.mulhu, true) | 0x0E => some (.min, true) | 0x0F => some (.max, true) | 0x10 => some (.minu, true)
  | 0x11 => some (.maxu, true) | 0x12 => some (.clz, false) | 0x13 => some (.popc, false)
  | 0x20 => some (.fadd, true) | 0x21 => some (.fsub, true) | 0x22 => some (.fmul, true) | 0x23 => some (.fmin, true)
  | 0x24 => some (.fmax, true) | 0x25 => some (.feq, true) | 0x26 => some (.flt, true) | 0x27 => some (.fle, true)
  | 0x28 => some (.fcvtws, false) | 0x29 => some (.fcvtsw, false)
  | _ => none

/-- Table 6.2: majors in I, M and B form with the extension of their immediate: 0 none, 1 sign, 2 zero. -/
def immMajor : Nat → Option (Mn × Nat)
  | 0x01 => some (.addi, 1) | 0x02 => some (.andi, 2) | 0x03 => some (.ori, 2) | 0x04 => some (.xori, 2)
  | 0x05 => some (.slti, 1) | 0x06 => some (.sltiu, 2) | 0x07 => some (.lui, 2)
  | 0x08 => some (.slli, 2) | 0x09 => some (.srli, 2) | 0x0A => some (.srai, 2)
  | 0x0C => some (.lw, 1) | 0x0D => some (.lh, 1) | 0x0E => some (.lhu, 1) | 0x0F => some (.lb, 1) | 0x10 => some (.lbu, 1)
  | 0x11 => some (.sw, 1) | 0x12 => some (.sh, 1) | 0x13 => some (.sb, 1) | 0x14 => some (.ldf, 1) | 0x15 => some (.ste, 1)
  | 0x16 => some (.crd, 1) | 0x17 => some (.cwr, 1)
  | 0x18 => some (.beq, 1) | 0x19 => some (.bne, 1) | 0x1A => some (.blt, 1) | 0x1B => some (.bge, 1)
  | 0x1C => some (.bltu, 1) | 0x1D => some (.bgeu, 1) | 0x1F => some (.jalr, 1)
  | 0x20 => some (.rlw, 1) | 0x21 => some (.rsw, 1) | 0x22 => some (.rsh, 1) | 0x23 => some (.rsb, 1)
  | 0x24 => some (.rldf, 1) | 0x25 => some (.rste, 1)
  | 0x28 => some (.barrive, 2) | 0x29 => some (.barwait, 2) | 0x2A => some (.bartest, 2)
  | 0x30 => some (.vldb, 1) | 0x31 => some (.vldh, 1) | 0x32 => some (.vstb, 1) | 0x33 => some (.vsth, 1)
  | _ => none

/-- Majors that take the LIMM prefix (Tables 6.2 and 7.3). -/
def takesLimm (major : Nat) : Bool :=
  (0x01 ≤ major && major ≤ 0x06) || (0x0C ≤ major && major ≤ 0x17) || major == 0x1F
    || (0x20 ≤ major && major ≤ 0x25) || (0x30 ≤ major && major ≤ 0x33)

/-- A queue operand names q0-q3 by 0b000nn (R207). -/
def qOk (q : Bool) (r : Nat) : Bool := !q || decide (r < 4)

/-- A field that names a vector register as a source: 0-15, or a queue (R275, R276). -/
def vOk (q : Bool) (r : Nat) : Bool := if q then decide (r < 4) else decide (r < 16)

/-- What a V-format instruction requires of its fields: the check, by mnemonic (Tables 7.4 to 7.6). -/
def vecFields (f : Fields) : Bool :=
  let nq := !f.qa && !f.qb
  match f.mn with
  | .vadd | .vsub | .vmul => decide (f.d < 16) && vOk f.qa f.a && vOk f.qb f.b && decide (f.fmt ≤ 4)
  | .vmin | .vmax => decide (f.d < 16) && vOk f.qa f.a && vOk f.qb f.b && decide (f.fmt ≤ 4)
  | .vmov => decide (f.d < 16) && vOk f.qa f.a && !f.qb && f.b == 0 && f.fmt == 0
  | .vsplat => decide (f.d < 16) && qOk f.qa f.a && !f.qb && f.b == 0 && decide (f.fmt ≤ 4)
  | .vext => vOk f.qa f.a && !f.qb && decide (f.b < 16) && f.fmt == 0
  | .vins => decide (f.d < 16) && qOk f.qa f.a && !f.qb && decide (f.b < 16) && decide (f.fmt ≤ 4)
  | .vcvt => decide (f.d < 16) && vOk f.qa f.a && !f.qb && decide (f.b ≤ 4) && decide (f.fmt ≤ 4)
  | .scvtf | .scvtn => qOk f.qa f.a && !f.qb && f.b == 0 && decide (f.fmt ≤ 4)
  | .lmac => decide (f.d < 8) && vOk f.qa f.a && vOk f.qb f.b && decide (f.fmt ≤ 4)
  | .lmacs => decide (f.d < 8) && qOk f.qa f.a && vOk f.qb f.b && decide (f.fmt ≤ 4)
  | .lzero => decide (f.d < 8) && nq && f.a == 0 && f.b == 0 && f.fmt == 0
  | .lmov => decide (f.d < 8) && nq && decide (f.a < 8) && f.b == 0 && f.fmt == 0
  | .ladd | .lmaxa | .lmina =>
    decide (f.d < 8) && nq && decide (f.a < 8) && f.b == 0 && (f.fmt == 0 || f.fmt == 5)
  | .lwid => decide (f.d < 8) && vOk f.qa f.a && !f.qb && f.b == 0 && decide (f.fmt ≤ 4)
  | .lcvt => decide (f.d < 16) && nq && decide (f.a < 8) && decide (f.fmt ≤ 4)
  | .lcvtq => decide (f.d < 16) && nq && decide (f.a < 8) && f.fmt == 0
  | .sdgo | .sdwait => f.d == 0 && nq && decide (f.a < 4) && f.b == 0 && f.fmt == 0
  | .vpop => decide (f.d < 16) && nq && decide (f.a < 4) && f.b == 0 && f.fmt == 0
  | .lpush => decide (f.d < 4) && nq && decide (f.a < 8) && f.fmt == 0
  | _ => false

/-- FN values of majors 0x34, 0x35 and 0x37; the second component is the SAT bit. -/
def vecFn : Nat → Nat → Option (Mn × Bool)
  | 0x34, fn =>
    match fn with
    | 0x01 => some (.vadd, false) | 0x21 => some (.vadd, true) | 0x02 => some (.vsub, false) | 0x22 => some (.vsub, true)
    | 0x03 => some (.vmul, false) | 0x23 => some (.vmul, true) | 0x04 => some (.vmin, false) | 0x05 => some (.vmax, false)
    | 0x06 => some (.vmov, false) | 0x07 => some (.vsplat, false) | 0x08 => some (.vext, false) | 0x09 => some (.vins, false)
    | 0x0A => some (.vcvt, false) | 0x2A => some (.vcvt, true) | 0x0B => some (.scvtf, false)
    | 0x0C => some (.scvtn, false) | 0x2C => some (.scvtn, true)
    | _ => none
  | 0x35, fn =>
    match fn with
    | 0x01 => some (.lmac, false) | 0x02 => some (.lmacs, false) | 0x03 => some (.lzero, false) | 0x04 => some (.lmov, false)
    | 0x05 => some (.ladd, false) | 0x06 => some (.lmaxa, false) | 0x07 => some (.lmina, false) | 0x08 => some (.lwid, false)
    | 0x09 => some (.lcvt, false) | 0x29 => some (.lcvt, true) | 0x0A => some (.lcvtq, false)
    | _ => none
  | 0x37, fn =>
    match fn with
    | 0x01 => some (.sdgo, false) | 0x02 => some (.sdwait, false) | 0x03 => some (.vpop, false) | 0x04 => some (.lpush, false)
    | _ => none
  | _, _ => none

/-- The remote and queue register groups (Table 6.4, R206, R207, R214). -/
def remoteGroup (major fn : Nat) (f : Fields) : Option Fields :=
  let evenD := decide (f.d % 2 = 0)
  let src := qOk f.qa f.a && qOk f.qb f.b
  match major, fn with
  | 0x26, 0x01 => if evenD && src && !f.qb && f.b == 0 then some { f with mn := .sendq } else none
  | 0x26, 0x02 => if evenD && src then some { f with mn := .sendq2 } else none
  | 0x26, 0x03 => if evenD && src then some { f with mn := .sendqm } else none
  | 0x26, 0x04 => if evenD && src && !f.o then some { f with mn := .rcopy } else none
  | 0x26, 0x05 =>
    if f.d == 0 && f.a == 0 && f.b == 0 && !f.qa && !f.qb && !f.o then some { f with mn := .remfence } else none
  | 0x26, 0x06 => if evenD && src && !f.o then some { f with mn := .gaxy } else none
  | 0x27, 0x01 =>
    if evenD && !f.qa && !f.qb && !f.o && f.b == 0 && decide (f.a < 4) then some { f with mn := .qtry } else none
  | 0x27, 0x02 =>
    if !f.qa && !f.qb && !f.o && f.b == 0 && decide (f.a < 4) then some { f with mn := .qcnt } else none
  | _, _ => none

/-- The immediate forms (Table 6.2): the extended immediate, or the 32-bit immediate of a LIMM prefix (R210). -/
def immForm (major : Nat) (w : W32) (limm : Option W16) : Option Fields :=
  match immMajor major with
  | none => none
  | some (mn, ext) =>
    let i16 := bits w 15 0
    let imm : W32 :=
      match limm with
      | some hi => BitVec.ofNat 32 (hi.toNat * 65536 + i16)
      | none => if ext = 1 then sextN 16 i16 else BitVec.ofNat 32 i16
    let f : Fields := { mn := mn, d := bits w 25 21, a := bits w 20 16, imm := imm }
    match mn with
    | .lui => if f.a == 0 then some f else none
    | .slli | .srli | .srai => if decide (i16 < 32) then some f else none
    | .rlw | .rsw | .rsh | .rsb | .rldf | .rste => if decide (f.a % 2 = 0) then some f else none
    | .barrive | .barwait => if f.d == 0 then some f else none
    | .vldb | .vldh | .vstb | .vsth => if decide (f.d < 16) then some f else none
    | _ => some f

/-- Decode one Veluc-T word, with the LIMM prefix before it if any (R205-R215, R273-R277).
None is the ILLEGAL fault of R208. -/
def decodeTile (w : W32) (limm : Option W16) : Option Fields :=
  let major := bits w 31 26
  if limm.isSome && !takesLimm major then none
  else
    let r : Fields := { mn := .add, d := bits w 25 21, a := bits w 20 16, b := bits w 15 11, qa := bit w 10,
                        qb := bit w 9, o := bit w 8, fmt := bits w 8 6 }
    let fn := bits w 5 0
    match major with
    | 0x00 =>
      match aluFn fn with
      | some (mn, two) =>
        if bits w 8 6 == 0 && qOk r.qa r.a && (if two then qOk r.qb r.b else (r.b == 0 && !r.qb))
        then some { r with mn := mn, fmt := 0 } else none
      | none => none
    | 0x1E => some { mn := .jal, d := bits w 25 21, imm := sextN 21 (bits w 20 0) }
    | 0x26 => if bits w 7 6 == 0 then (remoteGroup 0x26 fn { r with fmt := 0 }) else none
    | 0x27 => if bits w 7 6 == 0 then (remoteGroup 0x27 fn { r with fmt := 0 }) else none
    | 0x2B => if bits w 25 0 == 0 then some { mn := .halt } else none
    | 0x2C => if bits w 25 16 == 0 then some { mn := .brk, imm := BitVec.ofNat 32 (bits w 15 0) } else none
    | 0x36 =>
      let ua := bits w 15 14
      let uw := bits w 13 12
      if bits w 11 0 == 0 && decide (r.d < 8) && !(ua == uw)
      then some { mn := .lvm, d := r.d, a := r.a, b := ua, fmt := uw } else none
    | m =>
      if m == 0x34 || m == 0x35 || m == 0x37 then
        match vecFn m fn with
        | some (mn, sat) =>
          let f : Fields := { r with mn := mn, sat := sat, o := false }
          if vecFields f then some f else none
        | none => none
      else immForm m w limm

/-- The majors that Veluc-H does not run (R489). -/
def pressBarred (major : Nat) : Bool :=
  (0x14 ≤ major && major ≤ 0x17) || (0x20 ≤ major && major ≤ 0x27) || major == 0x2B
    || (0x30 ≤ major && major ≤ 0x37)

/-- Decode one Veluc-H word (R489, Table 12.4). None is the illegal-instruction exception. -/
def decodePress (w : W32) (limm : Option W16) : Option Fields :=
  let major := bits w 31 26
  let lim := takesLimm major || major == 0x0B || major == 0x2D
  if pressBarred major then none
  else if limm.isSome && !lim then none
  else
    let imm : W32 :=
      match limm with
      | some hi => BitVec.ofNat 32 (hi.toNat * 65536 + bits w 15 0)
      | none => sextN 16 (bits w 15 0)
    let r : Fields := { mn := .ld, d := bits w 25 21, a := bits w 20 16, b := bits w 15 11, imm := imm }
    match major with
    | 0x0B => some r
    | 0x2D => some { r with mn := .sd }
    | 0x2E => if r.a == 0 && bits w 15 12 == 0 then some { r with mn := .pcrr, imm := BitVec.ofNat 32 (bits w 11 0) } else none
    | 0x2F => if r.d == 0 && bits w 15 12 == 0 then some { r with mn := .pcrw, imm := BitVec.ofNat 32 (bits w 11 0) } else none
    | 0x08 | 0x09 | 0x0A =>
      if bits w 15 6 == 0 then
        some { r with mn := (if major = 8 then .slli else if major = 9 then .srli else .srai),
                      imm := BitVec.ofNat 32 (bits w 5 0), b := 0 }
      else none
    | 0x38 =>
      if bits w 10 6 == 0 then
        match bits w 5 0 with
        | 0x01 => if r.a == 0 && r.b == 0 then some { r with mn := .sysc, imm := 0 } else none
        | 0x02 => if r.d == 0 && r.a == 0 && r.b == 0 then some { r with mn := .tret, imm := 0 } else none
        | 0x03 => if r.d == 0 && r.a == 0 && r.b == 0 then some { r with mn := .idle, imm := 0 } else none
        | 0x04 => if r.d == 0 && r.a == 0 && r.b == 0 then some { r with mn := .pfence, imm := 0 } else none
        | 0x05 => if r.d == 0 && r.b == 0 then some { r with mn := .xlinv, imm := 0 } else none
        | 0x06 => if r.d == 0 && r.b == 0 then some { r with mn := .cinv, imm := 0 } else none
        | 0x07 => if r.d == 0 && r.a == 0 && r.b == 0 then some { r with mn := .cinvall, imm := 0 } else none
        | 0x08 => some { r with mn := .atswp, imm := 0 }
        | 0x09 => some { r with mn := .atadd, imm := 0 }
        | _ => none
      else none
    | _ =>
      match decodeTile w limm with
      | some f => if f.qa || f.qb then none else some f
      | none => none

/-- The mnemonic that a prefix word and the word after it are: a LIMM prefix is the row LIMM (R210, R211). -/
def isLimm (w : W32) : Bool := bits w 31 26 == 0x3E

end Sys2Proof
end

