-- ==== Sys2Proof/Machine/Fp.lean ====
section
/-! DEFINITION. Number formats (7.1 to 7.3): exact values, rounding, narrowing and widening. -/

namespace Sys2Proof.Machine

/-- An exact value: NaN, an infinity, or (-1)^s * m * 2^e. A zero keeps its sign. -/
inductive Num where
  | nan
  | inf (s : Bool)
  | fin (s : Bool) (m : Nat) (e : Int)
  deriving DecidableEq, Repr

/-- A floating-point format of Table 7.1: mantissa bits, bias, the largest finite encoding, and the sign's place. -/
structure FpFmt where
  man : Nat
  bias : Nat
  maxc : Nat
  sgn : Nat
  deriving DecidableEq, Repr

/-- The formats of FMT 1 to 4, and FP32 for every other code (Table 7.1). -/
def fpFmt : Nat → FpFmt
  | 1 => ⟨3, 7, 0x7E, 7⟩
  | 2 => ⟨2, 15, 0x7B, 7⟩
  | 3 => ⟨10, 15, 0x7BFF, 15⟩
  | 4 => ⟨7, 127, 0x7F7F, 15⟩
  | _ => ⟨23, 127, 0x7F7FFFFF, 31⟩

/-- The canonical NaN of a format (Table 7.1, R256); INT8 has none and reads a NaN as 0 (Table 7.2). -/
def canonNan : Nat → Nat
  | 0 => 0
  | 1 => 0x7F
  | 2 => 0x7E
  | 3 => 0x7E00
  | 4 => 0x7FC0
  | _ => 0x7FC00000

/-- A signed integer as an exact value. -/
def numOfInt (i : Int) : Num := .fin (decide (i < 0)) i.natAbs 0

/-- A two's complement field of `n` bits as an integer. -/
def sInt (n x : Nat) : Int := if x % 2 ^ n < 2 ^ (n - 1) then (x % 2 ^ n : Nat) else ((x % 2 ^ n : Nat) : Int) - (2 ^ n : Nat)

/-- The value of encoding `w` in format `f` (Table 7.1; R255 to R258). Code 0 is INT8, 1 to 4 the element formats,
5 FP32. -/
def decNum (f w : Nat) : Num :=
  if f = 0 then numOfInt (sInt 8 w)
  else
    let k := fpFmt f
    let s := w.testBit k.sgn
    let body := w % 2 ^ k.sgn
    let ef := body / 2 ^ k.man
    let mf := body % 2 ^ k.man
    if f = 1 then
      if body = 0x7F then .nan
      else if ef = 0 then .fin s mf (1 - (k.bias : Int) - k.man)
      else .fin s (mf + 2 ^ k.man) ((ef : Int) - k.bias - k.man)
    else if body > k.maxc then (if mf = 0 then .inf s else .nan)
    else if ef = 0 then .fin s (if f = 4 then 0 else mf) (1 - (k.bias : Int) - k.man)
    else .fin s (mf + 2 ^ k.man) ((ef : Int) - k.bias - k.man)

/-- m / 2^k rounded to nearest, ties to even. -/
def rne (m k : Nat) : Nat :=
  let q := m >>> k
  let r := m % 2 ^ k
  let h := 2 ^ k / 2
  if k = 0 then m else if r > h || (r == h && q % 2 == 1) then q + 1 else q

/-- Round an exact magnitude onto the grid of 2^q. -/
def onGrid (m : Nat) (e q : Int) : Nat :=
  if q ≤ e then m * 2 ^ (e - q).toNat else rne m (q - e).toNat

/-- Round a non-zero magnitude to `man + 1` significant bits with the exponent unbounded above, and below bounded
by the subnormal grid unless the format is BF16 (R266); answers the encoding without sign. -/
def packFp (f : Nat) (m : Nat) (e : Int) : Nat :=
  let k := fpFmt f
  let top : Int := (m.log2 : Int) + e
  let qmin : Int := 1 - (k.bias : Int) - k.man
  let q0 := top - k.man
  let q := if f = 4 then q0 else if q0 < qmin then qmin else q0
  let r := onGrid m e q
  let (r, q) := if r = 2 ^ (k.man + 1) then (2 ^ k.man, q + 1) else (r, q)
  if r < 2 ^ k.man then r
  else
    let ef : Int := q + k.man + k.bias
    if ef ≤ 0 then 0 else ef.toNat * 2 ^ k.man + (r - 2 ^ k.man)

/-- Narrow an exact value to an encoding of format `f` (R266, Table 7.2). -/
def narrow (f : Nat) (sat : Bool) (n : Num) : Nat :=
  if f = 0 then
    match n with
    | .nan => 0
    | .inf s => if s then 0x80 else 0x7F
    | .fin s m e =>
      let r := onGrid m e 0
      if s then (if r > 128 then 0x80 else (256 - r) % 256) else (if r > 127 then 0x7F else r)
  else
    let k := fpFmt f
    let sb (s : Bool) := b2n s * 2 ^ k.sgn
    let big (s : Bool) :=
      if sat && (f == 1 || f == 2) then sb s + k.maxc
      else if f = 1 then 0x7F
      else sb s + (2 ^ k.sgn - 2 ^ k.man)
    match n with
    | .nan => canonNan f
    | .inf s => big s
    | .fin s m e =>
      if m = 0 then sb s
      else
        let c := packFp f m e
        if c > k.maxc then big s else sb s + c

/-- Exact negation, scaling by 2^sc, product and sum (R259, R262, R269, R280). -/
def Num.neg : Num → Num
  | .nan => .nan
  | .inf s => .inf (!s)
  | .fin s m e => .fin (!s) m e

def Num.scale (sc : Int) : Num → Num
  | .fin s m e => .fin s m (e + sc)
  | n => n

def Num.mul : Num → Num → Num
  | .nan, _ => .nan
  | _, .nan => .nan
  | .inf s, .inf t => .inf (s != t)
  | .inf s, .fin t m _ => if m = 0 then .nan else .inf (s != t)
  | .fin s m _, .inf t => if m = 0 then .nan else .inf (s != t)
  | .fin s m e, .fin t n d => .fin (s != t) (m * n) (e + d)

/-- A signed magnitude as an integer on the grid of 2^q, where q is at most its exponent. -/
def alignInt (s : Bool) (m : Nat) (e q : Int) : Int :=
  let v : Int := (m * 2 ^ (e - q).toNat : Nat)
  if s then -v else v

def Num.add : Num → Num → Num
  | .nan, _ => .nan
  | _, .nan => .nan
  | .inf s, .inf t => if s = t then .inf s else .nan
  | .inf s, .fin _ _ _ => .inf s
  | .fin _ _ _, .inf t => .inf t
  | .fin s m e, .fin t n d =>
    let q := if e ≤ d then e else d
    let v := alignInt s m e q + alignInt t n d q
    if v = 0 then .fin (s && t && m == 0 && n == 0) 0 0 else .fin (decide (v < 0)) v.natAbs q

/-- Order of two values that are not NaN. -/
def Num.lt : Num → Num → Bool
  | .nan, _ => false
  | _, .nan => false
  | .inf s, .inf t => s && !t
  | .inf s, .fin _ _ _ => s
  | .fin _ _ _, .inf t => !t
  | .fin s m e, .fin t n d =>
    let q := if e ≤ d then e else d
    decide (alignInt s m e q < alignInt t n d q)

def Num.isNan : Num → Bool
  | .nan => true
  | _ => false

/-- Equality of values: zeros of both signs are equal, NaN equals nothing (R217). -/
def Num.eqv (a b : Num) : Bool := !a.isNan && !b.isNan && !a.lt b && !b.lt a

def Num.isNeg : Num → Bool
  | .nan => false
  | .inf s => s
  | .fin s _ _ => s

/-- MAX (`mx`) or MIN of two values (R32, R218, R265): `sz1` lets one NaN yield the other operand. -/
def Num.sel (mx sz1 : Bool) (a b : Num) : Num :=
  if a.isNan && b.isNan then .nan
  else if a.isNan then (if sz1 then b else .nan)
  else if b.isNan then (if sz1 then a else .nan)
  else if a.eqv b then (if mx then (if a.isNeg then b else a) else (if a.isNeg then a else b))
  else if mx then (if a.lt b then b else a) else (if a.lt b then a else b)

/-- A value as INT32, saturated, rounded to nearest even; NaN gives 0 (R219). -/
def toInt32 : Num → W32
  | .nan => 0#32
  | .inf s => if s then 0x80000000#32 else 0x7FFFFFFF#32
  | .fin s m e =>
    let r := onGrid m e 0
    if s then (if r > 0x80000000 then 0x80000000#32 else BitVec.ofNat 32 (0x100000000 - r))
    else (if r > 0x7FFFFFFF then 0x7FFFFFFF#32 else BitVec.ofNat 32 r)

def f32 (w : W32) : Num := decNum 5 w.toNat
def toF32 (n : Num) : W32 := BitVec.ofNat 32 (narrow 5 false n)

/-- One accumulator lane after a MAC (R260 to R263); FMT 0 wraps as INT32. -/
def macLane (f : Nat) (acc : Nat) (x y : Nat) : Nat :=
  if f = 0 then
    (BitVec.ofInt 32 (sInt 32 acc + sInt 8 x * sInt 8 y)).toNat
  else narrow 5 false ((decNum 5 acc).add ((decNum f x).mul (decNum f y)))

/-- Lane values of a register of 16 lanes of `n` bits each (R171, R172). -/
def lanesOf (n : Nat) (v : Nat) : List Nat := (List.range 16).map (fun i => (v >>> (n * i)) % 2 ^ n)

/-- A register from its lane values, lane 0 lowest. -/
def joinLanes (n : Nat) : List Nat → Nat
  | [] => 0
  | x :: xs => x % 2 ^ n + 2 ^ n * joinLanes n xs

/-- Bytes of an element of format `f` (Table 5.5): FMT 0-2 one, 3-4 two, 5 four. -/
def elemSize (f : Nat) : Nat := if f ≤ 2 then 1 else if f ≤ 4 then 2 else 4

/-- The element of a lane: 8-bit formats use the low byte (R171). -/
def elemOf (f x : Nat) : Nat := if f ≤ 2 then x % 256 else x % 65536

/-- Widen an element to an accumulator lane (R268, LWID). -/
def widen (f x : Nat) : Nat :=
  if f = 0 then (BitVec.ofInt 32 (sInt 8 x)).toNat else narrow 5 false (decNum f (elemOf f x))

/-- Narrow an accumulator lane scaled by 2^sc: INT32 source when `int`, else FP32 (R269, LCVT, LCVTQ, LPUSH). -/
def narrowLane (f : Nat) (sat int : Bool) (sc : Int) (x : Nat) : Nat :=
  narrow f sat ((if int then numOfInt (sInt 32 x) else decNum 5 x).scale sc)

/-- Whether an element's encoding is zero for Stipple (R311). -/
def isZeroElem (f x : Nat) : Bool :=
  if f = 0 then x % 256 == 0
  else if f ≤ 2 then x % 128 == 0
  else if f = 3 then x % 0x8000 == 0
  else (x / 128) % 256 == 0

end Sys2Proof.Machine
end

