-- ==== Sys2Proof/Machine/TileOps.lean ====
section
/-! DEFINITION. Operations of one tile: checked memory accesses, faults, completion, stopping, the pending
arrivals and the waiters (chapters 5, 6 and 10). -/

namespace Sys2Proof.Machine

/-! ### Registers and memory words -/

/-- s0 reads as zero (R170). -/
def Tile.sreg (t : Tile) (n : Nat) : W32 := if n = 0 then 0#32 else sget 0#32 t.sregs n
/-- Writes to s0 are discarded (R170). -/
def Tile.setS (t : Tile) (n : Nat) (v : W32) : Tile := if n = 0 then t else { t with sregs := sput t.sregs n v }
/-- The pair sn, sn+1 (R206). -/
def Tile.spair (t : Tile) (n : Nat) : W64 := BitVec.ofNat 64 ((t.sreg (n + 1)).toNat * 2 ^ 32 + (t.sreg n).toNat)
def Tile.vreg (t : Tile) (n : Nat) : Nat := (sget 0#256 t.vregs n).toNat
def Tile.setV (t : Tile) (n : Nat) (v : Nat) : Tile := { t with vregs := sput t.vregs n (BitVec.ofNat 256 v) }
def Tile.vlanes (t : Tile) (n : Nat) : List Nat := lanesOf 16 (t.vreg n)
def Tile.setVl (t : Tile) (n : Nat) (l : List Nat) : Tile := t.setV n (joinLanes 16 l)
def Tile.alanes (t : Tile) (n : Nat) : List Nat := lanesOf 32 (sget 0#512 t.accs n).toNat
def Tile.setAl (t : Tile) (n : Nat) (l : List Nat) : Tile :=
  { t with accs := sput t.accs n (BitVec.ofNat 512 (joinLanes 32 l)) }

/-- Queue depth (R31, TILE_COMPAT.SZ1_QDEPTH). -/
def Tile.qdepth (t : Tile) : Nat := if bit t.compat 2 then 8 else 16
def Tile.queue (t : Tile) (q : Nat) : List QWord := sget [] t.queues q
def Tile.setQ (t : Tile) (q : Nat) (l : List QWord) : Tile := { t with queues := sput t.queues q l }

/-- A corrected read: counted, and the word waits to be written back (R185). -/
def Tile.countCe (t : Tile) : Tile := { t with eccCe := satInc t.eccCe 0xFFFF }
/-- An uncorrectable read: counted; a memory word's index is recorded (R186). -/
def Tile.countUe (t : Tile) (word : Option Nat) : Tile :=
  { t with eccUe := satInc t.eccUe 0xFFFF,
           eccAddr := match word with
             | some n => BitVec.ofNat 32 (2 ^ 31 + n)
             | none => t.eccAddr }

/-- Read memory word n with its check (R185, R186); none is an uncorrectable error. DESIGN CHOICE (log entry 6). -/
def Tile.rdWord (t : Tile) (n : Nat) : Tile × Option W32 :=
  match sget .good t.upset n with
  | .good => (t, some (mread32 t.mem (4 * n)))
  | .ce => ({ t.countCe with wb := if t.wb.contains n then t.wb else t.wb ++ [n] }, some (mread32 t.mem (4 * n)))
  | .ue => (t.countUe (some n), none)

/-- Read `k` consecutive words. -/
def Tile.rdWords (t : Tile) (n : Nat) : Nat → Tile × Option (List W32)
  | 0 => (t, some [])
  | k + 1 =>
    match t.rdWord n with
    | (t, none) => (t, none)
    | (t, some w) =>
      match t.rdWords (n + 1) k with
      | (t, none) => (t, none)
      | (t, some ws) => (t, some (w :: ws))

/-- Write a whole word: new check bits (R187). The full/empty bit is left alone (R184). -/
def Tile.wrWord (t : Tile) (n : Nat) (v : W32) : Tile :=
  { t with mem := mwrite32 t.mem (4 * n) v, upset := sdel t.upset n, wb := t.wb.filter (· != n) }

def Tile.wrWords (t : Tile) (n : Nat) : List W32 → Tile
  | [] => t
  | w :: ws => (t.wrWord n w).wrWords (n + 1) ws

/-- A store of 1 or 2 bytes: a read-modify-write that leaves an uncorrectable word unchanged (R182, R187).
The flag tells whether the store was made. -/
def Tile.wrSub (t : Tile) (a size : Nat) (v : W32) : Tile × Bool :=
  match t.rdWord (a / 4) with
  | (t, none) => (t, false)
  | (t, some _) => ({ t with mem := mwrite t.mem a (natLe size v.toNat), upset := sdel t.upset (a / 4),
                              wb := t.wb.filter (· != a / 4) }, true)

def Tile.isFull (t : Tile) (n : Nat) : Bool := sget false t.full n
def Tile.setFull (t : Tile) (n : Nat) (b : Bool) : Tile := { t with full := sput t.full n b }

/-! ### Streams and the Lattice on a fault (R194, R292) -/

/-- A stream unit stopped by a fault (R194). -/
def SUnit.abortAll (u : SUnit) : SUnit :=
  if u.act.isSome || u.wait.isSome then
    { u with act := none, wait := none, abort := true, paused := false, pauseReq := false, buf := [], sub := 0, res := [] }
  else u

def Tile.unit (t : Tile) (u : Nat) : SUnit := sget {} t.streams u
def Tile.setUnit (t : Tile) (u : Nat) (x : SUnit) : Tile := { t with streams := sput t.streams u x }
def Tile.modUnit (t : Tile) (u : Nat) (g : SUnit → SUnit) : Tile := t.setUnit u (g (t.unit u))
def Tile.allUnits (t : Tile) (g : SUnit → SUnit) : Tile :=
  (((t.modUnit 0 g).modUnit 1 g).modUnit 2 g).modUnit 3 g

def isCoreW : Waiter → Bool
  | .core .. => true
  | .parked .. => false

/-- The core no longer waits in its instruction: the wait is abandoned without effect (R160). -/
def Tile.dropWait (t : Tile) : Tile :=
  { t with waiting := false, fence := none, fenced := false, noted := false, want := t.want.filter (· != 0),
           waiters := t.waiters.filter (fun w => !isCoreW w) }

/-- The record of a fault (R195 to R199, Table 5.7); streams and Lattice stop. -/
def Tile.enterFault (t : Tile) (f : FaultRec) (pc : W32) (async multi : Bool) : Tile :=
  { (t.dropWait.allUnits SUnit.abortAll) with
    state := .faulted, stopping := false, stepping := false, blk := none, sendCh := none, want := [], afault := none,
    afMulti := false, latq := [], latRun := none,
    fault := BitVec.ofNat 32 (b2n multi * 2 ^ 17 + b2n async * 2 ^ 16 + (f.detail % 256) * 2 ^ 8 + f.code % 256),
    faultPc := pc, faultInfo := f.info, pc := pc }

/-- The tile enters FAULTED and its field controller logs it (R199, R200, R583). DEDUCED (log entry 38). -/
def State.tileFault (s : State) (r : Nat) (f : FaultRec) (pc : W32) (async multi : Bool) : State :=
  (s.modTile r (·.enterFault f pc async multi)).modFld (fieldOf r)
    (·.logFault false f.code (rowOf r % 96) (colOf r % 96))

/-- An asynchronous fault (R197): taken at once, unless a remote instruction is in flight, whose end is the next
instruction boundary. Of faults of several cycles that wait for one boundary, the first is recorded.
DEDUCED (log entry 38). -/
def State.takeAsync (s : State) (r : Nat) (f : FaultRec) (multi : Bool) : State :=
  let t := s.tile r
  if t.state = .faulted then s
  else if t.state = .running ∧ (t.blk.isSome ∨ t.sendCh.isSome) then
    (if t.afault.isSome then s else s.setTile r { t with afault := some f, afMulti := multi })
  else s.tileFault r f t.pc true multi

/-- The end of STEP: the tile enters STOPPED, through STOP_COMPLETE when STOP was written meanwhile (R160, R161). -/
def Tile.endStep (t : Tile) : Tile :=
  if t.stepping then { t with state := if t.stopping then t.state else .stopped, stepping := false } else t

/-- The instruction completes: the next pc, the end of STEP (R161), and an asynchronous fault that waited (R197). -/
def State.complete (s : State) (r : Nat) (npc : W32) : State :=
  let t := { (s.tile r).dropWait with pc := npc, blk := none, sendCh := none }
  match t.afault with
  | some f => (s.setTile r t).tileFault r f npc true t.afMulti
  | none => s.setTile r t.endStep

/-- R223: HALT completes at the next pc and the tile is HALTED; the field controller logs it (R583). An asynchronous
fault that was waiting is then taken at once (R197). CODE of the log entry is 0, no fault's code: DESIGN CHOICE (log
entry 75). -/
def State.halt (s : State) (r : Nat) (npc : W32) : State :=
  let t := s.tile r
  let t' := { t.dropWait with state := .halted, stepping := false, pc := npc, afault := none }
  let s := (s.setTile r t').modFld (fieldOf r) (·.logFault true 0 (rowOf r % 96) (colOf r % 96))
  match t.afault with
  | some x => s.tileFault r x npc true t.afMulti
  | none => s

/-! ### Barrier arrivals (R250, R398, R410) -/

/-- The SRCKIND, key and source that a tile stamps (R369, R345). -/
def State.tileHdr (s : State) (r : Nat) : Hdr :=
  let f := s.fld (fieldOf r)
  { sx := colOf r, sy := rowOf r, splate := ownPlate f.topo, pkey := bits f.sealAct 23 12 }

def barPayload (epoch cut : Bool) (lastf kind id : Nat) : W32 :=
  BitVec.ofNat 32 (b2n epoch * 2 ^ 24 + b2n cut * 2 ^ 23 + lastf * 2 ^ 17 + kind * 2 ^ 14 + id)

/-- A BAR packet to the origin router of field f (Table 10.4, R398 to R400). -/
def barPacket (from_ : Hdr) (f : Nat) (payload : W32) : Packet :=
  { h := { from_ with dx := colOf (originOf f), dy := rowOf (originOf f), dplate := 0x7FF, op := opBar, ch := 3,
                      payload := payload } }

/-- Send the oldest arrivals that wait for nothing more, while C3 has credit, setting SENT (R250, R398). -/
def State.sendArrivals (s : State) (r : Nat) : Nat → State
  | 0 => s
  | k + 1 =>
    let t := s.tile r
    match t.arrivals with
    | [] => s
    | n :: rest =>
      let e := sget {} t.pend n
      if e.waits.isEmpty && s.canInject r .loc 3 && !t.rst then
        let s := s.setTile r { t with arrivals := rest, pend := sput t.pend n { e with sent := true } }
        let s := s.inject r .loc (barPacket (s.tileHdr r) (fieldOf r) (barPayload false false 0 0 e.id))
        s.sendArrivals r k
      else s

/-! ### Full/empty operations and waiters (R229 to R232, R382 to R387) -/

/-- The word that a waiter waits on, and whether it waits to store. -/
def Waiter.word : Waiter → Nat
  | .core _ w _ _ _ => w
  | .parked _ w _ _ _ _ => w
def Waiter.st : Waiter → Bool
  | .core s _ _ _ _ => s
  | .parked s _ _ _ _ _ => s

/-- Split off the first waiter on word n that the word's bit lets proceed. -/
def nextWaiter (n : Nat) (full : Bool) : List Waiter → Option (Waiter × List Waiter)
  | [] => none
  | w :: ws =>
    if w.word = n ∧ w.st = !full then some (w, ws)
    else match nextWaiter n full ws with
      | some (x, rest) => some (x, w :: rest)
      | none => none

/-- The request packet of a parked operation, as far as its answer needs it. -/
def parkedReq (h : Hdr) (back : RPort) (gen : Nat) : Packet := { h := h, back := back, gen := gen }

/-- After a full/empty operation completes on word n, serve its waiters in the order they began to wait (R385).
Each one served changes the bit for the next. -/
def State.serveWaiters (s : State) (r n : Nat) : Nat → State
  | 0 => s
  | k + 1 =>
    let t := s.tile r
    match nextWaiter n (t.isFull n) t.waiters with
    | none => s
    | some (.core st _ v rd npc, rest) =>
      let t := { t with waiters := rest }
      if st then
        ((s.setTile r ((t.wrWord n v).setFull n true)).complete r npc).serveWaiters r n k
      else
        match t.rdWord n with
        | (t, some d) => ((s.setTile r ((t.setS rd d).setFull n false)).complete r npc).serveWaiters r n k
        | (t, none) => (s.setTile r t).tileFault r ⟨4, 1, BitVec.ofNat 64 n⟩ t.pc false false
    | some (.parked st _ v h back gen, rest) =>
      let t := { t with waiters := rest }
      let q := parkedReq h back gen
      if st then
        ((s.setTile r ((t.wrWord n v).setFull n true)).reply r .loc false q 0 0#32).serveWaiters r n k
      else
        match t.rdWord n with
        | (t, some d) => ((s.setTile r (t.setFull n false)).reply r .loc false q 0 d).serveWaiters r n k
        | (t, none) => ((s.setTile r t).reply r .loc false q 3 0#32).serveWaiters r n k

/-- How many waiters a service may pass: at most 4 parked operations and the core's own. -/
abbrev waiterFuel : Nat := 8

end Sys2Proof.Machine
end

