-- ==== Sys2Proof/Machine/StreamRead.lean ====
section
/-! DEFINITION. Stream descriptors, and the items that read units read: vectors, Stipple slots and structured groups
(5.7, chapter 8), with the faults their reads find (R186, R198, R330). -/

namespace Sys2Proof.Machine

/-! ### Descriptor fields (Table 5.5) -/

abbrev Desc := Sparse W32

def Desc.w (d : Desc) (k : Nat) : W32 := sget 0#32 d k
def Desc.mode (d : Desc) : Nat := bits (d.w 0) 1 0
def Desc.dir (d : Desc) : Bool := bit (d.w 0) 2
def Desc.remote (d : Desc) : Bool := bit (d.w 0) 3
def Desc.fmt (d : Desc) : Nat := bits (d.w 0) 6 4
def Desc.ndim (d : Desc) : Nat := bits (d.w 0) 8 7
def Desc.sat (d : Desc) : Bool := bit (d.w 0) 9
def Desc.base (d : Desc) : Nat := bits (d.w 1) 16 0
def Desc.ga (d : Desc) : W64 := BitVec.ofNat 64 ((d.w 3).toNat * 2 ^ 32 + (d.w 2).toNat)
def Desc.cnt (d : Desc) (k : Nat) : Nat := bits (d.w (4 + k)) 15 0
def Desc.str (d : Desc) (k : Nat) : Int := (d.w (8 + k)).toInt

def Desc.dims (d : Desc) : List Nat := List.range (d.ndim + 1)
/-- Vectors or slots of a command (R189). -/
def Desc.total (d : Desc) : Nat := d.dims.foldl (fun n k => n * d.cnt k) 1
/-- Bytes of a vector or slot (R189, R309, R329). -/
def Desc.size (d : Desc) : Nat :=
  let es := elemSize d.fmt
  match d.mode with
  | 0 => 16 * es
  | 3 => 8 + 32 * es
  | _ => 4 + 16 * es

/-- The address in use: BASE, or the offset of SD_GA (R191). -/
def Desc.start (d : Desc) : Nat := if d.remote then bits d.ga 28 0 else d.base

/-- Offset of item n in visiting order, i0 fastest (R189). -/
def Desc.offAt (d : Desc) : Nat → List Nat → Int
  | _, [] => 0
  | n, k :: ks => (n % d.cnt k : Nat) * d.str k + d.offAt (n / d.cnt k) ks

def Desc.addr (d : Desc) (n : Nat) : Nat := ((d.start : Int) + d.offAt n d.dims).toNat

/-! ### Reading items (R189, R316, R329, R330) -/

/-- What reading an item finds: the item, an uncorrectable word (R186), or a bad structured slot (R330). -/
inductive ItemRes where
  | item (t : Tile) (i : Item)
  | bad (t : Tile) (x : FaultRec)
  deriving DecidableEq

/-- IDX0 < IDX1 in every lane of META (R330). -/
def metaOk (m : Nat) : Bool := (List.range 16).all (fun j => decide ((m >>> (4 * j)) % 4 < (m >>> (4 * j + 2)) % 4))

/-- Read item n of command d by unit u (R189, R316, R330). -/
def readItem (t : Tile) (u : Nat) (d : Desc) (n : Nat) : ItemRes :=
  let a := d.addr n
  let ue (t : Tile) : ItemRes := .bad t ⟨4, 2 + u, BitVec.ofNat 64 (bits t.eccAddr 14 0)⟩
  match d.mode with
  | 0 =>
    match t.rdWords (a / 4) (d.size / 4) with
    | (t, some ws) => .item t (.vec (ofWords ws))
    | (t, none) => ue t
  | 3 =>
    match t.rdWords (a / 4) (d.size / 4) with
    | (t, some ws) =>
      let b := ofWords ws
      if metaOk (leNat (b.take 8)) then .item t (.group b) else .bad t ⟨6, u, BitVec.ofNat 64 a⟩
    | (t, none) => ue t
  | _ =>
    match t.rdWord (a / 4) with
    | (t, none) => ue t
    | (t, some h) =>
      match t.rdWords (a / 4 + 1) ((popc h.toNat 16 * elemSize d.fmt + 3) / 4) with
      | (t, some ws) => .item t (.slot h (ofWords ws))
      | (t, none) => ue t

/-- Operand entries that items take of the unit's 8 (Table 3.3, R321). -/
def bufLoad : List Item → Nat
  | [] => 0
  | .group _ :: is => 2 + bufLoad is
  | _ :: is => 1 + bufLoad is

/-- Unit reads its next item into its buffer; an error is answered with what it recorded. -/
def Tile.fetchItem (t : Tile) (u : Nat) (d : Desc) : ItemRes :=
  let x := t.unit u
  match readItem t u d x.idx with
  | .item t i => .item (t.setUnit u { t.unit u with idx := x.idx + 1, buf := x.buf ++ [i] }) i
  | .bad t f => .bad t f

/-- The command of a unit runs stipple-in. -/
def stippleIn (d : Desc) : Bool := d.mode == 1 && !d.dir

/-- Whether a unit holds a stipple-in command, active or waiting. -/
def SUnit.holdsStipple (u : SUnit) : Bool := u.act.any stippleIn || u.wait.any stippleIn

/-- The units A and W that an LVM in the queue or in execution names. -/
def Tile.lvmUnits (t : Tile) : List (Nat × Nat) :=
  (match t.latRun with
   | some v => [(v.ua, v.uw)]
   | none => []) ++
  t.latq.filterMap (fun c => match c with
    | .lvm _ _ _ ua uw => some (ua, uw)
    | _ => none)

/-- A unit whose vectors an LVM may skip reads none ahead: the block reads what it needs, once unit A has read its header
(R318). So does a unit that no LVM names yet while another unit holds a stipple-in command. DEDUCED (log entry 77). -/
def Tile.skipLocked (t : Tile) (u : Nat) : Bool :=
  let l := t.lvmUnits
  l.any (fun p => p.2 == u && (t.unit p.1).holdsStipple) ||
    (!l.any (fun p => p.1 == u || p.2 == u) && (List.range 4).any (fun v => v != u && (t.unit v).holdsStipple))

/-- The command whose next item unit u may read ahead now: an active read command that is not paused, with items left, room
for one (Table 3.3), and no need to wait for another unit's headers. -/
def Tile.readReady (t : Tile) (u : Nat) : Option Desc :=
  let x := t.unit u
  match x.act with
  | none => none
  | some d =>
    if x.paused || Desc.dir d || decide (x.idx ≥ Desc.total d)
        || decide (bufLoad x.buf + (if Desc.mode d = 3 then 2 else 1) > 8) || (decide (Desc.mode d < 2) && t.skipLocked u)
    then none
    else some d

/-- The fault that unit u's next read would find, with the tile that has recorded it. -/
def Tile.coFault (t : Tile) (u : Nat) : Option (Tile × FaultRec) :=
  match t.readReady u with
  | none => none
  | some d =>
    match t.fetchItem u d with
    | .item _ _ => none
    | .bad t x => some (t, x)

/-- The reads of the units in a list are made, and their errors counted (R186). -/
def Tile.noteCo (t : Tile) (l : List Nat) : Tile :=
  l.foldl (fun t u => match t.coFault u with
    | some (t, _) => t
    | none => t) t

/-- A fault of stream unit u (R197). Whether the next read of another unit, when it would fault too, falls in the same cycle
is free: DESIGN CHOICE (log entry 76); the lowest unit's fault is then recorded, with MULTI (R198). -/
def State.asyncFault (s : State) (r u : Nat) (x : FaultRec) : State :=
  let t := s.tile r
  let hit := (List.range 4).filter (fun v => v != u && (t.coFault v).isSome)
  match hit with
  | [] => s.takeAsync r x false
  | v :: _ =>
    let same := Config.sameCycle s.freeCtr
    let x := if same && decide (v < u) then ((t.coFault v).map (·.2)).getD x else x
    let s := if same then s.setTile r (t.noteCo hit) else s
    { s.takeAsync r x same with freeCtr := s.freeCtr + 1 }

end Sys2Proof.Machine
end

