-- ==== Sys2Proof/Machine/TileCtl.lean ====
section
/-! DEFINITION. Tile control space: the TILE_ registers and windows, reads and writes by party (5.9, R202). -/

namespace Sys2Proof.Machine

/-- The privileged writers of a tile: Press software at Supervisor or Machine level (5.1). -/
def privTile : Party → Bool
  | .pressS | .pressM => true
  | _ => false

def stateCode : TState → Nat
  | .stopped => 0 | .running => 1 | .faulted => 2 | .halted => 3

/-- TILE_STAT (Table 5.9). -/
def Tile.statWord (t : Tile) : W32 :=
  BitVec.ofNat 32 (b2n t.wref * 256 + b2n t.waiting * 8 + b2n t.stopping * 4 + stateCode t.state)

/-- SD_STAT, word 12 of a descriptor (Table 5.5). -/
def SUnit.statWord (u : SUnit) : W32 :=
  BitVec.ofNat 32 (b2n u.paused * 8 + b2n u.abort * 4 + b2n u.wait.isSome * 2 + b2n u.act.isSome)

/-- Word k of descriptor n (Table 5.5). -/
def SUnit.descWord (u : SUnit) (k : Nat) : W32 :=
  match k with
  | 12 => u.statWord
  | 13 => u.nnz
  | 14 => u.dens
  | 15 => u.pos
  | _ => sget 0#32 u.desc k

/-- The RW bits of descriptor word k (Table 5.5). -/
def descMask (k : Nat) : W32 :=
  match k with
  | 0 => 0x3FF#32
  | 1 => 0x1FFFF#32
  | 4 | 5 | 6 | 7 => 0xFFFF#32
  | _ => 0xFFFFFFFF#32

/-- Pending entry n as a word (Table 10.5). -/
def Pend.word (e : Pend) : W32 :=
  BitVec.ofNat 32 (b2n e.valid * 2 ^ 31 + b2n e.released * 2 ^ 30 + b2n e.sent * 2 ^ 29 + b2n e.cut * 2 ^ 28 + e.id)

/-- 32 full/empty bits of the words from 32 k (R70). -/
def Tile.feWord (t : Tile) (k : Nat) : W32 :=
  BitVec.ofNat 32 ((List.range 32).foldr (fun i acc => b2n (t.isFull (32 * k + i)) + 2 * acc) 0)

/-- A full/empty window access reads or changes the bits without a check, and leaves each word's check status as it was:
DESIGN CHOICE (log entry 74). -/
def Tile.setFeWord (t : Tile) (k : Nat) (v : W32) : Tile :=
  (List.range 32).foldl (fun t i => t.setFull (32 * k + i) (bit v i)) t

/-- A word of a register window (R173): scalar, vector or accumulator. -/
def Tile.winRead (t : Tile) (off : Nat) : W32 :=
  if off < 0x100 then t.sreg ((off - 0x80) / 4)
  else if off < 0x300 then BitVec.ofNat 32 (t.vreg ((off - 0x100) / 32) >>> (32 * ((off - 0x100) / 4 % 8)))
  else BitVec.ofNat 32 ((sget 0#512 t.accs t.accSel.toNat).toNat >>> (32 * ((off - 0x340) / 4)))

def Tile.winWrite (t : Tile) (off : Nat) (v : W32) : Tile :=
  if off < 0x100 then t.setS ((off - 0x80) / 4) v
  else if off < 0x300 then
    let n := (off - 0x100) / 32
    let k := (off - 0x100) / 4 % 8
    { t with vregs := sput t.vregs n (setBits (sget 0#256 t.vregs n) (32 * k + 31) (32 * k) v.toNat) }
  else
    let n := t.accSel.toNat
    let k := (off - 0x340) / 4
    { t with accs := sput t.accs n (setBits (sget 0#512 t.accs n) (32 * k + 31) (32 * k) v.toNat) }

def isWin (off : Nat) : Bool :=
  (0x80 ≤ off && off < 0x300) || (0x340 ≤ off && off < 0x380)

/-- TILE_ID (Table 5.8, R204): the coordinates the tile holds under the active map. -/
def tileIdWord (r : Nat) : W32 := BitVec.ofNat 32 (fieldOf r * 2 ^ 20 + rowOf r * 2 ^ 10 + colOf r)

/-- Queue pop through TILE_QPOPn by a privileged writer while the tile is not RUNNING (R178, R574). -/
def Tile.qpop (t : Tile) (q : Nat) : Tile × W32 :=
  match t.queue q with
  | [] => ({ t with under := sput t.under q true }, 0#32)
  | w :: ws =>
    let t := t.setQ q ws
    (match w.e with
     | .good => t
     | .ce => t.countCe
     | .ue => t.countUe none, w.v)

/-- The register at an offset of tile control space, for reads that change nothing (Tables 5.8 to 5.10). -/
def Tile.ctlPeek (t : Tile) (r off : Nat) (priv : Bool) : W32 :=
  if off = 0x0 then tileIdWord r
  else if off = 0x8 then t.statWord
  else if off = 0xC then t.pc
  else if off = 0x10 then t.origin
  else if off = 0x14 then t.compat
  else if off = 0x18 then t.feLimit
  else if off = 0x20 then t.fault
  else if off = 0x24 then t.faultPc
  else if off = 0x28 then BitVec.ofNat 32 (bits t.faultInfo 31 0)
  else if off = 0x2C then BitVec.ofNat 32 (bits t.faultInfo 63 32)
  else if off = 0x30 then BitVec.ofNat 32 (t.eccUe * 65536 + t.eccCe)
  else if off = 0x34 then t.eccAddr
  else if off = 0x40 then BitVec.ofNat 32 (bits t.cyc 31 0)
  else if off = 0x44 then BitVec.ofNat 32 (bits t.cyc 63 32)
  else if off = 0x300 then t.accSel
  else if isWin off then (if priv && t.state != .running then t.winRead off else 0#32)
  else if 0x400 ≤ off ∧ off < 0x500 then (t.unit ((off - 0x400) / 64)).descWord ((off - 0x400) / 4 % 16)
  else if 0x800 ≤ off ∧ off < 0x810 then
    let q := (off - 0x800) / 4
    BitVec.ofNat 32 (b2n (sget false t.under q) * 65536 + t.qdepth * 32 + (t.queue q).length)
  else if 0xC00 ≤ off ∧ off < 0xC40 then (sget {} t.pend ((off - 0xC00) / 4)).word
  else if 0x20000 ≤ off ∧ off < 0x20C00 then t.feWord ((off - 0x20000) / 4)
  else 0#32

/-- A read of tile control space by a party: the value, and what the read itself changes (R9 RC, R173, R178). -/
def Tile.ctlRead (t : Tile) (r : Nat) (p : Party) (off : Nat) : Tile × W32 :=
  let off := off / 4 * 4
  if off = 0x30 then ({ t with eccCe := 0, eccUe := 0 }, t.ctlPeek r off false)
  else if 0x810 ≤ off ∧ off < 0x820 then
    (if privTile p && t.state != .running then t.qpop ((off - 0x810) / 4) else (t, 0#32))
  else (t, t.ctlPeek r off (privTile p))

def Tile.refuse (t : Tile) : Tile := { t with wref := true }

/-- The four commands of TILE_CTL in each state (Table 5.11). -/
def Tile.cmdRun (t : Tile) : Tile :=
  match t.state with
  | .stopped | .halted =>
    { t.allUnits (fun u => { u with paused := false, pauseReq := false }) with state := .running, noted := false }
  | .running => if t.stopping then t.refuse else t
  | .faulted => t.refuse

/-- STOP abandons an instruction that waits on a local condition (R160). -/
def Tile.cmdStop (t : Tile) : Tile :=
  if t.state = .running ∧ !t.stopping then
    (if t.blk.isSome || t.sendCh.isSome then { t with stopping := true } else { t.dropWait with stopping := true })
  else t

def Tile.cmdStep (t : Tile) : Tile :=
  match t.state with
  | .stopped | .halted =>
    { t.allUnits (fun u => { u with paused := false, pauseReq := false }) with
      state := .running, stepping := true, noted := false }
  | _ => t.refuse

def Tile.cmdClrf (t : Tile) : Tile := if t.state = .faulted then { t with state := .stopped } else t

/-- A write of TILE_CTL (R162, R163). -/
def Tile.ctlCmd (t : Tile) (v : W32) : Tile :=
  match bits v 3 0 with
  | 1 => t.cmdRun
  | 2 => t.cmdStop
  | 4 => t.cmdStep
  | 8 => t.cmdClrf
  | 0 => t
  | _ => t.refuse

/-- R63: a TILE_ORIGIN that is refused. -/
def originBad (v : W32) : Bool :=
  let y := bits v 19 10
  let x := bits v 9 0
  y % 96 != 0 || x % 96 != 0 || decide (y / 96 + bits v 25 23 + 1 > 8) || decide (x / 96 + bits v 22 20 + 1 > 8)

def Tile.queuesEmpty (t : Tile) : Bool := (List.range 4).all (fun q => (t.queue q).isEmpty)

/-- TILE_COMPAT (R29, R30). -/
def Tile.wrCompat (t : Tile) (ok : Bool) (v : W32) : Tile :=
  if !ok then t.refuse
  else if bit v 2 != bit t.compat 2 && !t.queuesEmpty then t.refuse
  else { t with compat := v &&& 7#32 }

/-- TILE_ORIGIN (R62, R63). -/
def Tile.wrOrigin (t : Tile) (ok : Bool) (v : W32) : Tile :=
  let v := v &&& 0x03FFFFFF#32
  if !ok || originBad v then t.refuse else { t with origin := v }

/-- TILE_PC (R686, R169), which keeps bits [1:0] as written: DEDUCED (log entry 68). -/
def Tile.wrPc (t : Tile) (ok : Bool) (v : W32) : Tile := if ok then { t with pc := v } else t.refuse

/-- TILE_FE_LIMIT (R202, R203). -/
def Tile.wrFeLimit (t : Tile) (ok : Bool) (v : W32) : Tile :=
  if !ok || decide (bits v 15 12 < bits v 11 8) then t.refuse else { t with feLimit := v &&& 0xFFFF#32 }

/-- A register window (R173). -/
def Tile.wrWin (t : Tile) (ok : Bool) (off : Nat) (v : W32) : Tile := if ok then t.winWrite off v else t.refuse

/-- The full/empty window (R70, R71): no waiter is examined. -/
def Tile.wrFe (t : Tile) (ok : Bool) (k : Nat) (v : W32) : Tile := if ok then t.setFeWord k v else t.refuse

/-- TILE_QPUSHn (R178). -/
def Tile.qpush (t : Tile) (ok : Bool) (q : Nat) (v : W32) : Tile :=
  if ok && decide ((t.queue q).length < t.qdepth) then t.setQ q (t.queue q ++ [{ v := v }]) else t.refuse

/-- A pending entry (R407). -/
def Tile.wrPend (t : Tile) (ok : Bool) (n : Nat) (v : W32) : Tile :=
  if !ok || (bit v 31 && !bit v 29) then t.refuse
  else { t with pend := sput t.pend n { valid := bit v 31, released := bit v 30, sent := bit v 29, cut := bit v 28,
                                        id := bits v 13 0 },
                arrivals := t.arrivals.filter (· != n) }

/-- A write to tile control space by a party (R202 and the rule of each register). -/
def Tile.ctlWrite (t : Tile) (p : Party) (off : Nat) (v : W32) : Tile :=
  let off := off / 4 * 4
  let priv := privTile p
  let own := p == .tileSelf
  let idle := priv && t.state != .running
  if 0x400 ≤ off ∧ off < 0x500 then
    let k := (off - 0x400) / 4 % 16
    if !(priv || own) then t.refuse
    else if k < 12 then t.modUnit ((off - 0x400) / 64) (fun u => { u with desc := sput u.desc k (v &&& descMask k) })
    else if own then t.refuse else t
  else if off = 0x18 then t.wrFeLimit (priv || own) v
  else if !priv then t.refuse
  else if off = 0x4 then t.ctlCmd v
  else if off = 0x8 then (if bit v 8 then { t with wref := false } else t)
  else if off = 0xC then t.wrPc idle v
  else if off = 0x10 then t.wrOrigin idle v
  else if off = 0x14 then t.wrCompat idle v
  else if isWin off then t.wrWin idle off v
  else if off = 0x300 then { t with accSel := v &&& 7#32 }
  else if 0x800 ≤ off ∧ off < 0x810 then
    (if bit v 16 then { t with under := sput t.under ((off - 0x800) / 4) false } else t)
  else if 0x820 ≤ off ∧ off < 0x830 then t.qpush idle ((off - 0x820) / 4) v
  else if 0xC00 ≤ off ∧ off < 0xC40 then t.wrPend idle ((off - 0xC00) / 4) v
  else if 0x20000 ≤ off ∧ off < 0x20C00 then t.wrFe idle ((off - 0x20000) / 4) v
  else t

end Sys2Proof.Machine
end

