-- ==== Sys2Proof/Machine/Operands.lean ====
section
/-! DEFINITION. Source operands with their queue pops (5.4, R207, R276), and how one instruction of a tile runs:
fetch, decode, interlock, and its end (5.2, 6.1, 6.2). -/

namespace Sys2Proof.Machine

/-- A source read: the value and the tile after its pops, a queue that is too short, or an uncorrectable queue
word (Table 5.4, R574). -/
inductive Src (α : Type) where
  | got (t : Tile) (v : α)
  | empty
  | bad (q : Nat)
  deriving DecidableEq

/-- Words popped with their checks (R175, R176): corrected ones are counted. -/
def Tile.popN (t : Tile) (q n : Nat) : Src (List W32) :=
  let l := t.queue q
  if l.length < n then .empty
  else
    let h := l.take n
    if h.any (fun w => w.e == .ue) then .bad q
    else
      .got { t with queues := sput t.queues q (l.drop n),
                    eccCe := (h.filter (fun w => w.e == .ce)).foldl (fun c _ => satInc c 0xFFFF) t.eccCe }
        (h.map (·.v))

/-- A scalar source: a register, or one word of queue `r` (R174, R207). -/
def Tile.srcS (t : Tile) (q : Bool) (r : Nat) : Src W32 :=
  if q then
    match t.popN r 1 with
    | .got t ws => .got t (ws.getD 0 0#32)
    | .empty => .empty
    | .bad n => .bad n
  else .got t (t.sreg r)

/-- A vector source as 16 lanes: a register, or 8 words of a queue (R175, R276). -/
def Tile.srcV (t : Tile) (q : Bool) (r : Nat) : Src (List Nat) :=
  if q then
    match t.popN r 8 with
    | .got t ws => .got t (ws.flatMap (fun w => [bits w 15 0, bits w 31 16]))
    | .empty => .empty
    | .bad n => .bad n
  else .got t (t.vlanes r)

/-- The end of a local instruction: it completes at `npc`, stalls (the flag: it waits in the sense of R95), or faults.
The tile of a fault holds only what the checks recorded. -/
inductive LRes where
  | ok (t : Tile) (npc : W32)
  | wait (t : Tile) (counts : Bool)
  | fault (t : Tile) (f : FaultRec)

/-- The end of an instruction over the whole state; `blocked` is a remote request in flight (R167). `multi` is
TILE_FAULT.MULTI. -/
inductive Res where
  | ok (s : State) (npc : W32)
  | wait (s : State) (counts : Bool)
  | blocked (s : State)
  | halt (s : State) (npc : W32)
  | fault (s : State) (f : FaultRec) (multi : Bool)

/-- The fault of an uncorrectable queue word (Table 5.4): the pops are not made. -/
def queueUe (t : Tile) (q : Nat) : LRes := .fault (t.countUe none) ⟨4, 6 + q, 0#64⟩

/-- Read both R-format sources and continue (R175: the field encoded first is popped first). -/
def withAB (t : Tile) (f : Fields) (k : Tile → W32 → W32 → LRes) : LRes :=
  match t.srcS f.qa f.a with
  | .empty => .wait t true
  | .bad q => queueUe t q
  | .got t1 a =>
    match t1.srcS f.qb f.b with
    | .empty => .wait t true
    | .bad q => queueUe t q
    | .got t2 b => k t2 a b

/-- Read source ra and continue. -/
def withA (t : Tile) (f : Fields) (k : Tile → W32 → LRes) : LRes :=
  match t.srcS f.qa f.a with
  | .empty => .wait t true
  | .bad q => queueUe t q
  | .got t1 a => k t1 a

/-- Read vector sources a and b and continue. -/
def withVV (t : Tile) (f : Fields) (k : Tile → List Nat → List Nat → LRes) : LRes :=
  match t.srcV f.qa f.a with
  | .empty => .wait t true
  | .bad q => queueUe t q
  | .got t1 a =>
    match t1.srcV f.qb f.b with
    | .empty => .wait t true
    | .bad q => queueUe t q
    | .got t2 b => k t2 a b

def withV (t : Tile) (f : Fields) (k : Tile → List Nat → LRes) : LRes :=
  match t.srcV f.qa f.a with
  | .empty => .wait t true
  | .bad q => queueUe t q
  | .got t1 a => k t1 a

/-- What an instruction of a tile does: router, fields, its own pc, the pc after it. -/
abbrev Body := Nat → Fields → W32 → W32 → State → Res
/-- What a local instruction does: fields, its own pc, the pc after it. -/
abbrev LBody := Fields → W32 → W32 → Tile → LRes

/-- A local instruction acts on its tile alone. -/
def localBody (g : LBody) : Body := fun r f pc npc s =>
  match g f pc npc (s.tile r) with
  | .ok t n => .ok (s.setTile r t) n
  | .wait t c => .wait (s.setTile r t) c
  | .fault t x => .fault (s.setTile r t) x false

/-- Vector destinations of unfinished LCVT and LCVTQ commands (R288). -/
def latDests : List LCmd → List Nat
  | [] => []
  | .lcvt _ _ _ wd _ _ :: cs => wd :: latDests cs
  | _ :: cs => latDests cs

/-- Vector registers an instruction reads or writes (R288). -/
def vecUse (f : Fields) : List Nat :=
  let va := if f.qa then [] else [f.a]
  let vb := if f.qb then [] else [f.b]
  match f.mn with
  | .vldb | .vldh | .vstb | .vsth | .vsplat | .vins | .lcvt | .lcvtq | .vpop => [f.d]
  | .vadd | .vsub | .vmul | .vmin | .vmax => f.d :: (va ++ vb)
  | .vmov | .vcvt => f.d :: va
  | .vext | .lwid => va
  | .lmac => va ++ vb
  | .lmacs => vb
  | _ => []

/-- The core can issue: released, RUNNING, not STOPPING, no remote request in flight (R157, R160, R167), no packet of an
earlier instruction half injected (R379), no local full/empty operation waiting in M (R230). -/
def Tile.canIssue (t : Tile) : Bool :=
  !t.rst && t.state == .running && !t.stopping && t.blk.isNone && t.sendCh.isNone && !t.waiters.any isCoreW

/-- What the fetch of word n records when it was corrected (R185). -/
def Tile.fetchNote (t : Tile) (n : Nat) : Tile :=
  if sget .good t.upset n = .ce then { t.countCe with wb := if t.wb.contains n then t.wb else t.wb ++ [n] } else t

/-- The word of an instruction, its prefix if any, and the pc after it; or the fault of the fetch (R169, R208 to R212). -/
inductive Fetched where
  | instr (f : Fields) (limm : Bool) (len : Nat)
  | bad (ue : Option Nat) (x : FaultRec)
  deriving DecidableEq

def Tile.fetch (t : Tile) (pc : W32) : Fetched :=
  let a := pc.toNat
  let w64 (hi lo : W32) : W64 := BitVec.ofNat 64 (hi.toNat * 2 ^ 32 + lo.toNat)
  if a % 4 ≠ 0 ∨ a ≥ 0x18000 then .bad none ⟨3, 0, w64 0#32 pc⟩
  else if sget .good t.upset (a / 4) = .ue then .bad (some (a / 4)) ⟨4, 0, BitVec.ofNat 64 (a / 4)⟩
  else
    let w := mread32 t.mem a
    if !isLimm w then
      match decodeTile w none with
      | some f => .instr f false 4
      | none => .bad none ⟨1, 0, w64 0#32 w⟩
    else if bits w 25 16 ≠ 0 then .bad none ⟨1, 0, w64 0#32 w⟩
    else if a + 4 ≥ 0x18000 then .bad none ⟨3, 0, BitVec.ofNat 64 (a + 4)⟩
    else if sget .good t.upset (a / 4 + 1) = .ue then .bad (some (a / 4 + 1)) ⟨4, 0, BitVec.ofNat 64 (a / 4 + 1)⟩
    else
      let w2 := mread32 t.mem (a + 4)
      match decodeTile w2 (some (BitVec.ofNat 16 (bits w 15 0))) with
      | some f => .instr f true 8
      | none => .bad none ⟨1, 0, w64 w2 w⟩

/-- Words that the fetch at a pc reads: none outside tile memory, and the second one only after a prefix (R210, R212). -/
def Tile.fetchLen (t : Tile) (pc : W32) : Nat :=
  let a := pc.toNat
  if a % 4 ≠ 0 ∨ a ≥ 0x18000 then 0
  else if sget .good t.upset (a / 4) = .ue then 1
  else
    let w := mread32 t.mem a
    if !isLimm w || bits w 25 16 != 0 || decide (a + 4 ≥ 0x18000) then 1 else 2

/-- What the corrected fetches of the instruction at a pc record, once per instruction (R185): `n` words were read. -/
def Tile.noteAt (t : Tile) (pc : W32) (n : Nat) : Tile :=
  if t.noted then t
  else
    let t := if n ≥ 1 then t.fetchNote (pc.toNat / 4) else t
    { (if n ≥ 2 then t.fetchNote (pc.toNat / 4 + 1) else t) with noted := true }

def State.noteFetch (s : State) (r : Nat) (pc : W32) (n : Nat) : State := s.modTile r (·.noteAt pc n)

/-- A precise fault of the core (R196). Whether a stream unit's next read, when it would fault too, falls in the same cycle
is free: DESIGN CHOICE (log entry 76); the core's fault is then the one recorded, with MULTI (R198). -/
def State.coreFault (s : State) (r : Nat) (x : FaultRec) (pc : W32) (multi : Bool) : State :=
  let t := s.tile r
  let hit := (List.range 4).filter (fun u => (t.coFault u).isSome)
  if hit.isEmpty then s.tileFault r x pc false multi
  else
    let same := Config.sameCycle s.freeCtr
    let s := if same then s.setTile r (t.noteCo hit) else s
    { s.tileFault r x pc false (multi || same) with freeCtr := s.freeCtr + 1 }

/-- The end of an instruction whose fetch read `n` words. -/
def State.finish (s0 : State) (r : Nat) (pc : W32) (n : Nat) : Res → State
  | .ok s npc => (s.noteFetch r pc n).complete r npc
  | .wait s c => (s.noteFetch r pc n).modTile r (fun t => { t with waiting := c })
  | .blocked s => (s.noteFetch r pc n).modTile r (fun t => { t with waiting := true })
  | .halt s npc => (s.noteFetch r pc n).halt r npc
  | .fault s x multi => (s.noteFetch r pc n).coreFault r x pc (multi || (s0.tile r).afault.isSome)

/-- The tile at router r executes the instruction at its pc, when that instruction is `mn` (a LIMM prefix and its
instruction count as the row LIMM, R213). Where the fetch faults, the tile takes that fault, whatever row was
named. In every other case the command does not occur. DESIGN CHOICE (log entry 1). -/
def State.runTile (s : State) (r : Nat) (mn : Mn) (body : Mn → Body) : State :=
  let t := s.tile r
  if !t.canIssue then s
  else
    match t.fetch t.pc with
    | .bad ue x =>
      let s := s.noteFetch r t.pc (t.fetchLen t.pc)
      let s := match ue with
        | some n => s.modTile r (·.countUe (some n))
        | none => s
      s.coreFault r x t.pc t.afault.isSome
    | .instr f limm len =>
      if (if limm then mn = .limm else mn = f.mn) then
        let pc := t.pc
        let npc := BitVec.ofNat 32 (pc.toNat + len)
        s.finish r pc (len / 4)
          (if (vecUse f).any (fun v => (latDests t.latq).contains v) then .wait s false else body f.mn r f pc npc s)
      else s

end Sys2Proof.Machine
end

