-- ==== Sys2Proof/Machine/Scalar.lean ====
section
/-! DEFINITION. Scalar integer and floating-point instructions, branches, jumps, HALT and BRK (6.4, 6.5). -/

namespace Sys2Proof.Machine

/-- The shape of every two-source ALU instruction (R216): rd := g a b. -/
def aluBody (g : W32 → W32 → W32) : LBody := fun f _ npc t => withAB t f (fun t a b => .ok (t.setS f.d (g a b)) npc)
/-- One source. -/
def alu1Body (g : W32 → W32) : LBody := fun f _ npc t => withA t f (fun t a => .ok (t.setS f.d (g a)) npc)
/-- Immediate forms: b is the extended or LIMM immediate. -/
def aluiBody (g : W32 → W32 → W32) : LBody := fun f _ npc t => .ok (t.setS f.d (g (t.sreg f.a) f.imm)) npc

def ofB (b : Bool) : W32 := if b then 1#32 else 0#32
def sllW (a b : W32) : W32 := a <<< (b.toNat % 32)
def srlW (a b : W32) : W32 := a >>> (b.toNat % 32)
def sraW (a b : W32) : W32 := a.sshiftRight (b.toNat % 32)
def mulhW (a b : W32) : W32 := BitVec.ofInt 32 ((a.toInt * b.toInt) / 2 ^ 32)
def mulhuW (a b : W32) : W32 := BitVec.ofNat 32 ((a.toNat * b.toNat) / 2 ^ 32)
def clzW (a : W32) : W32 := BitVec.ofNat 32 (if a = 0#32 then 32 else 31 - a.toNat.log2)
def popcW (a : W32) : W32 := BitVec.ofNat 32 (popc a.toNat 32)

/-- Table 6.5, integer operations. -/
def iAdd (a b : W32) : W32 := a + b
def iSub (a b : W32) : W32 := a - b
def iAnd (a b : W32) : W32 := a &&& b
def iOr (a b : W32) : W32 := a ||| b
def iXor (a b : W32) : W32 := a ^^^ b
def iSlt (a b : W32) : W32 := ofB (a.slt b)
def iSltu (a b : W32) : W32 := ofB (a.ult b)
def iMul (a b : W32) : W32 := a * b
def iMin (a b : W32) : W32 := if b.slt a then b else a
def iMax (a b : W32) : W32 := if a.slt b then b else a
def iMinu (a b : W32) : W32 := if b.ult a then b else a
def iMaxu (a b : W32) : W32 := if a.ult b then b else a
def iLui (_ b : W32) : W32 := b <<< 16

/-- R217: binary32 sum, difference, product and comparisons. -/
def fAdd (a b : W32) : W32 := toF32 ((f32 a).add (f32 b))
def fSub (a b : W32) : W32 := toF32 ((f32 a).add (f32 b).neg)
def fMul (a b : W32) : W32 := toF32 ((f32 a).mul (f32 b))
def fEq (a b : W32) : W32 := ofB ((f32 a).eqv (f32 b))
def fLt (a b : W32) : W32 := ofB ((f32 a).lt (f32 b))
def fLe (a b : W32) : W32 := ofB ((f32 a).lt (f32 b) || (f32 a).eqv (f32 b))
def fCvtws (a : W32) : W32 := toInt32 (f32 a)
def fCvtsw (a : W32) : W32 := toF32 (numOfInt a.toInt)
/-- R218: minimum and maximum by TILE_COMPAT.SZ1_MINMAX. -/
def fSel (mx sz1 : Bool) (a b : W32) : W32 := toF32 (Num.sel mx sz1 (f32 a) (f32 b))

def bodyAdd : LBody := aluBody iAdd
def bodySub : LBody := aluBody iSub
def bodyAnd : LBody := aluBody iAnd
def bodyOr : LBody := aluBody iOr
def bodyXor : LBody := aluBody iXor
def bodySll : LBody := aluBody sllW
def bodySrl : LBody := aluBody srlW
def bodySra : LBody := aluBody sraW
def bodySlt : LBody := aluBody iSlt
def bodySltu : LBody := aluBody iSltu
def bodyMul : LBody := aluBody iMul
def bodyMulh : LBody := aluBody mulhW
def bodyMulhu : LBody := aluBody mulhuW
def bodyMin : LBody := aluBody iMin
def bodyMax : LBody := aluBody iMax
def bodyMinu : LBody := aluBody iMinu
def bodyMaxu : LBody := aluBody iMaxu
def bodyClz : LBody := alu1Body clzW
def bodyPopc : LBody := alu1Body popcW
def bodyFadd : LBody := aluBody fAdd
def bodyFsub : LBody := aluBody fSub
def bodyFmul : LBody := aluBody fMul
def bodyFmin : LBody := fun f pc npc t => aluBody (fSel false (bit t.compat 0)) f pc npc t
def bodyFmax : LBody := fun f pc npc t => aluBody (fSel true (bit t.compat 0)) f pc npc t
def bodyFeq : LBody := aluBody fEq
def bodyFlt : LBody := aluBody fLt
def bodyFle : LBody := aluBody fLe
def bodyFcvtws : LBody := alu1Body fCvtws
def bodyFcvtsw : LBody := alu1Body fCvtsw
def bodyAddi : LBody := aluiBody iAdd
def bodyAndi : LBody := aluiBody iAnd
def bodyOri : LBody := aluiBody iOr
def bodyXori : LBody := aluiBody iXor
def bodySlti : LBody := aluiBody iSlt
def bodySltiu : LBody := aluiBody iSltu
def bodyLui : LBody := aluiBody iLui
def bodySlli : LBody := aluiBody sllW
def bodySrli : LBody := aluiBody srlW
def bodySrai : LBody := aluiBody sraW

/-- An ADDR fault with DETAIL 0 at a local offset (Table 5.7). -/
def addrFault (a : W32) : FaultRec := ⟨3, 0, BitVec.ofNat 64 a.toNat⟩
def misFault (size : Nat) (a : W64) : FaultRec := ⟨2, size, a⟩

/-- R221: the target is pc + 4 * offset; a taken branch checks it. -/
def branchBody (g : W32 → W32 → Bool) : LBody := fun f pc npc t =>
  if g (t.sreg f.d) (t.sreg f.a) then
    let tgt := pc + f.imm <<< 2
    if tgt.toNat < 0x18000 then .ok t tgt else .fault t (addrFault tgt)
  else .ok t npc

def cEq (a b : W32) : Bool := a == b
def cNe (a b : W32) : Bool := a != b
def cLt (a b : W32) : Bool := a.slt b
def cGe (a b : W32) : Bool := !a.slt b
def cLtu (a b : W32) : Bool := a.ult b
def cGeu (a b : W32) : Bool := !a.ult b

def bodyBeq : LBody := branchBody cEq
def bodyBne : LBody := branchBody cNe
def bodyBlt : LBody := branchBody cLt
def bodyBge : LBody := branchBody cGe
def bodyBltu : LBody := branchBody cLtu
def bodyBgeu : LBody := branchBody cGeu

/-- R222: JAL checks its target before it writes the link. -/
def bodyJal : LBody := fun f pc npc t =>
  let tgt := pc + f.imm <<< 2
  if tgt.toNat < 0x18000 then .ok (t.setS f.d npc) tgt else .fault t (addrFault tgt)

/-- R222: JALR reads ra before it writes rd. A target that is misaligned and out of range raises MISALIGN: DEDUCED (log entry
71). -/
def bodyJalr : LBody := fun f _ npc t =>
  let tgt := t.sreg f.a + f.imm
  if bits tgt 1 0 ≠ 0 then .fault t (misFault 4 (BitVec.ofNat 64 tgt.toNat))
  else if tgt.toNat < 0x18000 then .ok (t.setS f.d npc) tgt
  else .fault t (addrFault tgt)

/-- R224: the BREAK fault. -/
def bodyBrk : LBody := fun f _ _ t => .fault t ⟨0xB, bits f.imm 7 0, 0#64⟩

/-- R223. -/
def bodyHalt : Body := fun _ _ _ npc s => .halt s npc

end Sys2Proof.Machine
end

