-- ==== Sys2Proof/Machine/TileMem.lean ====
section
/-! DEFINITION. Local loads and stores, own control space, local full/empty, vector loads and stores
(6.6, 6.7, R278, R279). -/

namespace Sys2Proof.Machine

/-- The checks of R225 on a local access of `size` bytes with alignment `al`: the fault, if any. An offset that is
misaligned and out of range raises MISALIGN: DEDUCED (log entry 71). -/
def localCheck (e : W32) (size al : Nat) : Option FaultRec :=
  if e.toNat % al ≠ 0 then some (misFault size (BitVec.ofNat 64 e.toNat))
  else if e.toNat + size > 0x18000 then some (addrFault e)
  else none

/-- MEM_UE of core data at a word (Table 5.4). -/
def memUe (n : Nat) : FaultRec := ⟨4, 1, BitVec.ofNat 64 n⟩

/-- The local offset of a load or store (R225). -/
def effAddr (t : Tile) (f : Fields) : W32 := t.sreg f.a + f.imm

/-- A local load (Table 6.6): `ext` makes rd of the bytes read, as a number. -/
def loadBody (size : Nat) (ext : Nat → W32) : LBody := fun f _ npc t =>
  let e := effAddr t f
  match localCheck e size size with
  | some x => .fault t x
  | none =>
    match t.rdWord (e.toNat / 4) with
    | (t, none) => .fault t (memUe (e.toNat / 4))
    | (t, some w) => .ok (t.setS f.d (ext (w.toNat >>> (8 * (e.toNat % 4)) % 2 ^ (8 * size)))) npc

/-- A local store of a word (Table 6.6). -/
def storeWBody : LBody := fun f _ npc t =>
  let e := effAddr t f
  match localCheck e 4 4 with
  | some x => .fault t x
  | none => .ok (t.wrWord (e.toNat / 4) (t.sreg f.d)) npc

/-- A local store of 1 or 2 bytes: the read-modify-write of R182. -/
def storeSBody (size : Nat) : LBody := fun f _ npc t =>
  let e := effAddr t f
  match localCheck e size size with
  | some x => .fault t x
  | none =>
    match t.wrSub e.toNat size (t.sreg f.d) with
    | (t, true) => .ok t npc
    | (t, false) => .fault t (memUe (e.toNat / 4))

def bodyLw : LBody := loadBody 4 (BitVec.ofNat 32)
def bodyLh : LBody := loadBody 2 (sextN 16)
def bodyLhu : LBody := loadBody 2 (BitVec.ofNat 32)
def bodyLb : LBody := loadBody 1 (sextN 8)
def bodyLbu : LBody := loadBody 1 (BitVec.ofNat 32)
def bodySw : LBody := storeWBody
def bodySh : LBody := storeSBody 2
def bodySb : LBody := storeSBody 1

/-- LDF (R229 to R232): waits until the word is full; then takes it and sets it empty, and waiters are served. -/
def bodyLdf : Body := fun r f _ npc s =>
  let t := s.tile r
  let e := effAddr t f
  match localCheck e 4 4 with
  | some x => .fault s x false
  | none =>
    let n := e.toNat / 4
    match t.rdWord n with
    | (t', none) => .fault (s.setTile r t') (memUe n) false
    | (t', some w) =>
      if t.isFull n then .ok ((s.setTile r ((t'.setS f.d w).setFull n false)).serveWaiters r n waiterFuel) npc
      else .wait (s.setTile r { t' with waiters := t.waiters ++ [.core false n 0#32 f.d npc] }) true

/-- STE (R229 to R232): waits until the word is empty; then writes it and sets it full. -/
def bodySte : Body := fun r f _ npc s =>
  let t := s.tile r
  let e := effAddr t f
  match localCheck e 4 4 with
  | some x => .fault s x false
  | none =>
    let n := e.toNat / 4
    match t.rdWord n with
    | (t', none) => .fault (s.setTile r t') (memUe n) false
    | (t', some _) =>
      if t.isFull n then
        .wait (s.setTile r { t' with waiters := t.waiters ++ [.core true n (t.sreg f.d) f.d npc] }) true
      else .ok ((s.setTile r ((t'.wrWord n (t.sreg f.d)).setFull n true)).serveWaiters r n waiterFuel) npc

/-- The checks of CRD and CWR (R226). An offset that is misaligned and outside Table 2.8 raises MISALIGN: DEDUCED (log
entry 71). -/
def ctlCheck (e : W32) : Option FaultRec :=
  if e.toNat % 4 ≠ 0 then some (misFault 4 (BitVec.ofNat 64 e.toNat))
  else if !ctlRange e.toNat 4 then some (addrFault e)
  else none

/-- CRD (R226, R228). -/
def bodyCrd : Body := fun r f _ npc s =>
  let t := s.tile r
  let e := effAddr t f
  match ctlCheck e with
  | some x => .fault s x false
  | none =>
    match t.ctlRead r .tileSelf e.toNat with
    | (t, v) => .ok (s.setTile r (t.setS f.d v)) npc

/-- CWR (R226, R227). -/
def bodyCwr : Body := fun r f _ npc s =>
  let t := s.tile r
  let e := effAddr t f
  match ctlCheck e with
  | some x => .fault s x false
  | none => .ok (s.setTile r (t.ctlWrite .tileSelf e.toNat (t.sreg f.d))) npc

/-- Elements in memory as 16 lanes (R171, R278): one byte each, or two. -/
def lanesOfBytes (es : Nat) (b : Bytes) : List Nat :=
  (List.range 16).map (fun i => leNat ((b.drop (es * i)).take es))
/-- 16 lanes as bytes in memory. -/
def bytesOfLanes (es : Nat) (l : List Nat) : Bytes := l.flatMap (fun x => natLe es x)

/-- VLDB and VLDH (R278, R279). -/
def vloadBody (es : Nat) : LBody := fun f _ npc t =>
  let e := effAddr t f
  match localCheck e (16 * es) 4 with
  | some x => .fault t x
  | none =>
    match t.rdWords (e.toNat / 4) (4 * es) with
    | (t', none) => .fault t' (memUe ((bits t'.eccAddr 14 0)))
    | (t', some ws) => .ok (t'.setVl f.d (lanesOfBytes es (ofWords ws))) npc

/-- VSTB and VSTH (R278, R279). -/
def vstoreBody (es : Nat) : LBody := fun f _ npc t =>
  let e := effAddr t f
  match localCheck e (16 * es) 4 with
  | some x => .fault t x
  | none => .ok (t.wrWords (e.toNat / 4) (toWords (4 * es) (bytesOfLanes es (t.vlanes f.d)))) npc

def bodyVldb : LBody := vloadBody 1
def bodyVldh : LBody := vloadBody 2
def bodyVstb : LBody := vstoreBody 1
def bodyVsth : LBody := vstoreBody 2

end Sys2Proof.Machine
end

