-- ==== Sys2Proof/Machine/Remote.lean ====
section
/-! DEFINITION. Remote access, queues and barrier instructions (6.8 to 6.11), and what an issuing tile does with
its answers (R237, R243). -/

namespace Sys2Proof.Machine

/-! ### Forming a Global Address (R233) -/

/-- R233: the resolved GA, or the fault. `al` is the access size, `n` the extent in bytes. -/
def formGa (t : Tile) (g : Nat) (imm : W32) (spaces : List Nat) (al n : Nat) : Except FaultRec Ga :=
  let w := t.spair g
  let ga := gaOf w
  let off : Int := ga.off + imm.toInt
  if off < 0 ∨ off ≥ 2 ^ 29 then .error ⟨3, 1, w⟩
  else
    let ga := { ga with off := off.toNat }
    if !spaces.contains ga.space then .error ⟨3, 1, ga.word⟩
    else
      match ga.resolve t.origin with
      | none => .error ⟨3, 2, ga.word⟩
      | some h =>
        if h.bad n then .error ⟨3, 1, h.word⟩
        else if h.off % al ≠ 0 then .error ⟨2, al, h.word⟩
        else .ok h

/-- The destination router that a GA names, for an issuer at router r (R347, R349, Table 9.1). -/
def gaDest (g : Ga) (r : Nat) : Nat :=
  match g.space with
  | 0 | 1 | 2 => routerOf g.y g.x
  | 3 => gateOf (fieldAt g.y g.x)
  | _ => originOf (fieldOf r)

/-- Header of a request from `src` to the target of a GA (R347, R349). -/
def reqHdr (src : Hdr) (r : Nat) (g : Ga) (op ch : Nat) : Hdr :=
  { src with dx := colOf (gaDest g r), dy := rowOf (gaDest g r), dplate := g.plate, op := op, ch := ch }

/-- A short request (Table 9.4): word offset, and the Rim die for space 0x4. -/
def shortReq (src : Hdr) (r : Nat) (g : Ga) (op : Nat) : Packet :=
  { h := { reqHdr src r g op 0 with
             payload := BitVec.ofNat 32 (g.off / 4 + (if g.space = 4 then g.x * 2 ^ 27 else 0)) } }

/-- A long request (Table 9.4). -/
def longReq (src : Hdr) (r : Nat) (g : Ga) (op ch : Nat) (ws : List W32) : Packet :=
  { h := { reqHdr src r g op ch with long := true, len := ws.length - 1, off := g.off,
                                     sel := if g.space = 4 then g.x else 0 },
    ws := ws }

/-- The lowest free completion credit of 64 (R236). -/
def Tile.freeTag (t : Tile) : Option Nat := (List.range 64).find? (fun g => !shas t.out g)

/-- Credits of C0 packets not yet acknowledged (R238, R250). -/
def Tile.openC0 (t : Tile) : List Nat := (t.out.filter (fun e => e.2.ch == 0)).map (·.1)

/-- Source i of C0 packets at the local port (0 the core, u + 1 unit u) has its turn among those that wait (R353).
DESIGN CHOICE (log entry 7). -/
def Tile.turn (t : Tile) (i : Nat) : Bool :=
  t.want.all (fun j => j == i || decide (rrDist 5 t.lastC0 i ≤ rrDist 5 t.lastC0 j))

/-- Source i can begin a packet at the local port: on C0 it takes its turn; only the core sends on C2. -/
def State.mayEnter (s : State) (r ch i : Nat) : Bool := s.canInject r .loc ch && (ch != 0 || (s.tile r).turn i)

/-- Source i begins to wait for the local port's C0, or gives up waiting. -/
def Tile.wait0 (t : Tile) (i : Nat) (on : Bool) : Tile :=
  { t with want := if on then (if t.want.contains i then t.want else t.want ++ [i]) else t.want.filter (· != i) }

def State.wait0 (s : State) (r ch i : Nat) (on : Bool) : State := if ch = 0 then s.modTile r (·.wait0 i on) else s

/-- Source i's packet begins at the local port. When its tail has to wait for credit, the core's posted instruction, whose
next pc is given, stays in M, and a stream's packet is not yet injected (R296, R379). -/
def State.enter (s : State) (r i : Nat) (npc : Option W32) (pk : Packet) : State :=
  let s := s.inject r .loc pk
  let part := !(s.mesh.queued r .loc pk.h.ch).isEmpty
  s.modTile r (fun t =>
    { (if pk.h.ch = 0 then { t.wait0 i false with lastC0 := i } else t) with
      sendCh := if part then npc.map (fun n => (pk.h.ch, n)) else t.sendCh
      sendU := if part && i != 0 then some (i - 1) else t.sendU })

/-- Inject a posted packet with a completion credit; none when there is no credit (R236). -/
def State.post (s : State) (r i : Nat) (npc : Option W32) (pk : Packet) (ga : W64) : Option State :=
  let t := s.tile r
  match t.freeTag with
  | none => none
  | some g =>
    if s.mayEnter r pk.h.ch i then
      let s := s.setTile r { t with out := sput t.out g { ch := pk.h.ch, ga := ga } }
      some (s.enter r i npc { pk with h := { pk.h with tag := g }, gen := t.gen })
    else none

/-- Source i of the local port stalls: it waits for its turn or a credit of the port, unless it lacks a completion credit. -/
def State.stall (s : State) (r ch i : Nat) : State := s.wait0 r ch i (s.tile r).freeTag.isSome

/-- End of a posted instruction: it completes, waits in M for its tail, or stalls for credit (R236, R379). -/
def postRes (s : State) (r : Nat) (pk : Packet) (ga : W64) (npc : W32) : Res :=
  match s.post r 0 (some npc) pk ga with
  | some s => if (s.tile r).sendCh.isSome then .blocked s else .ok s npc
  | none => .wait (s.stall r pk.h.ch 0) true

/-- A blocking request leaves and holds the pipeline, or stalls for injection credit (R167). -/
def blockRes (s : State) (r : Nat) (kind : BlkKind) (rd : Nat) (npc : W32) (ga : W64) (pk : Packet) : Res :=
  if s.mayEnter r 0 0 then
    let t := s.tile r
    let pk := { pk with gen := t.gen }
    let s := s.setTile r { t with blk := some { kind := kind, rd := rd, npc := npc, ga := ga, pkt := pk,
                                                limit := t.feLimit } }
    .blocked (s.enter r 0 none pk)
  else .wait (s.wait0 r 0 0 true) true

/-! ### Remote loads, stores and copies (R239 to R242) -/

def bodyRlw : Body := fun r f _ npc s =>
  match formGa (s.tile r) f.a f.imm [0, 1, 2, 3, 4, 5, 8, 9] 4 4 with
  | .error x => .fault s x false
  | .ok g => blockRes s r .rlw f.d npc g.word (shortReq (s.tileHdr r) r g (opRd g.space))

/-- A posted store of `size` bytes (R240, Table 6.7). -/
def rstoreBody (size : Nat) (spaces : List Nat) : Body := fun r f _ npc s =>
  let t := s.tile r
  match formGa t f.a f.imm spaces size size with
  | .error x => .fault s x false
  | .ok g =>
    let v := t.sreg f.d
    let op := if size = 4 then opWr g.space else if size = 2 then opWrH else opWrB
    let w : W32 := if size = 4 then v else BitVec.ofNat 32 ((v.toNat % 2 ^ (8 * size)) <<< (8 * (g.off % 4)))
    postRes s r (longReq (s.tileHdr r) r g op 0 [w]) g.word npc

def bodyRsw : Body := rstoreBody 4 [0, 1, 2, 3, 4, 5, 8, 9]
def bodyRsh : Body := rstoreBody 2 [0, 8]
def bodyRsb : Body := rstoreBody 1 [0, 8]

def bodyRldf : Body := fun r f _ npc s =>
  match formGa (s.tile r) f.a f.imm [0, 8] 4 4 with
  | .error x => .fault s x false
  | .ok g => blockRes s r .rldf f.d npc g.word (shortReq (s.tileHdr r) r g opFeLd)

def bodyRste : Body := fun r f _ npc s =>
  let t := s.tile r
  match formGa t f.a f.imm [0, 8] 4 4 with
  | .error x => .fault s x false
  | .ok g => blockRes s r .rste f.d npc g.word (longReq (s.tileHdr r) r g opFeSt 0 [t.sreg f.d])

/-- The ILLEGAL fault of an instruction that takes no prefix (R211, R241, R245). -/
def illegalAt (t : Tile) (pc : W32) : FaultRec := ⟨1, 0, BitVec.ofNat 64 (mread32 t.mem pc.toNat).toNat⟩

/-- `n` words of local memory from a byte offset, with the local checks of R241. The spec gives the run no access size:
DETAIL of its MISALIGN, as of that of RCOPY's GA, is 4: DESIGN CHOICE (log entry 73). -/
def localRun (t : Tile) (a : W32) (n : Nat) : Tile × Except FaultRec (List W32) :=
  if a.toNat % 4 ≠ 0 then (t, .error (misFault 4 (BitVec.ofNat 64 a.toNat)))
  else if a.toNat + 4 * n > 0x18000 then (t, .error (addrFault a))
  else
    match t.rdWords (a.toNat / 4) n with
    | (t, some ws) => (t, .ok ws)
    | (t, none) => (t, .error (memUe (bits t.eccAddr 14 0)))

/-- Operand pops over the whole state, for instructions that send. -/
def withABs (s : State) (r : Nat) (f : Fields) (k : State → W32 → W32 → Res) : Res :=
  let t := s.tile r
  let bad (q : Nat) : Res := .fault (s.setTile r (t.countUe none)) ⟨4, 6 + q, 0#64⟩ false
  match t.srcS f.qa f.a with
  | .empty => .wait s true
  | .bad q => bad q
  | .got t1 a =>
    match t1.srcS f.qb f.b with
    | .empty => .wait s true
    | .bad q => bad q
    | .got t2 b => k (s.setTile r t2) a b

/-- A send that stalls or faults leaves the queues it named as they were (R176), but keeps its fence, its wait at the
local port, a cleared latch and what the checks of a fault recorded. -/
def qPops (s0 : State) (r : Nat) : Res → Res
  | .wait s c =>
    let u := s.tile r
    .wait (s0.modTile r (fun t => { t with fence := u.fence, fenced := u.fenced, want := u.want })) c
  | .fault s x m =>
    let u := s.tile r
    .fault (s0.modTile r (fun t => { t with
      latch := u.latch, latchMore := u.latchMore, eccCe := u.eccCe, eccUe := u.eccUe, eccAddr := u.eccAddr,
      wb := u.wb })) x m
  | x => x

/-- RCOPY (R241). -/
def bodyRcopy : Body := fun r f pc npc s =>
  qPops s r (withABs s r f (fun s a b =>
    let t := s.tile r
    if b.toNat < 1 ∨ b.toNat > 32 then .fault s (illegalAt t pc) false
    else
      match formGa t f.d 0#32 [0, 8] 4 (4 * b.toNat) with
      | .error x => .fault s x false
      | .ok g =>
        match localRun t a b.toNat with
        | (t, .error x) => .fault (s.setTile r t) x false
        | (t, .ok ws) =>
          postRes (s.setTile r t) r (longReq (s.tileHdr r) r g (opWr 0) 0 ws) g.word npc))

/-! ### REMFENCE (R238) -/

/-- What REMFENCE does in a cycle: the latched error faults, or the fence holds, or it is passed. -/
inductive FenceRes where
  | err (x : FaultRec) (multi : Bool)
  | hold
  | pass

/-- The fault of the remote error latch (R238). -/
def latchFault (l : Nat × W64) : FaultRec := ⟨9, l.1, l.2⟩

def Tile.fenceTest (t : Tile) : FenceRes :=
  match t.latch with
  | some l => .err (latchFault l) t.latchMore
  | none =>
    match t.fence with
    | some [] => .pass
    | some _ => .hold
    | none => if t.openC0.isEmpty then .pass else .hold

def Tile.clearLatch (t : Tile) : Tile := { t with latch := none, latchMore := false }

/-- Begin to wait for the C0 packets sent so far (R238). -/
def Tile.beginFence (t : Tile) : Tile := if t.fence.isSome then t else { t with fence := some t.openC0 }

def bodyRemfence : Body := fun r _ _ npc s =>
  let t := s.tile r
  match t.fenceTest with
  | .err x m => .fault (s.setTile r t.clearLatch) x m
  | .hold => .wait (s.setTile r t.beginFence) true
  | .pass => .ok s npc

/-! ### Queues (R245 to R247) -/

/-- R245: the GA of a queue message. DEDUCED (log entry 37). -/
def formQ (t : Tile) (g : Nat) : Except FaultRec Ga :=
  match formGa t g 0#32 [0, 8] 1 1 with
  | .error x => .error x
  | .ok h => if h.off ≥ 4 then .error ⟨3, 1, h.word⟩ else .ok h

/-- The end of a SENDQ form once its checks pass: with O = 1 the fence comes first (R245), and once passed it stays passed
while the send stalls for credit. -/
def sendqRes (s : State) (r : Nat) (f : Fields) (npc : W32) (g : Ga) (ws : List W32) : Res :=
  let send (s : State) : Res := postRes s r (longReq (s.tileHdr r) r g opQmsg 2 ws) g.word npc
  let t := s.tile r
  if f.o && !t.fenced then
    match t.fenceTest with
    | .err x m => .fault (s.setTile r t.clearLatch) x m
    | .hold => .wait (s.setTile r t.beginFence) true
    | .pass => send (s.setTile r { t with fence := none, fenced := true })
  else send s

/-- SENDQ and SENDQ2 send their operand words; SENDQM sends words of local memory (R245). -/
def sendBody (words : W32 → W32 → List W32) : Body := fun r f _ npc s =>
  qPops s r (withABs s r f (fun s a b =>
    match formQ (s.tile r) f.d with
    | .error x => .fault s x false
    | .ok g => sendqRes s r f npc g (words a b)))

def bodySendq : Body := sendBody (fun a _ => [a])
def bodySendq2 : Body := sendBody (fun a b => [a, b])
/-- DEDUCED (log entry 37). -/
def bodySendqm : Body := fun r f pc npc s =>
  qPops s r (withABs s r f (fun s a b =>
    let t := s.tile r
    if b.toNat < 1 ∨ b.toNat > 8 then .fault s (illegalAt t pc) false
    else
      match formQ t f.d with
      | .error x => .fault s x false
      | .ok g =>
        match localRun t a b.toNat with
        | (t', .error x) => .fault (s.setTile r t') x false
        | (t', .ok ws) => sendqRes (s.setTile r t') r f npc g ws))

/-- GAXY (R234). -/
def bodyGaxy : LBody := fun f _ npc t => withAB t f (fun t a b =>
  let y := bits a 9 0
  let x := bits b 9 0
  let hi := setBits (t.sreg (f.d + 1)) 16 0 (y * 128 + x / 8)
  let lo := setBits (t.sreg f.d) 31 29 (x % 8)
  .ok ((t.setS f.d lo).setS (f.d + 1) hi) npc)

/-- QTRY (R246, R248). -/
def bodyQtry : LBody := fun f _ npc t =>
  if (t.queue f.a).isEmpty then .ok ((t.setS f.d 0#32).setS (f.d + 1) 0#32) npc
  else
    match t.popN f.a 1 with
    | .got t ws => .ok ((t.setS f.d (ws.getD 0 0#32)).setS (f.d + 1) 1#32) npc
    | .bad q => queueUe t q
    | .empty => .wait t true

/-- QCNT (R247). -/
def bodyQcnt : LBody := fun f _ npc t => .ok (t.setS f.d (BitVec.ofNat 32 (t.queue f.a).length)) npc

/-! ### Barriers (R249 to R253) -/

def barFault (reason : Nat) (i : W32) : FaultRec := ⟨0xA, reason, BitVec.ofNat 64 i.toNat⟩

/-- The pending entry that holds id i. -/
def Tile.pendOf (t : Tile) (i : Nat) : Option Nat :=
  (List.range 16).find? (fun n => (sget {} t.pend n).valid && (sget {} t.pend n).id == i)
/-- The lowest-numbered free entry (R406). -/
def Tile.pendFree (t : Tile) : Option Nat := (List.range 16).find? (fun n => !(sget {} t.pend n).valid)

def Tile.clearPend (t : Tile) (n : Nat) : Tile := { t with pend := sput t.pend n {} }

/-- Arrivals that one call may send: the 16 entries. -/
abbrev arriveFuel : Nat := 16

def bodyBarrive : Body := fun r f _ npc s =>
  let t := s.tile r
  let i := effAddr t f
  if i.toNat ≥ 16384 then .fault s (barFault 1 i) false
  else if (t.pendOf i.toNat).isSome then .fault s (barFault 2 i) false
  else
    match t.pendFree with
    | none => .fault s (barFault 3 i) false
    | some n =>
      let e : Pend := { valid := true, id := i.toNat, waits := if bit t.compat 1 then [] else t.openC0 }
      .ok ((s.setTile r { t with pend := sput t.pend n e, arrivals := t.arrivals ++ [n] }).sendArrivals r arriveFuel) npc

/-- DEDUCED (log entry 39). -/
def bodyBarwait : LBody := fun f _ npc t =>
  let i := effAddr t f
  if i.toNat ≥ 16384 then .fault t (barFault 1 i)
  else
    match t.pendOf i.toNat with
    | none => .fault t (barFault 4 i)
    | some n =>
      if (sget {} t.pend n).released then .ok (t.clearPend n) npc else .wait t true

/-- BARWAIT raises REMOTE as REMFENCE does while the latch is set (R252). DEDUCED (log entry 39). -/
def bodyBarwaitS : Body := fun r f pc npc s =>
  let t := s.tile r
  let i := effAddr t f
  match t.latch with
  | some l =>
    if i.toNat < 16384 ∧ (t.pendOf i.toNat).isSome then .fault (s.setTile r t.clearLatch) (latchFault l) t.latchMore
    else localBody bodyBarwait r f pc npc s
  | none => localBody bodyBarwait r f pc npc s

def bodyBartest : LBody := fun f _ npc t =>
  let i := effAddr t f
  if i.toNat ≥ 16384 then .fault t (barFault 1 i)
  else
    match t.pendOf i.toNat with
    | none => .fault t (barFault 4 i)
    | some n =>
      if (sget {} t.pend n).released then .ok ((t.clearPend n).setS f.d 1#32) npc else .ok (t.setS f.d 0#32) npc

/-! ### Answers that a tile takes (R237, R243, R359) -/

/-- A blocked tile takes a RESP (R239, R243, Table 6.8, R203). DEDUCED (log entry 38). -/
def State.tileResp (s : State) (r : Nat) (b : Blk) (status : Nat) (data : W32) : State :=
  let t := s.tile r
  let kind := if b.kind = .rste then 1 else 0
  if status = 0 then
    (s.setTile r (if b.kind = .rste then t else t.setS b.rd data)).complete r b.npc
  else if status = 1 then
    if b.kind = .rlw then s
    else if b.naks ≥ bits b.limit 7 0 then s.tileFault r ⟨8, kind, b.ga⟩ t.pc false t.afault.isSome
    else s.setTile r { t with blk := some { b with naks := b.naks + 1, backoff := true } }
  else s.tileFault r ⟨9, status, b.ga⟩ t.pc false t.afault.isSome

/-- RESP at a tile: an answer of an earlier life, or to nothing, is discarded (R146, R387). -/
def State.tileTakeResp (s : State) (r : Nat) : State :=
  s.take r .loc 1 opResp (fun q s =>
    let t := s.tile r
    match t.blk with
    | some b => if t.rst || q.gen != t.gen || b.backoff then s else s.tileResp r b q.h.status q.h.payload
    | none => s)

/-- A completion credit returns; an error status is latched (R236, R237). -/
def Tile.ackTag (t : Tile) (g status : Nat) : Tile :=
  match t.out.find? (fun e => e.1 == g) with
  | none => t
  | some e =>
    let t := { t with out := sdel t.out g, fence := t.fence.map (fun l => l.filter (· != g)),
                      pend := t.pend.map (fun p => (p.1, { p.2 with waits := p.2.waits.filter (· != g) })) }
    if status = 0 then t
    else if t.latch.isSome then { t with latchMore := true }
    else { t with latch := some (status, e.2.ga) }

def State.tileTakeAck (s : State) (r : Nat) : State :=
  s.take r .loc 1 opAck (fun q s =>
    let t := s.tile r
    if t.rst || q.gen != t.gen then s
    else (s.setTile r (t.ackTag q.h.tag q.h.status)).sendArrivals r arriveFuel)

/-- FE_RETRY: after the backoff the tile resends its request (R203, R244). -/
def State.feRetry (s : State) (r : Nat) : State :=
  let t := s.tile r
  match t.blk with
  | some b =>
    if !b.backoff then s
    else if s.mayEnter r 0 0 then (s.setTile r { t with blk := some { b with backoff := false } }).enter r 0 none b.pkt
    else s.wait0 r 0 0 true
  | none => s

end Sys2Proof.Machine
end

