-- ==== Sys2Proof/Machine/Barrier.lean ====
section
/-! DEFINITION. Barrier nodes, roots, releases and cuts (chapter 10, R588 to R591). -/

namespace Sys2Proof.Machine

def setFbit (m : W64) (f : Nat) (b : Bool) : W64 := setBit m f b
def popF (m : W64) : Nat := popc m.toNat 64

def Field.node (f : Field) (i : Nat) : BarNode := sget {} f.barNode i
def Field.root (f : Field) (i : Nat) : BarRoot := sget {} f.barRoot i
def Field.setNode (f : Field) (i : Nat) (e : BarNode) : Field := { f with barNode := sput f.barNode i e }
def Field.setRoot (f : Field) (i : Nat) (e : BarRoot) : Field := { f with barRoot := sput f.barRoot i e }

/-! ### Status bits and the drop record (Table 10.8, R414, R582) -/

/-- Set a bit of FLD_BAR_STAT; UNARMED, ROOTDROP and KINDDROP raise BARDROP when they become 1. -/
def Field.barSet (f : Field) (b : Nat) : Field :=
  let new := !bit f.barStat b && (b == 0 || b == 1 || b == 5)
  let f := { f with barStat := setBit f.barStat b true }
  if new then f.raise 7 else f

/-- Capture a drop while DROPV is 0 (R414). -/
def Field.barDropRec (f : Field) (kind src id : Nat) : Field :=
  if bit f.barStat 4 then f
  else { f with barDrop := BitVec.ofNat 32 (kind * 2 ^ 28 + src * 2 ^ 14 + id), barStat := setBit f.barStat 4 true }

/-! ### Releases (R402 to R405) -/

/-- `n` hops of `step` routers each, east or south: the routers entered, with the port by which. -/
def hopsUp (n r step : Nat) (p : RPort) : List (Nat × RPort) := (List.range n).map (fun i => (r + step * (i + 1), p))
/-- The same, west or north. -/
def hopsDown (n r step : Nat) (p : RPort) : List (Nat × RPort) := (List.range n).map (fun i => (r - step * (i + 1), p))

/-- The Hatch path from one stop to another, along the row and then along the column (R402): the stops entered. -/
def hatchPath (y0 x0 y1 x1 : Nat) : List (Nat × RPort) :=
  let a := routerOf y0 x0
  let b := routerOf y0 x1
  (if x0 ≤ x1 then hopsUp ((x1 - x0) / 16) a 16 .hw else hopsDown ((x0 - x1) / 16) a 16 .he)
    ++ (if y0 ≤ y1 then hopsUp ((y1 - y0) / 16) b 12288 .hn else hopsDown ((y0 - y1) / 16) b 12288 .hs)

/-- The path of RELEASE_T from field f's origin stop to local router (y, x): the Hatch row and column to the stop of its block,
then east and south over the mesh (R403). DEDUCED (log entry 13). -/
def blockPath (f y x : Nat) : List (Nat × RPort) :=
  let oy := rowOf (originOf f)
  let ox := colOf (originOf f)
  let sy := y / 16 * 16
  let sx := x / 16 * 16
  let a := routerOf (oy + sy) (ox + sx)
  hatchPath oy ox (oy + sy) (ox + sx) ++ hopsUp (x - sx) a 1 .w ++ hopsUp (y - sy) (a + (x - sx)) 768 .n

/-- A link takes no flit: it has failed (R363), or it leads into a field whose crossings are in discard state (R86). -/
def State.hopShut (s : State) (e : Nat × RPort) : Bool :=
  sget false s.mesh.failed (portKey e.1 e.2 0) || (s.fld (fieldOf e.1)).closed

/-- The routers of field f that a RELEASE_T does not reach, as 96 × row + column (R403, R363). -/
def State.relMiss (s : State) (f : Nat) : List Nat :=
  if s.mesh.failed.isEmpty then []
  else idxs 9216 (fun i => (blockPath f (i / 96) (i % 96)).any (fun e => sget false s.mesh.failed (portKey e.1 e.2 0)))

/-- A multicast in field f: every tile, the gate and the field controller (R403), but for those that a failed link cuts off; the
controller counts it (R98, R97). DESIGN CHOICE (log entry 13). -/
def State.sendReleaseT (s : State) (sku f : Nat) (x : Rel) (counted : Bool) : State :=
  let x := { x with miss := s.relMiss f }
  s.modFld f (fun c =>
    Field.shRelease sku { c with relLog := c.relLog ++ [x] } x.id counted (x.lastf == f))

/-- The fields of the smallest rectangle that holds the root field and every field of FMASK (R402). -/
def relRect (root : Nat) (m : W64) : List Nat :=
  let fs := root :: idxs 64 (fun f => bit m f)
  let y0 := fs.foldl (fun a f => min a (f / 8)) 7
  let y1 := fs.foldl (fun a f => max a (f / 8)) 0
  let x0 := fs.foldl (fun a f => min a (f % 8)) 7
  let x1 := fs.foldl (fun a f => max a (f % 8)) 0
  (List.range 64).filter (fun f => y0 ≤ f / 8 && f / 8 ≤ y1 && x0 ≤ f % 8 && f % 8 ≤ x1)

/-- The path of a RELEASE_F from the root field's origin stop to that of field f: along the Hatch row, then along the column
of field origins (R402). -/
def relPath (root f : Nat) : List (Nat × RPort) :=
  hatchPath (rowOf (originOf root)) (colOf (originOf root)) (rowOf (originOf f)) (colOf (originOf f))

/-- The router that sends over the Hatch link by which a stop is entered. -/
def hatchFrom (e : Nat × RPort) : Nat :=
  match e.2 with
  | .hw => e.1 - 16
  | .he => e.1 + 16
  | .hn => e.1 - 12288
  | _ => e.1 + 12288

/-- The field controllers of the rectangle that a RELEASE_F reaches: no link on its path is shut (R402, R86, R363). -/
def State.relReach (s : State) (root : Nat) (m : W64) : List Nat :=
  (relRect root m).filter (fun f => !(s.fld f).closed && !(relPath root f).any s.hopShut)

/-- The links at which copies of a RELEASE_F are dropped, each once. -/
def State.relDrops (s : State) (root : Nat) (m : W64) : List (Nat × RPort) :=
  ((relRect root m).filterMap (fun f => (relPath root f).find? s.hopShut)).eraseDups

/-- RELEASE_F reaches the live field controllers of the rectangle; a copy that meets a shut link is dropped there and counted by
the field that sends over it (R402, R86). DESIGN CHOICE (log entry 13). -/
def State.sendReleaseF (s : State) (root : Nat) (m : W64) (x : Rel) : State :=
  let reach := s.relReach root m
  let s := (s.relDrops root m).foldl (fun s e => s.xdropOne (fieldOf (hatchFrom e))) s
  reach.foldl (fun s f => s.modFld f (fun c => { c with relF := c.relF ++ [x] })) s

/-- Reload of a root when it sends (R397). -/
def BarRoot.reload (e : BarRoot) : BarRoot :=
  { e with rcvd := 0#64, remainf := popF e.fmask, rels := (e.rels + 1) % 65536, cut := false, fcount := false }

/-- A controller's own BAR packet header: source its origin router, the field's key (R456). -/
def State.ctlHdr (s : State) (f : Nat) : Hdr :=
  let c := s.fld f
  { sx := colOf (originOf f), sy := rowOf (originOf f), splate := ownPlate c.topo, srckind := true,
    pkey := bits c.sealAct 23 12 }

/-- The release of a root's instance: an epoch object first reports to the Warden, by an EVENT that Warden hardware handles as
it does every other (R588, R591, R584). -/
def State.rootRelease (s : State) (f i : Nat) (cut : Bool) : State :=
  let e := (s.fld f).root i
  if e.epoch then
    { s with epochQ := s.epochQ ++ [{ f := f, id := i, cut := cut, lastf := e.lastf }], wdn := s.wdn.fieldEvent f }
  else s.sendReleaseF f e.fmask { id := i, lastf := e.lastf, cut := cut, epoch := false, src := f }

/-- The release that the GO of an epoch lets go (Table 15.5, step 5). -/
def State.epochRelease (s : State) (f i : Nat) (cut : Bool) (lastf : Nat) : State :=
  let e := (s.fld f).root i
  s.sendReleaseF f e.fmask { id := i, lastf := lastf, cut := cut, epoch := true, src := f }

/-- A root's instance is complete (R400, R397): RELEASE_F, or PDONE toward ROOTPLATE. -/
def State.rootDone (s : State) (f i lastf : Nat) (cut : Bool) : State :=
  let e := { (s.fld f).root i with lastf := lastf }
  let cut := cut || e.cut
  let s := s.modFld f (·.setRoot i e.reload)
  if e.sys then
    s.inject (originOf f) .ctl { h := { s.ctlHdr f with
      dx := colOf (originOf f), dy := rowOf (originOf f), dplate := e.rootplate, op := opBar, ch := 3,
      payload := barPayload false cut lastf 4 i }, back := .ctl }
  else s.rootRelease f i cut

/-- A node's instance is complete (R399, R397). -/
def State.nodeDone (s : State) (sku f i : Nat) (cut : Bool) : State :=
  let e := (s.fld f).node i
  let s := s.modFld f (·.setNode i { e with remain := e.expect, rels := (e.rels + 1) % 65536 })
  if e.scope = 1 then
    s.sendReleaseT sku f { id := i, lastf := f, cut := cut, epoch := false, src := f } false
  else
    s.inject (originOf f) .ctl { barPacket (s.ctlHdr f) e.rootf (barPayload false cut 0 1 i) with back := .ctl }

/-- The system root has counted every Plate completion (R401, R397): PRELEASE to the bridge of Rim N (R457). -/
def State.sysDone (s : State) (f i : Nat) (cut : Bool) : State :=
  let e := (s.fld f).root i
  let s := s.modFld f (·.setRoot i { e with remainp := e.expectp + 1, cutp := false, pcount := false })
  s.inject (originOf f) .ctl { h := { s.ctlHdr f with
    dx := 96 * (f % 8), dy := 0, dplate := 0x7FF, op := opBar, ch := 3,
    payload := barPayload false (cut || e.cutp) 0 5 i }, back := .bridge }

/-! ### Packets that a field controller takes (R399 to R402, R688) -/

def barKind (h : Hdr) : Nat := bits h.payload 16 14
def barId (h : Hdr) : Nat := bits h.payload 13 0
def barCut (h : Hdr) : Bool := bit h.payload 23

/-- Take the front BAR packet of kind k at field f's controller. -/
def State.takeBar (s : State) (f k : Nat) (go : Packet → State → State) : State :=
  match s.front (originOf f) .ctl 3 with
  | some q =>
    if q.h.op = opBar ∧ barKind q.h = k ∧ !(s.fld f).rst then go q (s.popFront (originOf f) .ctl 3) else s
  | none => s

/-- ARRIVE (R399). -/
def State.barArrive (s : State) (sku f : Nat) : State :=
  s.takeBar f 0 (fun q s =>
    let i := barId q.h
    let c := s.fld f
    let e := c.node i
    if e.scope = 0 then s.setFld f ((c.barSet 0).barDropRec 0 (q.h.sy % 96 * 128 + q.h.sx % 96) i)
    else
      let s := s.setFld f (c.setNode i { e with remain := e.remain - 1 })
      if e.remain ≤ 1 then s.nodeDone sku f i false else s)

/-- FDONE (R400). -/
def State.barFdone (s : State) (f : Nat) : State :=
  s.takeBar f 1 (fun q s =>
    let i := barId q.h
    let c := s.fld f
    let e := c.root i
    let g := fieldAt q.h.sy q.h.sx
    if !e.armed || !bit e.fmask g || bit e.rcvd g then s.setFld f ((c.barSet 1).barDropRec 1 g i)
    else
      let e := { e with rcvd := setFbit e.rcvd g true, remainf := e.remainf - 1, cut := e.cut || barCut q.h, fcount := true }
      let s := s.setFld f (c.setRoot i e)
      if e.remainf = 0 then s.rootDone f i g false else s)

/-- PDONE (R401). -/
def State.barPdone (s : State) (f : Nat) : State :=
  s.takeBar f 4 (fun q s =>
    let i := barId q.h
    let c := s.fld f
    let e := c.root i
    if !e.armed || !e.sys || !e.sysroot then s.setFld f ((c.barSet 1).barDropRec 2 (q.h.splate % 1024) i)
    else
      let e := { e with remainp := e.remainp - 1, cutp := e.cutp || barCut q.h, pcount := true }
      let s := s.setFld f (c.setRoot i e)
      if e.remainp = 0 then s.sysDone f i false else s)

/-- PRELEASE (R401): RELEASE_F with the root's own LASTF. -/
def State.barPrelease (s : State) (f : Nat) : State :=
  s.takeBar f 5 (fun q s =>
    let i := barId q.h
    let c := s.fld f
    let e := c.root i
    if !e.armed || !e.sys then s.setFld f ((c.barSet 1).barDropRec 3 (q.h.splate % 1024) i)
    else s.rootRelease f i (barCut q.h))

/-- RELEASE_F at a field controller (R402, R405): taken by an armed node whose ROOTF sent it, else only forwarded.
DESIGN CHOICE (log entry 13). -/
def State.barReleaseF (s : State) (sku f : Nat) : State :=
  let c := s.fld f
  match c.relF with
  | [] => s
  | x :: rest =>
    if c.rst then s
    else
      let s := s.setFld f { c with relF := rest }
      let e := c.node x.id
      if 2 ≤ e.scope ∧ e.rootf = x.src then s.sendReleaseT sku f x true else s

/-- The pending entry that a release marks (R404). -/
def relMark (p : Sparse Pend) (x : Rel) : Sparse Pend :=
  p.map (fun e =>
    if e.2.valid && e.2.id == x.id && e.2.sent && !e.2.released
    then (e.1, { e.2 with released := true, cut := x.cut }) else e)

/-- A router within its field, as 96 × row + column. -/
def localIdx (r : Nat) : Nat := 96 * (rowOf r % 96) + colOf r % 96

/-- RELEASE_T at a tile (R404); a tile in reset discards it (R146). DESIGN CHOICE (log entry 13). -/
def State.tileRelease (s : State) (r : Nat) : State :=
  let t := s.tile r
  match (s.fld (fieldOf r)).relLog[t.relSeen]? with
  | none => s
  | some x =>
    s.setTile r { t with relSeen := t.relSeen + 1,
                         pend := if t.rst || x.miss.contains (localIdx r) then t.pend else relMark t.pend x }

/-! ### Register writes (R393 to R395, R414 to R416, R589) -/

def Field.barRefuse (f : Field) : Field := f.barSet 3

/-- FLD_BARNODE word 0 (R394). -/
def Field.wrBarNode (f : Field) (own : Nat) (p : Party) (i : Nat) (v : W32) : Field :=
  let e := f.node i
  let scope := bits v 31 30
  let rootf := bits v 25 20
  let expect := bits v 13 0
  if !fldWriter p then f.barRefuse
  else if (e.scope ≠ 0 ∧ e.remain ≠ e.expect) ∨ (scope ≠ 0 ∧ (expect = 0 ∨ expect > 9220)) ∨
      (scope = 1 ∧ rootf ≠ own) ∨ (scope = 3 ∧ i ≥ 0x1000) then f.barRefuse
  else f.setNode i { e with scope := scope, rootf := rootf, expect := expect, remain := expect }

/-- A root entry with word k replaced (Table 10.3). -/
def BarRoot.withWord (e : BarRoot) (k : Nat) (v : W32) : BarRoot :=
  match k with
  | 0 => { e with armed := bit v 31, sys := bit v 30, sysroot := bit v 29, epoch := bit v 28,
                  rootplate := bits v 25 16, expectp := bits v 9 0 }
  | 1 => { e with fmask := setBits e.fmask 31 0 v.toNat }
  | _ => { e with fmask := setBits e.fmask 63 32 v.toNat }

/-- FLD_BARROOT words 0 to 2 (R393, R395, R589). -/
def Field.wrBarRoot (f : Field) (p : Party) (i k : Nat) (v : W32) : Field :=
  let e := f.root i
  let n := e.withWord k v
  let mOnly := (k == 0 && bit v 28) || e.epoch
  if !fldWriter p || (mOnly && p == .pressS) then f.barRefuse
  else if (e.armed && (e.fcount || e.pcount)) || (n.armed && n.fmask == 0#64) ||
      (!n.sys && (n.sysroot || n.rootplate != 0 || n.expectp != 0)) || (n.sys && decide (i ≥ 0x1000)) then f.barRefuse
  else f.setRoot i { n with
    remainf := popF n.fmask, remainp := n.expectp + 1, rcvd := 0#64, cut := false, cutp := false, fcount := false, pcount := false }

/-- FLD_BARCUT_SEL fields (Table 10.8). -/
def cutField (w : W32) : Nat := bits w 21 16
def cutLevel (w : W32) : Nat := bits w 15 14
def cutId (w : W32) : Nat := bits w 13 0
def cutDexp (v : W32) : Nat := bits v 29 16
def cutDrem (v : W32) : Nat := bits v 13 0

/-- Level 0: node (Table 10.9, R416). -/
def State.cutNode (s : State) (sku f : Nat) (v : W32) : State :=
  let c := s.fld f
  let i := cutId c.barcutSel
  let e := c.node i
  let de := cutDexp v
  let dr := cutDrem v
  if e.scope = 0 ∨ de = 0 ∨ de ≥ e.expect ∨ dr > de ∨ dr > e.remain then s.setFld f (c.barSet 2)
  else
    let s := s.setFld f (c.setNode i { e with expect := e.expect - de, remain := e.remain - dr })
    if e.remain - dr = 0 then s.nodeDone sku f i true else s

/-- Level 1: a field leaves the root (Table 10.9, R416). -/
def State.cutRootRemove (s : State) (f : Nat) (v : W32) : State :=
  let c := s.fld f
  let i := cutId c.barcutSel
  let g := cutField c.barcutSel
  let e := c.root i
  if !e.armed || !bit e.fmask g || popF e.fmask == 1 || cutDexp v != 0 || cutDrem v != 0 then s.setFld f (c.barSet 2)
  else
    let rem := if bit e.rcvd g then e.remainf else e.remainf - 1
    let s := s.setFld f (c.setRoot i { e with fmask := setFbit e.fmask g false, remainf := rem })
    if rem = 0 then s.rootDone f i g true else s

/-- Level 2: a field is credited for this instance (Table 10.9, R416). -/
def State.cutRootCredit (s : State) (f : Nat) (v : W32) : State :=
  let c := s.fld f
  let i := cutId c.barcutSel
  let g := cutField c.barcutSel
  let e := c.root i
  if !e.armed || !bit e.fmask g || bit e.rcvd g || cutDexp v != 0 || cutDrem v != 0 then s.setFld f (c.barSet 2)
  else
    let s := s.setFld f (c.setRoot i { e with rcvd := setFbit e.rcvd g true, remainf := e.remainf - 1 })
    if e.remainf ≤ 1 then s.rootDone f i g true else s

/-- Level 3: Plates leave the system root (Table 10.9, R416). -/
def State.cutSysroot (s : State) (f : Nat) (v : W32) : State :=
  let c := s.fld f
  let i := cutId c.barcutSel
  let e := c.root i
  let de := cutDexp v
  let dr := cutDrem v
  if !e.sysroot || !e.armed || de == 0 || decide (de ≥ e.expectp + 1) || decide (dr > de) || decide (dr > e.remainp) then
    s.setFld f (c.barSet 2)
  else
    let s := s.setFld f (c.setRoot i { e with expectp := e.expectp - de, remainp := e.remainp - dr })
    if e.remainp - dr = 0 then s.sysDone f i true else s

/-- A write of FLD_BARCUT_GO performs the cut that SEL names (R415). -/
def State.barcutGo (s : State) (sku f : Nat) (p : Party) (v : W32) : State :=
  if !fldWriter p then s.modFld f (·.barRefuse)
  else
    match cutLevel (s.fld f).barcutSel with
    | 0 => s.cutNode sku f v
    | 1 => s.cutRootRemove f v
    | 2 => s.cutRootCredit f v
    | _ => s.cutSysroot f v

/-- FLD_BAR_STAT: W1C, and DROPV RW1C (R414). -/
def Field.wrBarStat (f : Field) (p : Party) (v : W32) : Field :=
  if !fldWriter p then f.barRefuse else { f with barStat := f.barStat &&& ~~~(v &&& 0x3F#32) }

end Sys2Proof.Machine
end

