-- ==== Sys2Proof/Machine/Stream.lean ====
section
/-! DEFINITION. Stream units: descriptors and their checks, items read and written, Stipple slots and structured
groups, commands that end (5.7, 7.8, chapter 8), and Burnish (15.2). -/

namespace Sys2Proof.Machine

/-! ### Descriptor checks (R191) -/

/-- The checks of R191 in order. An SD_GA in space 0x8 whose coordinates lie outside the extent counts as malformed, reason 6:
DESIGN CHOICE (log entry 72), for R65 names ADDR there. The answer is the reason code of Table 5.7 and, for a command that passes, the
words to copy with SD_GA resolved. -/
def sdCheck (d : Desc) (origin : W32) : Except Nat Desc :=
  let m := d.mode
  let f := d.fmt
  let comb :=
    match m with
    | 0 => !d.remote || d.dir
    | 1 => !d.dir && !d.remote && decide (f ≤ 4)
    | 2 => d.dir && decide (f ≤ 4)
    | _ => !d.dir && !d.remote && decide (f ≤ 4)
  let span (g : Int → Int) : Int := d.dims.foldl (fun a k => a + g (((d.cnt k : Int) - 1) * d.str k)) 0
  let lo := (d.start : Int) + span (fun x => if x < 0 then x else 0)
  let hi := (d.start : Int) + span (fun x => if x > 0 then x else 0) + d.size
  if f ≥ 6 then .error 1
  else if !comb then .error 2
  else if d.dims.any (fun k => d.cnt k == 0) then .error 3
  else if d.start % 4 ≠ 0 ∨ d.dims.any (fun k => bits (d.w (8 + k)) 1 0 != 0) then .error 4
  else if lo < 0 ∨ hi > 0x18000 then .error 5
  else if !d.remote then .ok d
  else
    let g := gaOf d.ga
    if g.space ≠ 0 ∧ g.space ≠ 8 then .error 6
    else
      match g.resolve origin with
      | none => .error 6
      | some h =>
        if h.bad 1 then .error 6
        else .ok (sput (sput d 2 (BitVec.ofNat 32 (bits h.word 31 0))) 3 (BitVec.ofNat 32 (bits h.word 63 32)))

/-! ### Commands become active and end (R190, R295 to R297, R335) -/

/-- A unit whose command `d` becomes active: position and counters start at zero. -/
def SUnit.activate (u : SUnit) (d : Desc) : SUnit :=
  { u with act := some d, nnz := 0#32, dens := 0#32, pos := 0#32, idx := 0, taken := 0, buf := [], sub := 0, res := [] }

/-- SDGO takes a command into a free slot (R190, R295); none when both are full. -/
def SUnit.takeCmd (u : SUnit) (d : Desc) : Option SUnit :=
  let u := { u with abort := false }
  if u.act.isNone then some (u.activate d)
  else if u.wait.isNone then some { u with wait := some d }
  else none

def bodySdgo : LBody := fun f _ npc t =>
  let u := t.unit f.a
  match sdCheck u.desc t.origin with
  | .error e => .fault t ⟨7, f.a + 16 * e, BitVec.ofNat 64 (Desc.w u.desc 0).toNat⟩
  | .ok d =>
    match u.takeCmd d with
    | some u => .ok (t.setUnit f.a u) npc
    | none => .wait t false

/-- SDWAIT (R296). -/
def bodySdwait : LBody := fun f _ npc t =>
  let u := t.unit f.a
  if u.act.isNone && u.wait.isNone then .ok t npc else .wait t false

/-- The active command is complete (R297): every item taken, or every vector written. -/
def SUnit.cmdDone (u : SUnit) : Bool :=
  match u.act with
  | some d => if Desc.dir d then u.idx == Desc.total d else u.taken == Desc.total d
  | none => false

/-- The command ends and the waiting command becomes active (R297). -/
def SUnit.endCmd (u : SUnit) : SUnit :=
  match u.wait with
  | some d => { u.activate d with wait := none, paused := u.paused || u.pauseReq, pauseReq := false }
  | none => { u with act := none, buf := [], sub := 0, paused := false, pauseReq := false }

/-! ### Density counters (Table 8.6) -/

def satByte (w : W32) (lo : Nat) : W32 := if bits w (lo + 7) lo = 255 then w else setBits w (lo + 7) lo (bits w (lo + 7) lo + 1)

/-- Count a stipple slot with `n` non-zeros (R336). -/
def SUnit.count (u : SUnit) (n : Nat) : SUnit :=
  { u with nnz := u.nnz + BitVec.ofNat 32 n,
           dens := satByte u.dens (if n ≤ 2 then 0 else if n ≤ 6 then 8 else if n ≤ 12 then 16 else 24) }

/-! ### Images: what VPOP and dense blocks take (R298, R305, R306, R323, R334) -/

/-- The 16 elements of a slot in expanded form: packed value p goes to the (p + 1)-th set bit (R310, R323). -/
def expandSlot (es hdr : Nat) (packed : Bytes) : Nat → Nat → Nat → List Nat
  | 0, _, _ => []
  | n + 1, k, p =>
    if hdr.testBit k then leNat ((packed.drop (es * p)).take es) :: expandSlot es hdr packed n (k + 1) (p + 1)
    else 0 :: expandSlot es hdr packed n (k + 1) p

/-- IDX0, IDX1, V0, V1 of lane j of a group (Table 8.5). -/
def groupLane (es : Nat) (b : Bytes) (j : Nat) : Nat × Nat × Nat × Nat :=
  let m := leNat (b.take 8)
  ((m >>> (4 * j)) % 4, (m >>> (4 * j + 2)) % 4, leNat ((b.drop (8 + es * j)).take es),
   leNat ((b.drop (8 + 16 * es + es * j)).take es))

/-- Expanded vector of position q in the group (R334). -/
def groupVec (es : Nat) (b : Bytes) (q : Nat) : List Nat :=
  (List.range 16).map (fun j =>
    match groupLane es b j with
    | (i0, i1, v0, v1) => if i0 = q then v0 else if i1 = q then v1 else 0)

/-- The next image of a unit from its front item, and whether it is the item's last. -/
def itemImage (f : Nat) (i : Item) (sub : Nat) : List Nat × Bool :=
  let es := elemSize f
  match i with
  | .vec b => if f = 5 then (lanesOfBytes 2 ((b.drop (32 * sub)).take 32), sub == 1) else (lanesOfBytes es b, true)
  | .slot h p => (expandSlot es h.toNat p 16 0 0, true)
  | .group b => (groupVec es b sub, sub == 3)

/-- The front item has been taken (R297, R336). -/
def SUnit.takeItem (u : SUnit) : SUnit :=
  let u' := { u with buf := u.buf.drop 1, sub := 0, taken := u.taken + 1, pos := u.pos + 1#32 }
  match u.buf.head? with
  | some (.slot h _) => u'.count (popc h.toNat 16)
  | _ => u'

/-- Take the next image from the buffer. -/
def SUnit.takeImage (u : SUnit) : Option (List Nat × SUnit) :=
  match u.act, u.buf.head? with
  | some d, some i =>
    match itemImage (Desc.fmt d) i u.sub with
    | (l, true) => some (l, u.takeItem)
    | (l, false) => some (l, { u with sub := u.sub + 1 })
  | _, _ => none

/-- What a step of a read finds: the tile and the value, nothing ready, or a stream fault. -/
inductive Blk? (α : Type) where
  | got (t : Tile) (v : α)
  | wait
  | bad (t : Tile) (x : FaultRec)
  deriving DecidableEq

/-- Make an item ready at the front of a read unit: end a finished command whose successor waits, and read from
memory when nothing is buffered. -/
def Tile.ready (t : Tile) (u : Nat) : Blk? (Desc × Item) :=
  let x := t.unit u
  let t := if x.cmdDone && x.wait.isSome then t.setUnit u x.endCmd else t
  let x := t.unit u
  match x.act with
  | none => .wait
  | some d =>
    if Desc.dir d || x.paused then .wait
    else
      match x.buf.head? with
      | some i => .got t (d, i)
      | none =>
        if x.idx ≥ Desc.total d then .wait
        else
          match t.fetchItem u d with
          | .item t i => .got t (d, i)
          | .bad t f => .bad t f

/-- VPOP (R298): it takes the unit's next image, which the unit reads now when none is buffered. -/
def bodyVpop : Body := fun r f _ npc s =>
  match (s.tile r).ready f.a with
  | .wait => .wait s false
  | .bad t x => .wait ((s.setTile r t).asyncFault r f.a x) false
  | .got t _ =>
    match (t.unit f.a).takeImage with
    | some (l, u) => .ok (s.setTile r ((t.setUnit f.a u).setVl f.d l)) npc
    | none => .wait s false

/-! ### Writing (R192, R299, R312 to R315) -/

/-- Words of one result vector or slot as stored (R312, R313). -/
def resWords (d : Desc) (l : List Nat) : List W32 :=
  let f := d.fmt
  let es := elemSize f
  if d.mode = 2 then
    let nz := idxs 16 (fun i => !isZeroElem f (l.getD i 0))
    let hdr := nz.length * 65536 + nz.foldl (fun a i => a + 2 ^ i) 0
    let packed := nz.flatMap (fun i => natLe es (l.getD i 0))
    BitVec.ofNat 32 hdr :: toWords ((packed.length + 3) / 4) packed
  else toWords (4 * es) (bytesOfLanes es l)

/-- One result vector leaves the unit: into local memory, or as one posted packet on C0 (R192, R314). None when the
packet finds no credit. DEDUCED (log entry 37). -/
def State.streamWrite (s : State) (r u : Nat) (d : Desc) : Option State :=
  let t := s.tile r
  let x := t.unit u
  match x.res with
  | [] => none
  | l :: rest =>
    let ws := resWords d l
    let a := d.addr x.idx
    let done (s : State) : State :=
      s.modTile r (fun t => t.modUnit u (fun x =>
        let x := { x with res := rest, idx := x.idx + 1, pos := x.pos + 1#32 }
        let x := if d.mode = 2 then x.count (popc (ws.getD 0 0#32).toNat 16) else x
        if x.pauseReq && rest.isEmpty then { x with paused := true, pauseReq := false } else x))
    if d.remote then
      let g := { gaOf d.ga with off := a }
      (s.post r (u + 1) none (longReq (s.tileHdr r) r g (opWr 0) 0 ws) g.word).map done
    else some (done (s.setTile r (t.wrWords (a / 4) ws)))

/-- STREAM_VECTOR (R189, R194): the unit reads or writes its next vector or slot. -/
def State.streamVector (s : State) (r u : Nat) : State :=
  let t := s.tile r
  let x := t.unit u
  match x.act with
  | none => s
  | some d =>
    if t.rst || x.paused then s
    else if Desc.dir d then
      match s.streamWrite r u d with
      | some s => s
      | none => if Desc.remote d && !x.res.isEmpty then s.stall r 0 (u + 1) else s
    else
      match t.readReady u with
      | none => s
      | some d =>
        match t.fetchItem u d with
        | .item t _ => s.setTile r t
        | .bad t f => (s.setTile r t).asyncFault r u f

/-- STREAM_CMD_END (R296, R297): a remote write ends once its last packet has been injected whole; a finished command ends
though STOP has paused its unit. -/
def Tile.streamEnd (t : Tile) (u : Nat) : Tile :=
  let x := t.unit u
  if !t.rst && x.cmdDone && t.sendU != some u then t.setUnit u x.endCmd else t

/-! ### Burnish and the write-back of corrected words (R185, R585 to R587) -/

/-- ECC_WRITEBACK: the oldest corrected word is written back (R185). -/
def Tile.writeBack (t : Tile) : Tile :=
  match t.wb with
  | [] => t
  | n :: rest =>
    { t with wb := rest, upset := if sget .good t.upset n = .ce then sdel t.upset n else t.upset }

/-- Whether every tile that Burnish serves in field f is in `done` (R585, R587). -/
def State.burnAll (s : State) (f : Nat) (done : List Nat) : Bool :=
  (List.range 9216).all (fun i =>
    let r := routerOf (96 * (f / 8) + i / 96) (96 * (f % 8) + i % 96)
    (s.tile r).rst || done.contains (s.phys r))

/-- BURNISH_READ (R585 to R587). -/
def State.burnish (s : State) (r : Nat) : State :=
  let t := s.tile r
  let f := fieldOf r
  let c := s.fld f
  let p := s.phys r
  if t.rst || c.rst || !bit c.burnCtl 0 then s
  else
    let n := sget 0 c.burnPos p
    let s :=
      match sget .good t.upset n with
      | .good => s
      | .ce => (s.setTile r { t.countCe with upset := sdel t.upset n, wb := t.wb.filter (· != n) }).modFld f
                 (fun c => { c with burnCe := satInc c.burnCe 0xFFFFFFFF })
      | .ue => (s.setTile r (t.countUe (some n))).modFld f (fun c =>
          ({ c with burnUec := satInc c.burnUec 0xFFFFFFFF,
                    burnUea := if bit c.burnUea 31 then c.burnUea
                      else BitVec.ofNat 32 (2 ^ 31 + (rowOf r % 96) * 2 ^ 22 + (colOf r % 96) * 2 ^ 15 + n) }).raise 4)
    let last := n + 1 ≥ 24576
    let c := s.fld f
    let done := if last && !c.burnDone.contains p then c.burnDone ++ [p] else c.burnDone
    let pass := last && s.burnAll f done
    s.modFld f (fun c => { c with burnPos := sput c.burnPos p (if last then 0 else n + 1),
                                  burnDone := if pass then [] else done,
                                  burnPass := if pass then c.burnPass + 1#32 else c.burnPass })

end Sys2Proof.Machine
end

