-- ==== Sys2Proof/Machine/FieldCtl.lean ====
section
/-! DEFINITION. Field controller space: reads and writes by party (Tables 2.4, 3.7, 9.10, 10.2, 10.3, 10.8, 15.2), and
the packets that a field controller answers (R347, R684). -/

namespace Sys2Proof.Machine

/-- The party of a C0 or C2 packet (Table 12.1, R473). -/
def srcParty (topo : W32) (h : Hdr) : Party :=
  if !isOwn topo h.splate || !h.srckind then .tileSw
  else if h.sy % 192 = 191 ∧ h.sx % 192 = 144 then (if h.pkey = 0 then .pressM else .pressS)
  else if h.sy % 96 = 0 ∧ h.sx % 96 = 0 then (if h.pkey = 0 then .wardenFw else .hostWin)
  else .tileSw

/-! ### Reads -/

/-- A node entry as words (Table 10.2). -/
def BarNode.word (e : BarNode) (k : Nat) : W32 :=
  BitVec.ofNat 32 (if k = 0 then e.scope * 2 ^ 30 + e.rootf * 2 ^ 20 + e.expect else e.rels * 2 ^ 16 + e.remain)

/-- A root entry as words (Table 10.3). -/
def BarRoot.word (e : BarRoot) (k : Nat) : W32 :=
  match k with
  | 0 => BitVec.ofNat 32 (b2n e.armed * 2 ^ 31 + b2n e.sys * 2 ^ 30 + b2n e.sysroot * 2 ^ 29 + b2n e.epoch * 2 ^ 28
           + e.rootplate * 2 ^ 16 + e.expectp)
  | 1 => BitVec.ofNat 32 (bits e.fmask 31 0)
  | 2 => BitVec.ofNat 32 (bits e.fmask 63 32)
  | 3 => BitVec.ofNat 32 (bits e.rcvd 31 0)
  | 4 => BitVec.ofNat 32 (bits e.rcvd 63 32)
  | 5 => BitVec.ofNat 32 (e.lastf * 2 ^ 24 + e.remainp * 2 ^ 8 + e.remainf)
  | 6 => BitVec.ofNat 32 e.rels
  | _ => 0#32

/-- FLD_EPOCH_STAT (Table 15.2). -/
def Field.epochStat (f : Field) : W32 :=
  BitVec.ofNat 32 (f.ecnt * 2 ^ 16 + f.colref * 2 ^ 4 + b2n f.coldone * 8 + b2n f.sealdone * 4)

/-- The value of a register of field controller space (Tables 3.7, 9.10, 10.8, 15.2, 2.4). An offset that names no
register reads as zero (R684). -/
def Field.peek (f : Field) (off : Nat) : W32 :=
  if off = 0x100 then BitVec.ofNat 32 f.clkTgt
  else if off = 0x104 then BitVec.ofNat 32 f.clkCeil
  else if off = 0x108 then f.clkStat
  else if off = 0x110 then f.shCtl
  else if off = 0x114 then BitVec.ofNat 32 f.shBar
  else if off = 0x118 then BitVec.ofNat 32 (f.quiet * 256 + f.shOp)
  else if off = 0x120 then BitVec.ofNat 32 f.shOld.wait
  else if off = 0x124 then BitVec.ofNat 32 (f.shOld.wait / 2 ^ 32 % 65536)
  else if off = 0x128 then BitVec.ofNat 32 f.shOld.cyc
  else if off = 0x12C then BitVec.ofNat 32 (f.shOld.act % 16384)
  else if off = 0x130 then BitVec.ofNat 32 (f.shOld.rel * 65536 + f.shOld.last)
  else if off = 0x140 then BitVec.ofNat 32 f.xdrop
  else if off = 0x200 then f.sealAct
  else if off = 0x204 then f.sealSh
  else if off = 0x208 then f.meshStat
  else if off = 0x210 then BitVec.ofNat 32 f.sealDrop
  else if off = 0x214 then BitVec.ofNat 32 f.keyDrop
  else if off = 0x218 then BitVec.ofNat 32 f.hopCe
  else if off = 0x21C then BitVec.ofNat 32 f.hopRetry
  else if off = 0x220 then f.linkFail
  else if 0x230 ≤ off ∧ off < 0x240 then BitVec.ofNat 32 (f.dropHdr.toNat >>> (8 * (off - 0x230)))
  else if off = 0x300 then f.evt
  else if off = 0x304 then f.evtEn
  else if off = 0x308 then f.fltLog.headD 0#32
  else if off = 0x310 then f.burnCtl
  else if off = 0x314 then f.burnPass
  else if off = 0x318 then BitVec.ofNat 32 f.burnCe
  else if off = 0x31C then BitVec.ofNat 32 f.burnUec
  else if off = 0x320 then f.burnUea
  else if off = 0x330 then f.epochStat
  else if 0x400 ≤ off ∧ off < 0x41C then f.colmap.getD ((off - 0x400) / 4) 0#32
  else if 0x420 ≤ off ∧ off < 0x43C then f.colmapSh.getD ((off - 0x420) / 4) 0#32
  else if off = 0x800 then f.barcutSel
  else if off = 0x808 then f.barStat
  else if off = 0x80C then f.barDrop
  else if 0x20000 ≤ off ∧ off < 0x40000 then (f.node ((off - 0x20000) / 8)).word (off / 4 % 2)
  else if 0x40000 ≤ off ∧ off < 0xC0000 then (f.root ((off - 0x40000) / 32)).word (off / 4 % 8)
  else 0#32

/-- What a read of a register itself clears (R9 RC, R381, R581, R583). -/
def Field.readClear (f : Field) (off : Nat) : Field :=
  if off = 0x140 then { f with xdrop := 0 }
  else if off = 0x210 then { f with sealDrop := 0 }
  else if off = 0x214 then { f with keyDrop := 0 }
  else if off = 0x218 then { f with hopCe := 0 }
  else if off = 0x21C then { f with hopRetry := 0 }
  else if off = 0x308 then { f with fltLog := f.fltLog.drop 1 }
  else if off = 0x318 then { f with burnCe := 0 }
  else if off = 0x31C then { f with burnUec := 0 }
  else f

/-- A read of field controller space. -/
def Field.read (f : Field) (off : Nat) : Field × W32 :=
  let off := off / 4 * 4
  (f.readClear off, f.peek off)

/-! ### Writes -/

/-- A refused write of a mesh or RAS register (R366, R581, R595). -/
def Field.meshRefuse (f : Field) : Field := { f with meshStat := setBit f.meshStat 4 true }

/-- R366: FLD_SEAL_SH of field `own`. -/
def Field.wrSealSh (f : Field) (own : Nat) (p : Party) (v : W32) : Field :=
  let fy0 := bits v 2 0
  let fx0 := bits v 5 3
  let fy1 := bits v 8 6
  let fx1 := bits v 11 9
  if !(p == .wardenFw || p == .pressM) || bits v 23 12 == 0 || decide (fy0 > fy1) || decide (fx0 > fx1)
      || !(fy0 ≤ own / 8 && own / 8 ≤ fy1 && fx0 ≤ own % 8 && own % 8 ≤ fx1) then f.meshRefuse
  else { f with sealSh := v &&& 0x01FFFFFF#32 }

/-- FLD_MESH_STAT: W1C, and HDRV RW1C (R381). -/
def Field.wrMeshStat (f : Field) (p : Party) (v : W32) : Field :=
  if fldWriter p then { f with meshStat := f.meshStat &&& ~~~(v &&& 0x1F#32) } else f.meshRefuse

/-- FLD_EVT: W1C; clearing BURNUE clears FLD_BURN_UEA.VALID (R586). -/
def Field.wrEvt (f : Field) (p : Party) (v : W32) : Field :=
  if fldWriter p then
    { f with evt := f.evt &&& ~~~(v &&& 0x1FF#32),
             burnUea := if bit v 4 then setBit f.burnUea 31 false else f.burnUea }
  else f.meshRefuse

def Field.wrEvtEn (f : Field) (p : Party) (v : W32) : Field :=
  if fldWriter p then { f with evtEn := v &&& 0x1FF#32 } else f.meshRefuse

/-- FLD_BURN_CTL (R581). -/
def Field.wrBurnCtl (f : Field) (p : Party) (v : W32) : Field :=
  if fldWriter p && decide (4 ≤ bits v 4 1) then { f with burnCtl := v &&& 0x1F#32 } else f.meshRefuse

/-- FLD_EPOCH_STAT: COLDONE and SEALDONE W1C (R593). -/
def Field.wrEpochStat (f : Field) (p : Party) (v : W32) : Field :=
  if fldWriter p then { f with coldone := f.coldone && !bit v 3, sealdone := f.sealdone && !bit v 2 } else f.meshRefuse

/-- FLD_COLMAP_SHn (R595, R53). -/
def Field.wrColmapSh (f : Field) (p : Party) (n : Nat) (v : W32) : Field :=
  if p == .wardenFw then { f with colmapSh := lset f.colmapSh n (if n = 6 then v &&& 0xFF#32 else v) }
  else f.meshRefuse

def Field.wrCutSel (f : Field) (p : Party) (v : W32) : Field :=
  if fldWriter p then { f with barcutSel := v &&& 0x003FFFFF#32 } else f.barRefuse

/-- FLD_CLK_STAT.WREF is W1C (R94). -/
def Field.wrClkStat (f : Field) (p : Party) (v : W32) : Field :=
  if fldWriter p && bit v 16 then { f with clkWref := false } else f

/-- A write of field controller space that acts on the field alone, by the rule of each register. -/
def Field.write (sku : Nat) (f : Field) (own : Nat) (p : Party) (off : Nat) (v : W32) : Field :=
  if off = 0x100 then f.wrClkTgt sku p v
  else if off = 0x104 then f.clkRefuse
  else if off = 0x108 then f.wrClkStat p v
  else if off = 0x110 then f.wrShCtl sku p v
  else if off = 0x114 then f.wrShBar sku p v
  else if off = 0x204 then f.wrSealSh own p v
  else if off = 0x208 then f.wrMeshStat p v
  else if off = 0x300 then f.wrEvt p v
  else if off = 0x304 then f.wrEvtEn p v
  else if off = 0x310 then f.wrBurnCtl p v
  else if off = 0x330 then f.wrEpochStat p v
  else if off = 0x308 ∨ (0x314 ≤ off ∧ off < 0x324) then (if fldWriter p then f else f.meshRefuse)
  else if 0x420 ≤ off ∧ off < 0x43C then f.wrColmapSh p ((off - 0x420) / 4) v
  else if off = 0x800 then f.wrCutSel p v
  else if off = 0x808 then f.wrBarStat p v
  else if 0x20000 ≤ off ∧ off < 0x40000 then
    (if off / 4 % 2 = 0 then f.wrBarNode own p ((off - 0x20000) / 8) v else if fldWriter p then f else f.barRefuse)
  else if 0x40000 ≤ off ∧ off < 0xC0000 then
    (if off / 4 % 8 < 3 then f.wrBarRoot p ((off - 0x40000) / 32) (off / 4 % 8) v
     else if fldWriter p then f else f.barRefuse)
  else f

/-- A write of field controller space. FLD_BARCUT_GO performs the cut (R415). -/
def State.fldWrite (s : State) (sku f : Nat) (p : Party) (off : Nat) (v : W32) : State :=
  let off := off / 4 * 4
  if off = 0x804 then s.barcutGo sku f p v else s.modFld f (fun c => c.write sku f p off v)

/-! ### Packets to a field controller -/

/-- Word `k` of a long packet's data. -/
def Packet.word (q : Packet) (k : Nat) : W32 := q.ws.getD k 0#32

/-- RD_FLD (R347, R684). -/
def State.takeRdFld (s : State) (f : Nat) : State :=
  if (s.fld f).rst then s
  else
    s.take (originOf f) .ctl 0 0x03 (fun q s =>
      match (s.fld f).read (4 * bits q.h.payload 26 0) with
      | (c, v) => (s.setFld f c).reply (originOf f) .ctl true q 0 v)

/-- WR_FLD (R347, R684, R409). -/
def State.takeWrFld (s : State) (sku f : Nat) : State :=
  if (s.fld f).rst then s
  else
    s.take (originOf f) .ctl 0 0x0A (fun q s =>
      let p := srcParty (s.fld f).topo q.h
      (s.fldWrite sku f p q.h.off (q.word 0)).reply (originOf f) .ctl true q 0 0#32)

end Sys2Proof.Machine
end

