-- ==== Sys2Proof/Machine/Mesh.lean ====
section
/-! DEFINITION. The mesh and Hatch layer: routing, forwarding, seal checks, hop errors, credits, delivery, discard
state and the loss of packets in a reset (chapter 9, R86, R577 to R579). -/

namespace Sys2Proof.Machine

/-! ### Keys and links -/

def laneRouter (k : Nat) : Nat := k / 96
def allPorts : List RPort := [.n, .e, .s, .w, .hn, .he, .hs, .hw, .loc, .ctl, .gate, .bridge]
def lanePort (k : Nat) : RPort := allPorts.getD (k / 8 % 12) .loc
def laneCh (k : Nat) : Nat := k / 2 % 4

def isLink : RPort → Bool
  | .loc | .ctl | .gate | .bridge => false
  | _ => true

/-- A port whose receiving side checks flits (R361): a mesh link, a Hatch link, or a crossing from a gate or a Rim die. -/
def isChecked (p : RPort) : Bool := checkedPort (portIdx p)

/-- A Hatch stop: row and column multiples of 16 (R341). -/
def isStop (r : Nat) : Bool := rowOf r % 16 == 0 && colOf r % 16 == 0

/-- The router across a link port, and the port by which flits enter it there (R340, R341); the links of a corner or edge
router that would lead off the grid, and Hatch links of a router that is no stop, do not exist. -/
def neighbour (r : Nat) : RPort → Option (Nat × RPort)
  | .n => if 1 ≤ rowOf r then some (r - 768, .s) else none
  | .s => if rowOf r < 767 then some (r + 768, .n) else none
  | .w => if 1 ≤ colOf r then some (r - 1, .e) else none
  | .e => if colOf r < 767 then some (r + 1, .w) else none
  | .hn => if isStop r ∧ 16 ≤ rowOf r then some (r - 12288, .hs) else none
  | .hs => if isStop r ∧ rowOf r < 752 then some (r + 12288, .hn) else none
  | .hw => if isStop r ∧ 16 ≤ colOf r then some (r - 16, .he) else none
  | .he => if isStop r ∧ colOf r < 752 then some (r + 16, .hw) else none
  | _ => none

/-- The router that feeds an input lane over a link. -/
def laneFrom (k : Nat) : Option Nat := (neighbour (laneRouter k) (lanePort k)).map (·.1)

/-- Whether the link into router r by port p crosses a field boundary. -/
def crosses (r : Nat) (p : RPort) : Bool :=
  match neighbour r p with
  | some (n, _) => fieldOf n != fieldOf r
  | none => false

/-! ### Routing (R355, R356) -/

/-- Where a packet goes from a router: handed over at a port, or over a link on lane b with ROUTE. -/
inductive Hop where
  | here (p : RPort)
  | link (out : RPort) (b : Bool) (route : Nat)
  deriving DecidableEq, Repr

/-- One step of the XY path; `arrived` at its end. -/
def xyStep (r y x : Nat) (b : Bool) (route : Nat) (arrived : Hop) : Hop :=
  if colOf r < x then .link .e b route
  else if x < colOf r then .link .w b route
  else if rowOf r < y then .link .s b route
  else if y < rowOf r then .link .n b route
  else arrived

/-- One step of the Hatch path to stop (ty, tx), then the off-ramp. -/
def expressStep (r ty tx : Nat) (down : Hop) : Hop :=
  if colOf r < tx then .link .he false 4
  else if tx < colOf r then .link .hw false 4
  else if rowOf r < ty then .link .hs false 4
  else if ty < rowOf r then .link .hn false 4
  else down

/-- The route of a packet at router r, from the router's coordinates, the destination and ROUTE (R356). -/
def nextHop (topo : W32) (r : Nat) (h : Hdr) (back : RPort) : Hop :=
  let d := destOf topo h back
  let y := rowOf d.1
  let x := colOf d.1
  let ty := stopOf y
  let tx := stopOf x
  let off := xyStep r y x true 5 (.here d.2)
  match h.route with
  | 0 => xyStep r y x false 0 (.here d.2)
  | 4 => expressStep r ty tx off
  | 5 => off
  | k =>
    let ey := if k = 2 ∨ k = 3 then stopOf (rowOf r) else ty
    let ex := if k = 1 ∨ k = 3 then stopOf (colOf r) else tx
    xyStep r ey ex false k (expressStep r ty tx off)

/-! ### Drops and their answers -/

/-- The packet as far as its answer needs it. -/
def Flit.req (fl : Flit) : Packet := { h := fl.h, back := fl.back, gen := fl.gen }

def Flit.isHead (fl : Flit) : Bool := fl.kind == .head || fl.kind == .single
def Flit.isLast (fl : Flit) : Bool := fl.kind == .tail || fl.kind == .single

/-- UNDELIVERED from router r for the head of a C0 or C2 packet (R577). -/
def State.undeliver (s : State) (r : Nat) (fl : Flit) : State :=
  if fl.isHead && answered fl.h.ch then s.reply r .loc true fl.req 6 0#32 else s

/-- A seal drop: the answer, the count, the captured header (R373). -/
def State.sealDrop (s : State) (r : Nat) (fl : Flit) : State :=
  (s.reply r .loc true fl.req 4 0#32).modFld (fieldOf r) (fun c =>
    let c := { c with sealDrop := satInc c.sealDrop 0xFFFFFFFF, meshStat := setBit c.meshStat 0 true }
    let c := if bit c.meshStat 3 then c else { c with dropHdr := fl.h.word, meshStat := setBit c.meshStat 3 true }
    c.raise 6)

/-! ### Seal checks (R370 to R372) -/

/-- DEDUCED (log entry 41). -/
def sealed (w : W32) : Bool := bit w 24
def sealKey (w : W32) : Nat := bits w 23 12
/-- Router r lies in the rectangle of an FLD_SEAL value. -/
def inRect (w : W32) (r : Nat) : Bool :=
  bits w 2 0 ≤ rowOf r / 96 && rowOf r / 96 ≤ bits w 8 6 && bits w 5 3 ≤ colOf r / 96 && colOf r / 96 ≤ bits w 11 9

/-- R370: the entry router lets a tile's packet pass. DEDUCED (log entry 41). -/
def entryOk (w topo : W32) (h : Hdr) : Bool :=
  !sealed w || !answered h.ch || h.op == 0x05 || h.op == 0x06 || h.op == 0x0C || h.op == 0x0D || !isOwn topo h.dplate
    || inRect w (routerOf h.dy h.dx)

/-- R371: the destination router hands the packet over. DEDUCED (log entry 41). -/
def exitOk (w topo : W32) (h : Hdr) : Bool :=
  !sealed w || !answered h.ch || !isOwn topo h.dplate || h.pkey == 0
    || (!h.srckind && isOwn topo h.splate && inRect w (routerOf h.sy h.sx)) || h.pkey == sealKey w

/-! ### Hand-over (R354, R177, R688) -/

/-- Opcodes that a party takes (Tables 9.1 and 9.4). -/
def takesOp (p : RPort) (op : Nat) : Bool :=
  match p with
  | .loc => [0x01, 0x02, 0x07, 0x08, 0x09, 0x0E, 0x0F, 0x10, 0x14, 0x15, 0x18].contains op
  | .ctl => [0x03, 0x05, 0x06, 0x0A, 0x0C, 0x0D, 0x14, 0x15, 0x1C].contains op
  | .gate => [0x04, 0x0B, 0x14, 0x15].contains op
  | _ => true

/-- Hand a whole packet to the party at a port: a stray release is dropped (R688), a reserved opcode and an overlong
queue message are answered MALFORMED (Table 9.5, R177). -/
def State.deliver (s : State) (r : Nat) (p : RPort) (pk : Packet) : State :=
  if p = .ctl ∧ pk.h.op = opBar ∧ [2, 3, 6, 7].contains (barKind pk.h) then s.modFld (fieldOf r) (·.barSet 5)
  else if takesOp p pk.h.op && !(pk.h.op == opQmsg && decide (pk.h.len > 7)) then s.putInbox r p pk
  else if answered pk.h.ch then
    (if p = .loc ∧ (s.tile r).rst then s.reply r p true pk 2 0#32 else s.reply r p (p != .loc) pk 7 0#32)
  else s

/-- Words of waiting messages for queue q of tile r, handed over and not yet entered. -/
def State.inboxWords (s : State) (r q : Nat) : Nat :=
  ((sget [] s.mesh.inbox (portKey r .loc 2)).filter (fun pk => pk.h.off % 4 == q)).foldl (fun n pk => n + pk.ws.length) 0

/-- A C2 packet is handed to a tile only when its queue has room for all its words (R177, R376). -/
def State.roomFor (s : State) (r : Nat) (h : Hdr) : Bool :=
  let t := s.tile r
  let q := h.off % 4
  t.rst || h.op != opQmsg || decide (h.len > 7) || decide ((t.queue q).length + s.inboxWords r q + h.len + 1 ≤ t.qdepth)

/-- The die a packet at a bridge router leaves by (R438, R457). -/
def bridgeDie (topo : W32) (h : Hdr) : Nat := if isOwn topo h.dplate then 0 else chooseDie topo h.dplate

/-- The party at a port is in reset, or its crossing has failed: the crossing is in discard state (R86, R363). -/
def State.portDead (s : State) (r : Nat) (p : RPort) (h : Hdr) : Bool :=
  sget false s.mesh.failed (portKey r p 0) ||
  match p with
  | .gate => (s.prs (clusterOfField (fieldOf r))).rst
  | .bridge => (s.rim (bridgeDie (s.fld (fieldOf r)).topo h)).rst
  | _ => false

/-- Flits that a packet occupies (R345). -/
def Packet.size (q : Packet) : Nat := if q.h.long then 1 + (q.h.len + 4) / 4 else 1

/-- The queue of the crossing to a gate or a Rim die takes one more flit of a channel (Table 3.2); other parties take what
they are handed (R354). -/
def State.outRoom (s : State) (r : Nat) (p : RPort) (ch : Nat) : Bool :=
  (p != .gate && p != .bridge) ||
    decide ((sget [] s.mesh.inbox (portKey r p ch)).foldl (fun n q => n + q.size) 0
      + (match s.mesh.asm.find? (fun e => e.1 == laneKey r p ch true) with
         | some e => 1 + (e.2.length + 3) / 4
         | none => 0) < laneDepth p false)

/-- Flits sent over the link into router r by port p are dropped: a crossing in discard state, or a failed link
(R86, R363). -/
def State.linkDead (s : State) (r : Nat) (p : RPort) : Bool :=
  (crosses r p && (s.fld (fieldOf r)).closed) || sget false s.mesh.failed (portKey r p 0)

/-! ### Forwarding -/

def Mesh.pop (m : Mesh) (k : Nat) : Mesh :=
  { m with lanes := sput m.lanes k ((m.lane k).drop 1), retn := sput m.retn k (sget 0 m.retn k + 1),
           ueCnt := sdel m.ueCnt k }

def State.popLane (s : State) (k : Nat) : State := s.setMesh (s.mesh.pop k)

/-- Drop the rest of the packet of lane k, when it has more flits. -/
def State.sinkRest (s : State) (k : Nat) (fl : Flit) (count : Bool) : State :=
  if fl.isLast then s else s.setMesh { s.mesh with sink := sput s.mesh.sink k count }

/-- The output that the packet of input lane k holds. -/
def Mesh.ownerOf (m : Mesh) (k : Nat) : Option (Nat × Flit) :=
  (m.owner.find? (fun e => e.2.1 == k)).map (fun e => (e.1, e.2.2))

/-- A lane has a credit for one flit (R81, R365), and no replay is due on its link (R362). -/
def State.laneCredit (s : State) (kk : Nat) : Bool :=
  let r := laneRouter kk
  let p := lanePort kk
  decide (sget 0 s.mesh.used kk < laneDepth p (crosses r p)) && !sget false s.mesh.stopped kk && !shas s.mesh.replay (dirOf kk)

/-- Put a flit into an input lane, using one credit. -/
def Mesh.push (m : Mesh) (kk : Nat) (fl : Flit) : Mesh :=
  { m with lanes := sput m.lanes kk (m.lane kk ++ [fl]), used := sput m.used kk (sget 0 m.used kk + 1),
           sent := keepSent m.sent kk [fl] }

/-- A single flit or a head leaves lane k over a link. -/
def State.headOut (s : State) (r k : Nat) (fl : Flit) (out : RPort) (b : Bool) (route : Nat) : Option State :=
  match neighbour r out with
  | none => none
  | some (n, ip) =>
    let kk := laneKey n ip fl.h.ch b
    if s.linkDead n ip then
      some ((((s.popLane k).xdropOne (fieldOf r)).undeliver r fl).sinkRest k fl true)
    else if shas s.mesh.owner kk || !s.laneCredit kk then none
    else
      let m := (s.mesh.pop k).push kk { fl with h := { fl.h with route := route } }
      some (s.setMesh (if fl.isLast then m else { m with owner := sput m.owner kk (k, fl) }))

/-- A single flit or a head is handed to the party at a port of its destination router. -/
def State.headHere (s : State) (r k : Nat) (fl : Flit) (p : RPort) : Option State :=
  let ok := laneKey r p fl.h.ch true
  if s.portDead r p fl.h then
    some ((((s.popLane k).xdropOne (fieldOf r)).undeliver r fl).sinkRest k fl true)
  else if shas s.mesh.owner ok || (fl.h.ch == 2 && p == .loc && !s.roomFor r fl.h) || !s.outRoom r p fl.h.ch then none
  else if fl.isLast then some ((s.popLane k).deliver r p fl.req)
  else
    let m := s.mesh.pop k
    some (s.setMesh { m with owner := sput m.owner ok (k, fl), asm := sput m.asm ok [] })

/-- A single flit or a head at router r (R355, R370 to R373). -/
def State.moveHead (s : State) (r k : Nat) (p : RPort) (fl : Flit) : Option State :=
  let c := s.fld (fieldOf r)
  let drop : Option State := some (((s.popLane k).sealDrop r fl).sinkRest k fl false)
  if p == .loc && !entryOk c.sealAct c.topo fl.h then drop
  else
    match nextHop c.topo r fl.h fl.back with
    | .here out =>
      if !(p == .loc && out == .loc) && !exitOk c.sealAct c.topo fl.h then drop else s.headHere r k fl out
    | .link out b route => s.headOut r k fl out b route

/-- A body or tail flit of the packet that holds output `ok` (R352, R364). -/
def State.moveBody (s : State) (r k : Nat) (fl : Flit) (ok : Nat) (hd : Flit) : Option State :=
  if isLink (lanePort ok) then
    if s.laneCredit ok then
      let m := (s.mesh.pop k).push ok fl
      some (s.setMesh (if fl.isLast then { m with owner := sdel m.owner ok } else m))
    else none
  else if !s.outRoom r (lanePort ok) fl.h.ch then none
  else
    let m := s.mesh.pop k
    let ws := sget [] m.asm ok ++ fl.ws
    if !fl.isLast then some (s.setMesh { m with asm := sput m.asm ok ws })
    else
      let s := s.setMesh { m with owner := sdel m.owner ok, asm := sdel m.asm ok }
      if fl.poison then some (s.undeliver r hd)
      else some (s.deliver r (lanePort ok) { hd.req with ws := ws.take (hd.h.len + 1) })

/-- The front flit of lane k moves on; none when it cannot. -/
def State.moveFlit (s : State) (r k : Nat) (p : RPort) (fl : Flit) : Option State :=
  match (s.mesh.sink.find? (fun e => e.1 == k)).map (·.2) with
  | some count =>
    let s := s.popLane k
    let s := if count then s.xdropOne (fieldOf r) else s
    some (if fl.isLast then s.setMesh { s.mesh with sink := sdel s.mesh.sink k } else s)
  | none =>
    if fl.isHead then s.moveHead r k p fl
    else
      match s.mesh.ownerOf k with
      | some (ok, hd) => s.moveBody r k fl ok hd
      | none => some (s.popLane k)

/-! ### Hop errors (R361 to R365) -/

/-- A packet in lane k has begun and not ended. -/
def Mesh.open? (m : Mesh) (k : Nat) : Bool :=
  match (m.lane k).getLast? with
  | some fl => !fl.isLast
  | none => (m.ownerOf k).isSome || shas m.sink k

/-- A tail with POISON closes the packet in progress on lane k (R86, R363). -/
def Mesh.poison (m : Mesh) (k : Nat) : Mesh :=
  if m.open? k then m.push k { kind := .tail, h := {}, poison := true } else m

/-- The eight lanes that enter router r by port p. -/
def portLanes (r : Nat) (p : RPort) : List Nat :=
  [0, 1, 2, 3].flatMap (fun ch => [laneKey r p ch false, laneKey r p ch true])

/-- Packets whose output lies among the keys `bad` are dropped from here on (R86). -/
def Mesh.cutOwners (m : Mesh) (bad : Nat → Bool) : Mesh :=
  let hit := m.owner.filter (fun e => bad e.1)
  { m with owner := m.owner.filter (fun e => !bad e.1),
           asm := m.asm.filter (fun e => !bad e.1),
           sink := hit.foldl (fun sk e => sput sk e.2.1 true) m.sink }

/-- Record a failed link in the controller of field `fieldOf r` (Table 9.10, R381, R582). DEDUCED (log entry 40). -/
def State.recordLink (s : State) (r : Nat) (p : RPort) : State :=
  s.modFld (fieldOf r) (fun c =>
    if bit c.linkFail 31 then c
    else
      Field.raise { c with
        linkFail := BitVec.ofNat 32 (2 ^ 31 + portIdx p * 2 ^ 14 + (rowOf r % 96) * 2 ^ 7 + colOf r % 96),
        meshStat := setBit c.meshStat 2 true } 3)

/-- The answer to a packet that a gate or a Rim die has sent over a crossing in discard state: UNDELIVERED from the
surviving side of that crossing (R577). -/
def State.undeliverAt (s : State) (r : Nat) (p : RPort) (fl : Flit) : State :=
  if fl.isHead && answered fl.h.ch then
    s.putInbox r p (answerTo (s.fld (fieldOf r)).topo r true fl.req (!wantsResp fl.h.op) 6 0#32)
  else s

/-- Of the flits sent on a link direction, newest first, those back to the n-th that went into lane k, oldest first. -/
def backTo (k : Nat) : Nat → List (Nat × Flit) → List (Nat × Flit) → Option (List (Nat × Flit))
  | _, [], _ => none
  | n, e :: l, acc =>
    if e.1 = k then (if n ≤ 1 then some (e :: acc) else backTo k (n - 1) l (e :: acc)) else backTo k n l (e :: acc)

/-- Take flits off the ends of their lanes, newest first; those that have moved on already stay where they are. -/
def Mesh.pullBack (m : Mesh) : List (Nat × Flit) → List (Nat × Flit) → Mesh × List (Nat × Flit)
  | [], acc => (m, acc)
  | e :: l, acc =>
    match (m.lane e.1).getLast? with
    | none => m.pullBack l acc
    | some fl => Mesh.pullBack { m with lanes := sput m.lanes e.1 (m.lane e.1).dropLast } l ((e.1, fl) :: acc)

/-- The receiving side discards the front flit of lane k and every later flit on its link direction (R362): the mesh without
them, and the flits. None when the sender no longer keeps that flit: it has arrived long since. -/
def Mesh.discardFrom (m : Mesh) (k : Nat) : Option (Mesh × List (Nat × Flit)) :=
  let l := sget [] m.sent (dirOf k)
  match backTo k (m.lane k).length l.reverse [] with
  | none => none
  | some tail => some (Mesh.pullBack { m with sent := sput m.sent (dirOf k) (l.take (l.length - tail.length)) } tail.reverse [])

/-- A flit on the way into router r by port p is lost in discard state: dropped by the sending side, counted, answered
(R86, R577). -/
def State.loseFlit (s : State) (r : Nat) (p : RPort) (fl : Flit) : State :=
  match neighbour r p with
  | some (n, _) => (s.xdropOne (fieldOf n)).undeliver n fl
  | none => (s.xdropOne (fieldOf r)).undeliverAt r p fl

/-- R363: the link into router r by port p fails in both directions: the flits `lost` on it, and those that wait for a
replay in the other direction, are dropped; packets in progress are closed with POISON. DEDUCED (log entry 40). -/
def State.failLink (s : State) (r : Nat) (p : RPort) (lost : List (Nat × Flit)) : State :=
  let other : Option (Nat × RPort) := neighbour r p
  let back : List (Nat × Flit) := match other with
    | some (n, ip) => sget [] s.mesh.replay (portKey n ip 0)
    | none => []
  let dirs := portKey r p 0 :: (match other with
    | some (n, ip) => [portKey n ip 0]
    | none => [])
  let m := { s.mesh with failed := dirs.foldl (fun f d => sput f d true) s.mesh.failed,
                         replay := dirs.foldl sdel s.mesh.replay, sent := dirs.foldl sdel s.mesh.sent }
  let ls := portLanes r p ++ (match other with
    | some (n, ip) => portLanes n ip
    | none => [])
  let m := ls.foldl (fun m k => m.poison k) (m.cutOwners (fun o => ls.contains o))
  let s := lost.foldl (fun (s : State) (e : Nat × Flit) => s.loseFlit r p e.2) (s.setMesh m)
  let s := match other with
    | some (n, ip) => back.foldl (fun (s : State) (e : Nat × Flit) => s.loseFlit n ip e.2) s
    | none => s
  s.recordLink r p

/-- An uncorrectable flit: it and those behind it are discarded and a replay is requested, or the link fails the third time
(R362, R363). -/
def State.hopUe (s : State) (r : Nat) (p : RPort) (k : Nat) : State :=
  let n := sget 0 s.mesh.ueCnt k
  match s.mesh.discardFrom k with
  | none => s
  | some (m, lost) =>
    if n ≥ 2 then (s.setMesh { m with ueCnt := sdel m.ueCnt k }).failLink r p lost
    else
      (s.setMesh { m with ueCnt := sput m.ueCnt k (n + 1), replay := sput m.replay (portKey r p 0) lost }).modFld
        (fieldOf r) (fun c => { c with hopRetry := satInc c.hopRetry 0xFFFFFFFF })

/-- HOP_REPLAY (R362): the sender resends from the failed flit onward, in the original order. -/
def State.hopReplay (s : State) (r : Nat) (p : RPort) : State :=
  let l := sget [] s.mesh.replay (portKey r p 0)
  let m := l.foldl (fun (m : Mesh) e =>
    { m with lanes := sput m.lanes e.1 (m.lane e.1 ++ [e.2]), sent := keepSent m.sent e.1 [e.2] }) s.mesh
  s.setMesh { m with replay := sdel m.replay (portKey r p 0) }

/-! ### Arbitration (R351, R352) -/

/-- A crossing into a field that has closed itself for a column map commit: no packet begins to cross (R592).
DESIGN CHOICE (log entry 62). -/
def State.shutAt (s : State) (r : Nat) (p : RPort) : Bool :=
  s.wdn.epM.contains (fieldOf r) && (crosses r p || p == .gate || p == .bridge)

/-- The output lane that a packet's head at router r asks for, when that lane is free, has a credit and is not in discard
state; none when the packet waits, or is dropped. -/
def State.headWants (s : State) (r : Nat) (p : RPort) (fl : Flit) : Option Nat :=
  let c := s.fld (fieldOf r)
  if s.shutAt r p || (p == .loc && !entryOk c.sealAct c.topo fl.h) then none
  else
    match nextHop c.topo r fl.h fl.back with
    | .here out =>
      let ok := laneKey r out fl.h.ch true
      if (!(p == .loc && out == .loc) && !exitOk c.sealAct c.topo fl.h) || s.portDead r out fl.h || shas s.mesh.owner ok
          || (fl.h.ch == 2 && out == .loc && !s.roomFor r fl.h) || !s.outRoom r out fl.h.ch then none
      else some ok
    | .link out b _ =>
      match neighbour r out with
      | none => none
      | some (n, ip) =>
        let kk := laneKey n ip fl.h.ch b
        if s.linkDead n ip || shas s.mesh.owner kk || !s.laneCredit kk then none else some kk

/-- The output lane that the front flit of input lane k is ready for: it has a credit there (R351). -/
def State.wants (s : State) (r k : Nat) : Option Nat :=
  match s.mesh.lane k with
  | [] => none
  | fl :: _ =>
    if shas s.mesh.sink k then none
    else if fl.isHead then s.headWants r (lanePort k) fl
    else
      match s.mesh.ownerOf k with
      | none => none
      | some (ok, _) =>
        if isLink (lanePort ok) then (if s.laneCredit ok then some ok else none)
        else if s.outRoom r (lanePort ok) fl.h.ch then some ok
        else none

/-- Output lane `ok` goes to input lane k now: no other ready (channel, lane) pair of the same output comes before it in
round-robin order (R351), and no other input port whose packet contends for the lane does (R352). DESIGN CHOICE (log entry 7). -/
def State.granted (s : State) (r k ok : Nat) : Bool :=
  let all := (List.range 96).filterMap (fun i => (s.wants r (96 * r + i)).map (fun o => (i, o)))
  let lastPair := sget 7 s.mesh.pairRr (dirOf ok)
  let lastPort := sget 23 s.mesh.portRr ok
  let inNo (i : Nat) : Nat := i / 8 * 2 + i % 2
  all.all (fun e =>
    (dirOf e.2 != dirOf ok || decide (rrDist 8 lastPair (ok % 8) ≤ rrDist 8 lastPair (e.2 % 8))) &&
      (e.2 != ok || decide (rrDist 24 lastPort (inNo (k % 96)) ≤ rrDist 24 lastPort (inNo (e.1)))))

/-- The grant is recorded. -/
def Mesh.grantTo (m : Mesh) (k ok : Nat) (head : Bool) : Mesh :=
  { m with pairRr := sput m.pairRr (dirOf ok) (ok % 8),
           portRr := if head then sput m.portRr ok (k % 96 / 8 * 2 + k % 2) else m.portRr }

/-- An answer that a router or a port makes while a flit moves finds a C1 credit there: every attachment port of router r
whose C1 line has grown had one (R85). -/
def State.answersFit (s u : State) (r : Nat) : Bool :=
  [RPort.loc, .ctl, .gate, .bridge].all (fun p =>
    s.canInject r p 1 || (decide ((u.mesh.queued r p 1).length ≤ (s.mesh.queued r p 1).length)
      && decide ((u.mesh.lane (laneKey r p 1 false)).length ≤ (s.mesh.lane (laneKey r p 1 false)).length)))

/-- ROUTER_FORWARD (R355, R361): the router takes the front flit of an input lane and forwards it when its output has
room and grants it; flits behind a replay request wait for the replay. DESIGN CHOICE (log entries 6, 7). -/
def State.forward (s : State) (r : Nat) (p : RPort) (ch : Nat) (b : Bool) (e : FlitErr) : State :=
  let k := laneKey r p ch b
  match s.mesh.lane k with
  | [] => s
  | fl :: _ =>
    if (s.fld (fieldOf r)).rst then s
    else if s.shutAt r p && fl.isHead then s
    else if isChecked p && e == .ue then s.hopUe r p k
    else
      let out := s.wants r k
      if out.any (fun ok => !s.granted r k ok) then s
      else
        match s.moveFlit r k p fl with
        | none => s
        | some u =>
          if !s.answersFit u r then s
          else
            let u := match out with
              | some ok => u.setMesh (u.mesh.grantTo k ok fl.isHead)
              | none => u
            if isChecked p && e == .ce then
              u.modFld (fieldOf r) (fun c => { c with hopCe := satInc c.hopCe 0xFFFFFFFF })
            else u

/-! ### Credits -/

/-- When no flit waits any longer at a local port on a channel, the packet begun there has left whole: the core's posted
instruction completes (R379), and a stream's packet is injected (R296). -/
def State.sendDone (s : State) (r : Nat) (p : RPort) (ch : Nat) : State :=
  if p = .loc ∧ (s.mesh.queued r .loc ch).isEmpty then
    let s := if ch = 0 then s.modTile r (fun t => { t with sendU := none }) else s
    match (s.tile r).sendCh with
    | some (c, npc) => if c = ch then s.complete r npc else s
    | none => s
  else s

/-- A credit of lane k returns (R81, R85), and a flit that waits at an attachment port takes it; an uncorrectable return
stops the lane and is reported (R365). -/
def State.creditBack (s : State) (r : Nat) (p : RPort) (ch k : Nat) (ue : Bool) : State :=
  if sget 0 s.mesh.retn k = 0 then s
  else
    let m := { s.mesh with retn := sput s.mesh.retn k (sget 0 s.mesh.retn k - 1) }
    if ue && isChecked p then (s.setMesh { m with stopped := sput m.stopped k true }).recordLink r p
    else
      let m := { m with used := sput m.used k (sget 0 m.used k - 1) }
      if isLink p then s.setMesh m else (s.setMesh (m.feed r p ch [])).sendDone r p ch

/-- CREDIT_RETURN at a tile's port also lets a waiting arrival leave (R250, R398). -/
def State.creditReturn (s : State) (r : Nat) (p : RPort) (ch : Nat) (b ue : Bool) : State :=
  let s := s.creditBack r p ch (laneKey r p ch b) ue
  if p = .loc ∧ ch = 3 then s.sendArrivals r arriveFuel else s

/-! ### Reset of a field (R86, R87, R579) -/

/-- A flit in the queue of a crossing into field f, or waiting to enter it, belongs to the surviving side (R86, R577). The
field's own FLD_XDROP is in reset, so a gate or a Rim die counts it nowhere. -/
def State.crossDrop (s : State) (f k : Nat) (fl : Flit) : State :=
  let r := laneRouter k
  if fieldOf r ≠ f then s
  else
    match lanePort k with
    | .gate => s.undeliverAt r .gate fl
    | .bridge => s.undeliverAt r .bridge fl
    | _ =>
      match laneFrom k with
      | none => s
      | some n => if fieldOf n = f ∨ (s.fld (fieldOf n)).rst then s else (s.xdropOne (fieldOf n)).undeliver n fl

/-- The flits of a mesh that lie in input lanes, wait for a replay, or wait at attachment ports, each with its lane. -/
def Mesh.flitsByLane (m : Mesh) : List (Nat × Flit) :=
  m.lanes.flatMap (fun e => e.2.map (fun fl => (e.1, fl))) ++ m.replay.flatMap (fun e => e.2)
    ++ m.entry.flatMap (fun e => e.2.map (fun fl => (2 * e.1, fl)))

/-- Lane k lies in field f, or is fed from it across a boundary. -/
def laneOf (f k : Nat) : Bool :=
  fieldOf (laneRouter k) == f || (match laneFrom k with
    | some n => fieldOf n == f
    | none => false)

/-- A failure of lane k that a reset of field f ends: a mesh link with both ends in f. One of a Hatch link or of a link
that crosses a field boundary waits for a PLATE or wider reset (R607). DEDUCED (log entry 40). -/
def clearsWith (f k : Nat) : Bool :=
  laneOf f k && !(crosses (laneRouter k) (lanePort k) || lanePort k == .hn || lanePort k == .he || lanePort k == .hs
    || lanePort k == .hw)

/-- The mesh with every router of field f reset: what lay inside is lost (R579), packets that had begun to cross out of
it are closed with POISON, and both sides of its crossings hold full credit (R86, R87). -/
def Mesh.clearField (m : Mesh) (f : Nat) : Mesh :=
  let inF (k : Nat) : Bool := fieldOf (laneRouter k) == f
  let fed := (m.lanes.map (·.1) ++ m.owner.map (·.2.1) ++ m.sink.map (·.1)).filter (fun k => laneOf f k && !inF k)
  let m := m.cutOwners (fun o => inF o && isLink (lanePort o))
  let m := fed.foldl (fun m k => m.poison k) m
  let inP (k : Nat) : Bool := fieldOf (k / 48) == f
  let keepBox (k : Nat) : Bool := !inP k || (k / 4 % 12 == 10 || k / 4 % 12 == 11)
  let linkOf (k : Nat) : Bool := laneOf f (k * 2)
  { lanes := m.lanes.filter (fun e => !inF e.1), used := m.used.filter (fun e => !laneOf f e.1),
    retn := m.retn.filter (fun e => !laneOf f e.1), entry := m.entry.filter (fun e => !inP e.1),
    sent := m.sent.filter (fun e => !linkOf e.1), pairRr := m.pairRr.filter (fun e => !inP e.1),
    portRr := m.portRr.filter (fun e => !inF e.1), owner := m.owner.filter (fun e => !inF e.1),
    sink := m.sink.filter (fun e => !inF e.1), asm := m.asm.filter (fun e => !inF e.1),
    inbox := m.inbox.filter (fun e => keepBox e.1), replay := m.replay.filter (fun e => !linkOf e.1),
    ueCnt := m.ueCnt.filter (fun e => !laneOf f e.1), failed := m.failed.filter (fun e => !clearsWith f (e.1 * 2)),
    stopped := m.stopped.filter (fun e => !clearsWith f e.1) }

/-- Field f enters reset: its crossings go into discard state and what lies inside is lost. -/
def State.meshReset (s : State) (f : Nat) : State :=
  let q := s.mesh.flitsByLane
  let s := s.setMesh (s.mesh.clearField f)
  q.foldl (fun s e => s.crossDrop f e.1 e.2) s

/-- Both sides of every crossing of field f set their credit counters to full depth (R87). -/
def Mesh.fullCredit (m : Mesh) (f : Nat) : Mesh :=
  { m with used := m.used.filter (fun e => !laneOf f e.1), retn := m.retn.filter (fun e => !laneOf f e.1) }

/-- No flit lies in a router of field f; the queues of its crossings lie outside (R592, R579).
DEDUCED (log entry 29). DESIGN CHOICE (log entry 62). -/
def State.drained (s : State) (f : Nat) : Bool :=
  s.mesh.flitsByLane.all (fun e =>
    fieldOf (laneRouter e.1) != f || (match laneFrom e.1 with
      | some n => fieldOf n != f
      | none => lanePort e.1 == .gate || lanePort e.1 == .bridge))

end Sys2Proof.Machine
end

