-- ==== Sys2Proof/Machine/Targets.lean ====
section
/-! DEFINITION. Packets that a tile answers (R347, R348, R382 to R385, R177): memory, control, full/empty and queues. -/

namespace Sys2Proof.Machine

/-- A tile takes the front packet of opcode `op`; in TILE reset its port answers TARGET_RESET (R146). -/
def State.tileServe (s : State) (r ch op : Nat) (go : Packet → State → State) : State :=
  s.take r .loc ch op (fun q s => if (s.tile r).rst then s.reply r .loc true q 2 0#32 else go q s)

/-- The party of a request at tile r: the tile itself when it names itself (R202), else Table 12.1. -/
def State.partyAt (s : State) (r : Nat) (h : Hdr) : Party :=
  let topo := (s.fld (fieldOf r)).topo
  if !h.srckind && isOwn topo h.splate && routerOf h.sy h.sx == r then .tileSelf else srcParty topo h

/-- Word offset of a short request (Table 9.4). -/
def Hdr.wordOff (h : Hdr) : Nat := bits h.payload 26 0

/-- RD_MEM. -/
def State.takeRdMem (s : State) (r : Nat) : State :=
  s.tileServe r 0 0x01 (fun q s =>
    match (s.tile r).rdWord q.h.wordOff with
    | (t, some w) => (s.setTile r t).reply r .loc false q 0 w
    | (t, none) => (s.setTile r t).reply r .loc false q 3 0#32)

/-- RD_CTL (R61). -/
def State.takeRdCtl (s : State) (r : Nat) : State :=
  s.tileServe r 0 0x02 (fun q s =>
    match (s.tile r).ctlRead r (s.partyAt r q.h) (4 * q.h.wordOff) with
    | (t, w) => (s.setTile r t).reply r .loc false q 0 w)

/-- WR_MEM (R347, R409). -/
def State.takeWrMem (s : State) (r : Nat) : State :=
  s.tileServe r 0 0x08 (fun q s =>
    (s.modTile r (fun t => t.wrWords (q.h.off / 4) q.ws)).reply r .loc false q 0 0#32)

/-- WR_CTL (R202, R409). -/
def State.takeWrCtl (s : State) (r : Nat) : State :=
  s.tileServe r 0 0x09 (fun q s =>
    let p := s.partyAt r q.h
    (s.modTile r (fun t => t.ctlWrite p q.h.off (q.word 0))).reply r .loc false q 0 0#32)

/-- WR_H and WR_B: the bytes lie in their lanes of word 0 (Table 9.4, R182). -/
def State.takeWrSub (s : State) (r op size : Nat) : State :=
  s.tileServe r 0 op (fun q s =>
    let v : W32 := BitVec.ofNat 32 ((q.word 0).toNat >>> (8 * (q.h.off % 4)))
    match (s.tile r).wrSub q.h.off size v with
    | (t, true) => (s.setTile r t).reply r .loc false q 0 0#32
    | (t, false) => (s.setTile r t).reply r .loc false q 3 0#32)

/-- Parked operations of a tile (R383). -/
def Tile.parked (t : Tile) : Nat := (t.waiters.filter (fun w => !isCoreW w)).length

/-- A request whose condition does not hold is parked, or answered NAK with no free slot (R383, R384). -/
def State.park (s : State) (r : Nat) (q : Packet) (st : Bool) (n : Nat) (v : W32) : State :=
  let t := s.tile r
  if t.parked < 4 then s.setTile r { t with waiters := t.waiters ++ [.parked st n v q.h q.back q.gen] }
  else s.reply r .loc false q 1 0#32

/-- FE_LD (R382 to R385). -/
def State.takeFeLd (s : State) (r : Nat) : State :=
  s.tileServe r 0 opFeLd (fun q s =>
    let n := q.h.wordOff
    match (s.tile r).rdWord n with
    | (t, none) => (s.setTile r t).reply r .loc false q 3 0#32
    | (t, some w) =>
      let s := s.setTile r t
      if t.isFull n then
        ((s.setTile r (t.setFull n false)).reply r .loc false q 0 w).serveWaiters r n waiterFuel
      else s.park r q false n 0#32)

/-- FE_ST (R382 to R385). DEDUCED (log entry 45). -/
def State.takeFeSt (s : State) (r : Nat) : State :=
  s.tileServe r 0 opFeSt (fun q s =>
    let n := q.h.off / 4
    match (s.tile r).rdWord n with
    | (t, none) => (s.setTile r t).reply r .loc false q 3 0#32
    | (t, some _) =>
      let s := s.setTile r t
      if t.isFull n then s.park r q true n (q.word 0)
      else
        ((s.setTile r ((t.wrWord n (q.word 0)).setFull n true)).reply r .loc false q 0 0#32).serveWaiters r n waiterFuel)

/-- QMSG: the words enter the queue whole once it has room (R177, R376). -/
def State.takeQmsg (s : State) (r : Nat) : State :=
  match s.front r .loc 2 with
  | some q =>
    let t := s.tile r
    let n := q.h.off % 4
    if q.h.op = opQmsg ∧ !t.rst ∧ (t.queue n).length + q.ws.length > t.qdepth then s
    else
      s.tileServe r 2 opQmsg (fun q s =>
        (s.modTile r (fun t => t.setQ n (t.queue n ++ q.ws.map (fun w => { v := w })))).reply r .loc false q 0 0#32)
  | none => s

end Sys2Proof.Machine
end

