-- ==== Sys2Proof/Machine/Reset.lean ====
section
/-! DEFINITION. Reset classes, release order, field and tile sequences, dead fields, the column state (chapters 2, 4). -/

namespace Sys2Proof.Machine

/-! ### The column state (R46 to R49) -/

/-- COLSTATE of a part with the default spares 24, 49, 74 and 99 and nothing retired (2.2). DESIGN CHOICE (log entry 4). -/
def defaultCols : List W32 := [0#32, 0x00010000#32, 0#32, 0x00000004#32, 0x00100000#32, 0#32, 0x00000040#32]

/-- Columns of a COLSTATE in a given state. -/
def colCount (ws : List W32) (code : Nat) : Nat := (idxs 100 (fun p => colCode ws p == code)).length

/-- Word 7 of a field record over words 0 to 6 (Table 2.3). -/
def etchTail (ws : List W32) : W32 :=
  let lo := colCount ws 2 + 256 * colCount ws 1
  BitVec.ofNat 32 (crc16 (ofWords (ws.take 7) ++ natLe 2 lo) * 65536 + lo)

def defaultRecord : List W32 := defaultCols ++ [etchTail defaultCols]

/-- The eight words of a field's Etch map record (Table 2.3). -/
def State.etchRec (s : State) (f : Nat) : List W32 := sget defaultRecord s.etch f

/-- R43: a field record is valid. -/
def etchValid (ws : List W32) : Bool :=
  let w7 := ws.getD 7 0#32
  decide (bits w7 31 16 = crc16 (ofWords (ws.take 7) ++ natLe 2 (bits w7 15 0))) && decide (bits (ws.getD 6 0#32) 31 8 = 0)
    && colCount ws 3 == 0 && colCount ws 0 == 96 && colCount ws 2 == bits w7 7 0 && colCount ws 1 == bits w7 15 8

/-- Set the state code of a physical column. -/
def setCol (ws : List W32) (p code : Nat) : List W32 :=
  lset ws (p / 16) (setBits (ws.getD (p / 16) 0#32) (2 * (p % 16) + 1) (2 * (p % 16)) code)

/-- What slot n of field f's region says: the record of a copy whose CRC matches, erased, or unreadable (R48, R49). -/
def Warden.slot (w : Warden) (f n : Nat) : LogSlot :=
  match sget .erased w.logA (4 * f + n), sget .erased w.logB (4 * f + n) with
  | .ok r, _ => .ok r
  | _, .ok r => .ok r
  | .erased, .erased => .erased
  | _, _ => .bad

/-- R48, R595: apply a region's records in slot order; the flag tells that the state is invalid or a slot unreadable. A
record that names another field, or no physical column, is one of R48's "any other record". -/
def applyLog (w : Warden) (f : Nat) : Nat → Nat → List W32 → List W32 × Bool
  | 0, _, ws => (ws, false)
  | k + 1, n, ws =>
    match w.slot f n with
    | .erased => (ws, false)
    | .bad => (ws, true)
    | .ok r =>
      if r.f ≠ f ∨ 100 ≤ r.p ∨ 100 ≤ r.s then (ws, true)
      else if colCode ws r.p = 2 then applyLog w f k (n + 1) ws
      else if colCode ws r.p = 0 ∧ colCode ws r.s = 1 then applyLog w f k (n + 1) (setCol (setCol ws r.p 2) r.s 0)
      else (ws, true)

/-- The Warden's column state of field f: the Etch map where it keeps none of its own. -/
def State.colState (s : State) (f : Nat) : List W32 := sget ((s.etchRec f).take 7) s.wdn.colSt f

/-- The column state built anew (R46): fields that differ from the Etch map, and those whose rebuild failed. -/
def State.buildCols (s : State) : State :=
  let one (w : Warden) (f : Nat) : Warden :=
    match applyLog w f 4 0 ((s.etchRec f).take 7) with
    | (ws, bad) =>
      { w with colSt := if ws = (s.etchRec f).take 7 then w.colSt else sput w.colSt f ws,
               colBad := setBit w.colBad f bad }
  s.modWdn (fun w => (List.range 64).foldl one { w with colSt := [], colBad := 0#64 })

/-! ### Completions and answers of the Warden -/

/-- A completion goes to the host. -/
def Warden.complete (w : Warden) (c : Cpl) : Warden := { w with cpl := w.cpl ++ [c] }

/-- A window read ends with Completer Abort and a bit of WDN_HOST_STAT: 0 RDTO, 1 ERR (R504). -/
def Warden.windowError (w : Warden) (b : Nat) : Warden :=
  { w with hostStat := setBit w.hostStat b true, cpl := w.cpl ++ [.abort] }

/-- Later answers to a window's read are discarded (R504). -/
def Warden.dropReads (w : Warden) (n : Nat) : Warden :=
  { w with hostRd := sdel w.hostRd n,
           req := w.req.map (fun e => if e.2.win = some n then (e.1, { e.2 with rd := false }) else e) }

/-- The last words read, as the model shows them to the sender of a command. -/
def rdataOf (ws : List W32) : W64 := BitVec.ofNat 64 ((ws.getD 0 0#32).toNat + (ws.getD 1 0#32).toNat * 2 ^ 32)

/-- An answer to an injection of field f under tag t (R504, R510). -/
def State.meshAnswer (s : State) (f t st : Nat) (v : W32) : State :=
  let w := s.wdn
  match w.req.find? (fun e => e.1 == 64 * f + t) with
  | none => s
  | some (k, e) =>
    let w := { w with req := sdel w.req k }
    match e.win with
    | none =>
      { s with wdn := { w with fwAns := w.fwAns ++ [(st, v)] }, rdata := rdataOf [v] }
    | some n =>
      if !e.rd then s.setWdn w
      else if st ≠ 0 then s.setWdn ((w.dropReads n).windowError 1)
      else
        let r := sget ({ words := 1 } : HostRd) w.hostRd n
        let got := sput r.got e.word v
        if got.length < r.words then s.setWdn { w with hostRd := sput w.hostRd n { r with got := got } }
        else
          let ws := got.map (·.2)
          { s with wdn := { w with hostRd := sdel w.hostRd n }.complete (.data ws), rdata := rdataOf ws }

/-- A MESH command that cannot use its link any more is answered UNDELIVERED (R512). -/
def State.meshLost (s : State) (f : Nat) : StyCmd → State
  | .mesh q => s.meshAnswer f q.h.tag 6 0#32
  | _ => s

/-! ### Stylus queues (R510) -/

/-- Urgent commands of Table 12.10. -/
def StyCmd.urgent : StyCmd → Bool
  | .rstF | .rstT .. | .ceil | .event _ => true
  | _ => false

/-- The next command of a queue of the urgent, or of the other kind: each kind is delivered in its own order, since the
reserved entries let urgent commands pass the others. DEDUCED (log entry 36). -/
def styNext (q : List StyCmd) (urgent : Bool) : Option StyCmd := q.find? (fun c => c.urgent == urgent)

/-- The queue without its next command of that kind. -/
def styPop (urgent : Bool) : List StyCmd → List StyCmd
  | [] => []
  | c :: q => if c.urgent == urgent then q else c :: styPop urgent q

/-- Commands that are not urgent: at most 6 of them wait (R510). -/
def styPlain (q : List StyCmd) : Nat := (q.filter (fun c => !c.urgent)).length

/-- The Warden sends a field its ceiling (R105, R107). One CEIL at a time waits on a link, and it carries the ceiling as it is
when it is delivered: DESIGN CHOICE (log entry 36). -/
def Field.pushCeil (c : Field) : Field := if c.down.contains .ceil then c else { c with down := c.down ++ [.ceil] }

/-- Set a field's unavailable bit (R155). -/
def Warden.setUnav (w : Warden) (f : Nat) : Warden := { w with unav := setBit w.unav f true }

/-! ### What a class clears (Table 4.2) -/

/-- A tile after a TILE reset: memory words, full/empty bits and their check status stay (R124); the rest is cleared.
DESIGN CHOICE (log entry 16). -/
def Tile.tileReset (t : Tile) (seen : Nat) : Tile :=
  { mem := t.mem, full := t.full, upset := t.upset, gen := t.gen + 1, relSeen := seen }

/-- Every stored tile of the fields that `p` picks enters reset; its memory is initialised later (Table 4.5, step 2). -/
def resetTiles (ts : Sparse Tile) (p : Nat → Bool) : Sparse Tile :=
  ts.map (fun e => if p (e.1 / 9600) then (e.1, e.2.tileReset 0) else e)

/-- Memory of a tile initialised (R123): every word zero, empty, with a valid check. -/
def Tile.memInit (t : Tile) : Tile := { t with mem := [], full := [], upset := [] }

/-- Step 2 of Table 4.5 in field f under its column map: the tiles of IN_USE and SPARE columns (R123). -/
def initTiles (ts : Sparse Tile) (f : Nat) (map : List W32) : Sparse Tile :=
  ts.map (fun e => if e.1 / 9600 = f ∧ colCode map (e.1 % 100) ≠ 2 then (e.1, e.2.memInit) else e)

/-- A field controller as a FIELD reset asserts it (Table 4.2, R51, R108, R367, R391, R426). -/
def Field.assertReset (c : Field) (sku : Nat) : Field :=
  { Field.init sku with
    clkCeil := c.clkCeil, src := c.src, lock := c.lock, colmap := c.colmap, colmapSh := c.colmapSh, topo := c.topo,
    sealAct := c.sealAct, sealSh := c.sealSh, barRoot := c.barRoot, ecnt := c.ecnt, colref := c.colref,
    coldone := c.coldone, sealdone := c.sealdone, down := c.down }

/-- Reset asserted in field f: crossings in discard state, what lies inside lost, registers and tiles cleared
(Table 4.6 step 2, R579). -/
def State.fieldAssert (s : State) (f : Nat) : State :=
  let s := s.meshReset f
  let s := s.modFld f (·.assertReset s.sku)
  let s := { s with
    tiles := resetTiles s.tiles (· == f),
    epochQ := s.epochQ.filter (fun e => e.f != f),
    wdn := { s.wdn with ep := s.wdn.ep.map (fun e => if e.f = f then { e with lost := true } else e) } }
  if hasGate f then s.modPrs (clusterOfField f) (fun c => { c with relSeen := 0 }) else s

/-- A command that step 1 of Table 4.5 takes: the column map and the topology copy (R50, R426). -/
def StyCmd.step1 : StyCmd → Bool
  | .colmap | .topo _ => true
  | _ => false

/-- The topology copy after the TOPO commands of a queue, oldest first (R426). -/
def topoAfter (t : W32) : List StyCmd → W32
  | [] => t
  | .topo v :: l => topoAfter v l
  | _ :: l => topoAfter t l

/-- Step 1 of Table 4.5 when the controller was released in a wave (R50, R426); steps 2 and 3: memory initialised under
the column map, crossings at full credit and out of discard state (R123, R87). DEDUCED (log entry 44). -/
def State.fieldSequence (s : State) (f : Nat) : State :=
  let ws := s.colState f
  let s := s.modFld f (fun c =>
    { c with seqDone := true,
             colmap := if c.down.contains .colmap then ws else c.colmap,
             colmapSh := if c.down.contains .colmap then ws else c.colmapSh,
             topo := topoAfter c.topo c.down,
             down := c.down.filter (fun q => !q.step1) })
  { s with tiles := initTiles s.tiles f (s.fld f).colmap, mesh := s.mesh.fullCredit f }

/-- A field is declared dead (R154, R155, R579): bit set, held in reset, regulator disabled, commands on its link gone, a MESH
among them answered UNDELIVERED (R512); a command in progress there ends with CMDFAIL (Table 4.13); its Press cluster is held
in reset (R138). -/
def State.declareDead (s : State) (f : Nat) : State :=
  if bit s.wdn.dead f then s
  else
    let s := s.fieldAssert f
    let lost := (s.fld f).down
    let s := s.modFld f (fun c => { c with down := [], up := [] })
    let s := lost.foldl (fun s q => s.meshLost f q) s
    let hit : Bool := match s.wdn.cmd with
      | some (.field g) => g == f
      | some (.tile r) => fieldOf r == f
      | none => false
    let s := s.modWdn (fun w =>
      { w with dead := setBit w.dead f true, reg := setBit w.reg f false, unav := setBit w.unav f true, epF := w.epF.filter (· != f),
               epM := w.epM.filter (· != f),
               styUp := setBit w.styUp f false, cmd := if hit then none else w.cmd, cmdFail := w.cmdFail || hit })
    if hasGate f then s.setPrs (clusterOfField f) {} else s

/-! ### The four wide classes -/

def RCls.rank : RCls → Nat
  | .por => 0 | .tray => 1 | .zero => 2 | .plate => 3

/-- WDN_RST_CAUSE bit of a class (Table 4.14). -/
def RCls.bit : RCls → Nat
  | .por => 0 | .tray => 1 | .zero => 2 | .plate => 3

/-- The Warden after the start of a class (Table 4.2 and the Cleared by columns of Tables 4.3 to 4.14, 12.11, 15.3). A class
that clears FLD_CLK_CEIL sets the governor's copies of R108 anew, to 0 while ALERT is 1 (R107) and else to the SKU ceiling
that the registers reset to: DESIGN CHOICE (log entry 35), for R108 speaks of FIELD alone. -/
def Warden.wideReset (w : Warden) (sku : Nat) (c : RCls) : Warden :=
  let por := c == .por
  let tray := por || c == .tray
  let zero := c != .plate
  { cls := c, asserted := true, zeroHold := c == .zero, zeroWin := w.zeroWin || c == .zero, stage := if zero then 1 else 3,
    cause := if por then 1#32 else setBit w.cause c.bit true,
    gap := if tray then [] else w.gap,
    keep := if por then [] else w.keep,
    ground := if por || c == .zero then [] else w.ground,
    bad := w.bad.filter (fun e => !(zero && !(0x40000 ≤ e.1 && e.1 < 0x42000)) && !((por || c == .zero) && (0x40000 ≤ e.1 && e.1 < 0x42000))),
    trayLow := w.trayLow, supply := w.supply, refOk := w.refOk, alertPin := w.alertPin,
    coresUp := if zero then false else w.coresUp, periphUp := if zero then false else w.periphUp,
    lstep := if zero then false else w.lstep, booted := if zero then false else w.booted,
    bootSrc := if por || c == .zero then false else w.bootSrc,
    bootFrom := if zero then false else w.bootFrom,
    tap := if por then {} else w.tap, dynAddr := if por then none else w.dynAddr, rrSty := w.rrSty,
    pwrCap := if tray then Config.skuCap sku else w.pwrCap, headroom := if tray then 0x0D else w.headroom,
    alert := if tray then w.alertPin else w.alert, overCap := if tray then false else w.overCap,
    pkgW := w.pkgW, fldW := w.fldW, rimW := w.rimW, prsW := w.prsW, overRep := w.overRep,
    ceil := if (if tray then w.alertPin else w.alert) then (List.range 64).map (fun f => (f, 0)) else [],
    rrNext := w.rrNext, colSt := w.colSt, colBad := w.colBad, logA := w.logA, logB := w.logB,
    sram := if zero then [] else w.sram,
    err := if zero then 0#32 else w.err, errAddr := if zero then 0#32 else w.errAddr,
    hdb := if zero then 0#32 else w.hdb, hostStat := if tray then 0#32 else w.hostStat,
    hwin := if zero then [] else w.hwin, hwkey := if zero then [] else w.hwkey,
    styUp := if zero then 0#64 else w.styUp,
    cpl := w.cpl, msix := w.msix, msixTab := if tray then [] else w.msixTab, ibi := if zero then [] else w.ibi,
    ready := if zero then false else w.ready, hb := if zero then 0 else w.hb,
    bootSel := if zero then none else w.bootSel, imgs := w.imgs, chk := if zero then (0, 0xFF) else w.chk,
    topoRec := if zero then none else w.topoRec, mgmtIn := if zero then [] else w.mgmtIn,
    fwFrames := if zero then [] else w.fwFrames, i3c := w.i3c, nack := w.nack }

/-- Warden firmware runs: the boot ROM is done, the lockstep pair has not stopped (R500, R502) and has its clock (R134).
DESIGN CHOICE (log entry 65). -/
def Warden.fwRuns (w : Warden) : Bool := w.booted && !w.lstep && w.refOk

/-- The unit of `State.press` that holds the management pair and its SRAM (R500). -/
def mgmtUnit : Nat := 16

/-- A wide class starts (R115, R118, R121, R122): the Plate's fields, tiles, routers, Rim dies and Press clusters, and
the Warden's own registers and, but for PLATE, its management cores. The island's entry into SELFTEST is a state change that it reports (R547). -/
def State.wideReset (s : State) (c : RCls) : State :=
  { s with fields := [], tiles := resetTiles s.tiles (fun _ => true), mesh := {}, rims := [],
           press := if c = .plate then s.press.filter (fun e => e.1 == mgmtUnit) else [], epochQ := [],
           time := 0#64,
           wdn := if c = .plate ∨ s.island.st = .selftest ∨ s.island.st = .zeroizing then s.wdn.wideReset s.sku c
                  else (s.wdn.wideReset s.sku c).pushIbi 0x02 0,
           island := if c = .plate then s.island else s.island.reset (c == .zero),
           proof := if c = .plate then s.proof else {} }

/-- A class governs when no wider one is asserted or being released (R118). -/
def Warden.governs (w : Warden) (c : RCls) : Bool :=
  !(w.asserted || w.stage != 0) || decide (c.rank ≤ w.cls.rank)

/-- A class that starts under a wider one adds only its bit in WDN_RST_CAUSE (R118, R156), which POR holds at its reset value, and a
ZERO the erasure of Ground and the window of R120 (R119). DEDUCED (log entry 63). -/
def State.startGoverned (s : State) (c : RCls) : State :=
  s.modWdn (fun w =>
    { w with
      cause := if w.asserted && w.cls == .por then w.cause else setBit w.cause c.bit true,
      zeroWin := w.zeroWin || c == .zero,
      zeroHold := w.zeroHold || c == .zero,
      ground := if c == .zero then [] else w.ground,
      bad := if c == .zero then w.bad.filter (fun e => !(0x40000 ≤ e.1 && e.1 < 0x42000)) else w.bad })

/-- ZERO starts (R114, R566). It resets the domains that Table 4.1 names for it. Under a wider class whose release is
running that class goes on governing: its release begins again from stage 1 when the erasure is reported (R118, Table 14.11).
Under a wider class that is still asserted it erases alone. DEDUCED (log entry 63). -/
def State.zeroStart (s : State) : State :=
  if s.wdn.governs .zero then s.wideReset .zero
  else if s.wdn.asserted then s.startGoverned .zero
  else
    let c := s.wdn.cls
    (s.wideReset .zero).modWdn (fun w => { w with cls := c })

/-- The source of the governing class is released: its release order begins (R135), on a column state built anew (R46). -/
def State.releaseBegin (s : State) : State :=
  (s.modWdn (fun w => { w with asserted := false, zeroHold := false })).buildCols

/-! ### Release order (4.5) -/

/-- Every PLL has locked or its domain was left on the reference (stage 3b). -/
def State.pllsDone (s : State) : Bool :=
  (List.range 64).all (fun f => (s.fld f).lock || (s.fld f).src || bit s.wdn.dead f) &&
    (List.range 4).all (fun d => (s.rim d).pll || (s.rim d).pllDown) &&
    (List.range 16).all (fun c => (s.prs c).pll || (s.prs c).pllDown)

/-- WDN_RST_STAT.STAGE (Table 4.13). -/
def State.stageNow (s : State) : Nat :=
  let w := s.wdn
  if w.stage = 3 ∧ w.clkOn ∧ s.pllsDone then 4 else w.stage
def Warden.waitGo (w : Warden) : Bool := w.stage == 5 && !w.go

/-- RESET_STAGE_ADVANCE (Table 4.4). The boot ROM reads WDN_BOOT.SRC when the cores are released (R502). -/
def State.stageAdvance (s : State) : State :=
  let w := s.wdn
  if w.asserted || !w.refOk then s
  else
    match w.stage with
    | 1 => s.setWdn { w with stage := 2, coresUp := true, bootFrom := w.bootSrc }
    | 2 => s.setWdn { w with stage := 3, periphUp := true, zeroWin := false, styUp := ~~~w.dead }
    | 3 =>
      if !w.clkOn then s.setWdn { w with clkOn := true, reg := ~~~w.dead }
      else if s.pllsDone then
        let s := (List.range 4).foldl (fun s d => if (s.rim d).pllDown then s else s.modRim d (fun x => { x with rst := false })) s
        s.setWdn { w with stage := 5, rstOut := false }
      else s
    | 6 => s.setWdn { w with stage := 7 }
    | 7 =>
      let s := (List.range 16).foldl (fun s c =>
        if (s.prs c).pllDown || bit w.dead (fieldOfCluster c) then s else s.modPrs c (fun x => { x with rst := false })) s
      s.setWdn { w with stage := 0 }
    | _ => s

/-- The fields of wave w (R137). -/
def waveFields (w : Nat) : List Nat := (List.range 64).filter (fun f => (f % 8 + f / 8) % 8 == w)

/-- The topology the Warden sends to a field controller that is released (R426). -/
def State.topoNow (s : State) : W32 := (s.rim 0).topo

/-- A field controller released in a wave (R137): the column map and the topology copy are on their way.
DEDUCED (log entry 44). -/
def State.waveOne (s : State) (f : Nat) : State :=
  if bit s.wdn.dead f then s
  else
    let t := s.topoNow
    s.modFld f (fun c => { c with rst := false, down := c.down ++ .colmap :: (if t = 0#32 then [] else [.topo t]) })

/-- FIELD_WAVE_RELEASE (R137, R150). -/
def State.waveRelease (s : State) : State :=
  let w := s.wdn
  if w.asserted || !w.refOk || w.stage != 5 || !w.go || decide (w.wave > 7) then s
  else if w.wave > 0 ∧ !(waveFields (w.wave - 1)).all (fun f => bit w.dead f || (s.fld f).seqDone) then s
  else
    ((waveFields w.wave).foldl State.waveOne s).modWdn (fun w =>
      { w with wave := w.wave + 1, stage := if w.wave = 7 then 6 else 5 })

/-- TILE_SUBWAVE_RELEASE (R140 to R143, Tables 4.5 and 4.6): in a FIELD reset the first row releases the controller (Table
4.6, step 4), with the topology copy as it is now (R426); then steps 1 to 3 are completed, with the first sub-wave; then the next sub-wave. The last one starts the move
to the effective point (R93, R108). DEDUCED (log entry 44). -/
def State.subwave (s : State) (f : Nat) : State :=
  let c := s.fld f
  let again : Bool := s.wdn.cmd == some (.field f) && !c.down.contains .rstF
  if bit s.wdn.dead f || s.wdn.asserted || (c.rst && !again) then s
  else if c.rst then s.modFld f (fun c => { c with rst := false, topo := s.topoNow })
  else
    let s := if c.seqDone then s else s.fieldSequence f
    let c := s.fld f
    if c.src || decide (c.subwave ≥ 4) then s
    else
      s.modFld f (fun c =>
        let c := { c with subwave := c.subwave + 1 }
        if c.subwave = 4 then
          Field.clkUpdate s.sku { c with tracking := true, clkCeil := sget (Config.skuCeil s.sku) s.wdn.ceil f }
        else c)

/-- COLMAP (R50): the command loads the column map; with it, and with the topology copy that comes beside it (R426), steps
1 to 3 of Table 4.5 are complete. DESIGN CHOICE (log entry 51). -/
def State.takeColmap (s : State) (f : Nat) : State :=
  let c := s.fld f
  if !c.rst && styNext c.down false == some .colmap then s.fieldSequence f else s

/-- STYLUS_TOPO (R426). DESIGN CHOICE (log entry 51). -/
def State.takeTopo (s : State) (f : Nat) : State :=
  match styNext (s.fld f).down false with
  | some (.topo v) => s.modFld f (fun c => { c with topo := v, down := styPop false c.down })
  | _ => s

/-! ### FIELD and TILE resets (R116, R117, R144 to R147) -/

/-- Writers of WDN_RST_FIELD and WDN_RST_TILE (R116). -/
def rstWriter : Party → Bool
  | .wardenFw | .pressM => true
  | _ => false

def Warden.refuse (w : Warden) : Warden := { w with rstRef := true }
def State.wdnRefuse (s : State) : State := s.modWdn (·.refuse)

/-- A wider class is asserted or being released (R118). DEDUCED (log entry 42). -/
def Warden.releasing (w : Warden) : Bool := w.asserted || w.stage != 0

/-- FIELD_RESET: a write of WDN_RST_FIELD (R116, R117, R147). DEDUCED (log entry 42). -/
def State.wrRstField (s : State) (p : Party) (v : W32) : State :=
  let f := bits v 5 0
  let w := s.wdn
  if !rstWriter p || w.cmd.isSome || bit w.dead f || w.releasing then s.wdnRefuse
  else (s.setWdn { w with cmd := some (.field f) }).modFld f (fun c => { c with down := c.down ++ [.rstF] })

/-- TILE_RESET: a write of WDN_RST_TILE (R116, R117, R147). DEDUCED (log entry 42). -/
def State.wrRstTile (s : State) (p : Party) (v : W32) : State :=
  let y := bits v 19 10
  let x := bits v 9 0
  let w := s.wdn
  if !rstWriter p || w.cmd.isSome || decide (y ≥ 768) || decide (x ≥ 768) || bit w.dead (fieldAt y x) || w.releasing then
    s.wdnRefuse
  else
    (s.setWdn { w with cmd := some (.tile (routerOf y x)) }).modFld (fieldAt y x)
      (fun c => { c with down := c.down ++ [.rstT (y % 96) (x % 96)] })

/-- RST_F: the command reaches the field controller, and reset is asserted in the field (Table 4.6). -/
def State.takeRstF (s : State) (f : Nat) : State :=
  match styNext (s.fld f).down true with
  | some .rstF => (s.modFld f (fun c => { c with down := styPop true c.down })).fieldAssert f
  | _ => s

/-- Answer TARGET_RESET to every request among packets handed to a tile's port, and drop them (R146).
DESIGN CHOICE (log entry 43). -/
def State.resetBox (s : State) (r ch : Nat) : State :=
  let k := portKey r .loc ch
  let l := sget [] s.mesh.inbox k
  let s := s.setMesh { s.mesh with inbox := sdel s.mesh.inbox k }
  l.foldl (fun s q => if answered q.h.ch then s.reply r .loc true q 2 0#32 else s) s

/-- TARGET_RESET to an operation parked at the tile (R146). -/
def State.resetParked (s : State) (r : Nat) (w : Waiter) : State :=
  match w with
  | .core .. => s
  | .parked _ _ _ h back gen => s.reply r .loc true (parkedReq h back gen) 2 0#32

/-- The queue messages whose flits wait at router r are accepted by the tile's port in reset (R146, R377).
DESIGN CHOICE (log entry 43). -/
def State.resetDrain (s : State) (r : Nat) : State :=
  allPorts.foldl (fun s p =>
    [false, true].foldl (fun s b => (List.range 8).foldl (fun s _ => s.forward r p 2 b .ok) s) s) s

/-- A TILE reset of tile r for its 16 cycles (R145, R146): core state cleared, parked operations and packets for the
tile answered TARGET_RESET, the tile released STOPPED (R142). DESIGN CHOICE (log entry 43). -/
def State.tileResetNow (s : State) (r : Nat) : State :=
  let f := fieldOf r
  let parked := (s.tile r).waiters
  let s := s.setTile r ((s.tile r).tileReset (s.fld f).relLog.length)
  let i := 96 * (rowOf r % 96) + colOf r % 96
  let s := s.modFld f (fun c => { c with tileRst := i :: c.tileRst })
  let s := parked.foldl (fun s w => s.resetParked r w) s
  let s := s.resetDrain r
  let s := [0, 1, 2, 3].foldl (fun s ch => s.resetBox r ch) s
  s.modFld f (fun c => { c with tileRst := c.tileRst.filter (· != i) })

/-- RST_T: the command reaches the field controller; BUSY clears (R145). DESIGN CHOICE (log entry 43). -/
def State.takeRstT (s : State) (f : Nat) : State :=
  match styNext (s.fld f).down true with
  | some (.rstT row col) =>
    let r := routerOf (96 * (f / 8) + row) (96 * (f % 8) + col)
    let s := (s.modFld f (fun c => { c with down := styPop true c.down })).tileResetNow r
    if s.wdn.cmd = some (.tile r) then s.modWdn (fun w => { w with cmd := none }) else s
  | _ => s

/-- FIELD_RESET_DONE (Table 4.6, step 7): the field is at its operating point and reports done. A field on the
reference is done after its sequence (R143). -/
def State.fieldDone (s : State) (f : Nat) : State :=
  let c := s.fld f
  if s.wdn.cmd = some (.field f) ∧ !c.closed ∧ (c.src ∨ c.subwave = 4) then
    (s.modFld f (·.changeDone s.sku)).modWdn (fun w => { w with cmd := none })
  else s

/-! ### Clocks at bring-up (R77, R131, R132) and dead fields (R153) -/

/-- FIELD_PLL_LOCK. -/
def State.pllLock (s : State) (f : Nat) : State :=
  let c := s.fld f
  if s.wdn.clkOn && bit s.wdn.reg f && !c.lock && !c.src then s.setFld f { c with lock := true } else s

/-- FIELD_PLL_TIMEOUT: the field stays on the reference, its tiles in reset, and the failure is reported (R77, R78). -/
def State.pllTimeout (s : State) (f : Nat) : State :=
  let c := s.fld f
  if s.wdn.clkOn && bit s.wdn.reg f && !c.lock && !c.src then
    (s.setFld f (Field.raise { c with src := true } 2)).modWdn (·.setUnav f)
  else s

/-- DOMAIN_PLL_LOCK (R131). -/
def State.domLock (s : State) (m : Domain) : State :=
  if !s.wdn.clkOn then s
  else
    match m with
    | .rim d => s.modRim d (fun x => if x.pllDown then x else { x with pll := true })
    | .press c => s.modPrs c (fun x => if x.pllDown then x else { x with pll := true })

/-- Warden firmware is told that a domain is down (R132). DESIGN CHOICE (log entry 70): the spec names no register or event
for this report; the model keeps a list of the reports. -/
def Warden.reportDown (w : Warden) (m : Domain) : Warden := { w with downRep := w.downRep ++ [m] }

/-- DOMAIN_PLL_TIMEOUT (R132): the domain is held in reset on the reference, and reported down. -/
def State.domTimeout (s : State) (m : Domain) : State :=
  if !s.wdn.clkOn then s
  else
    match m with
    | .rim d =>
      if (s.rim d).pll || (s.rim d).pllDown then s
      else (s.modRim d (fun x => { x with pllDown := true })).modWdn (·.reportDown m)
    | .press c =>
      if (s.prs c).pll || (s.prs c).pllDown then s
      else (s.modPrs c (fun x => { x with pllDown := true })).modWdn (·.reportDown m)

/-- REGULATOR_TIMEOUT (Table 4.10): an enabled regulator is not in regulation. -/
def State.regTimeout (s : State) (f : Nat) : State :=
  if bit s.wdn.reg f then s.declareDead f else s

/-- A reset command that waits in the queue to the field controller, not yet acknowledged. -/
def StyCmd.isRst : StyCmd → Bool
  | .rstF | .rstT .. => true
  | _ => false

/-- STYLUS_ACK_TIMEOUT (Table 4.10): a FIELD or TILE reset command not acknowledged. -/
def State.ackTimeout (s : State) (f : Nat) : State :=
  if (s.fld f).down.any StyCmd.isRst then s.declareDead f else s

/-- FIELD_INIT_TIMEOUT (Table 4.10): steps 1 to 3 not complete. DESIGN CHOICE (log entry 17). -/
def State.initTimeout (s : State) (f : Nat) : State :=
  let c := s.fld f
  if !c.rst && !c.seqDone then s.declareDead f else s

/-- WDN_FLD_DEAD_LO or _HI: W1S by Warden firmware (R153). -/
def State.wrFldDead (s : State) (p : Party) (hi : Bool) (v : W32) : State :=
  if p != .wardenFw then s.wdnRefuse
  else (idxs 32 (fun i => bit v i)).foldl (fun s i => s.declareDead (if hi then 32 + i else i)) s

/-- WDN_FLD_UNAV_LO or _HI: W1S by Warden firmware (R155). -/
def State.wrFldUnav (s : State) (p : Party) (hi : Bool) (v : W32) : State :=
  if p != .wardenFw then s.wdnRefuse
  else s.modWdn (fun w => (idxs 32 (fun i => bit v i)).foldl (fun w i => w.setUnav (if hi then 32 + i else i)) w)

/-! ### Reset registers (4.8, 4.9) -/

/-- Minimum and reset value of WDN_RST_GAPn (Table 4.8). -/
def gapMin (n : Nat) : Nat := [100, 10, 10, 10, 10, 1000, 1000, 100, 10].getD n 0
def gapReset (n : Nat) : Nat := [0x3E8, 0xC8, 0x64, 0x1F4, 0x3E8, 0xFA0, 0x4B0, 0x1F4, 0x3E8].getD n 0

def hostParty : Party → Bool
  | .hostPcie | .hostWin => true
  | _ => false

/-- WDN_RST_GAPn (R150, R139). -/
def Warden.wrGap (w : Warden) (p : Party) (n : Nat) (v : W32) : Warden :=
  if !(p == .wardenFw || hostParty p) || decide (bits v 19 0 < gapMin n) then w.refuse
  else { w with gap := sput w.gap n (bits v 19 0) }

/-- WDN_RST_CTL (Table 4.12, R136). A PLATE reset starts when bit 0 is written (R115). -/
def State.wrRstCtl (s : State) (p : Party) (v : W32) : State :=
  if p != .wardenFw then s.wdnRefuse
  else
    let w := s.wdn
    let early := w.asserted || !(w.stage == 0 || decide (w.stage ≥ 5))
    let s := if bit v 1 then (if early then s.wdnRefuse else s.setWdn { w with go := true }) else s
    if !bit v 0 then s
    else if s.wdn.governs .plate then (s.wideReset .plate).releaseBegin
    else s.startGoverned .plate

/-- Writers of the W1C bits of WDN_RST_STAT and WDN_RST_CAUSE (R156). -/
def causeWriter (p : Party) : Bool := p == .wardenFw || p == .pressM || hostParty p

def Warden.wrCause (w : Warden) (p : Party) (v : W32) : Warden :=
  if causeWriter p then { w with cause := w.cause &&& ~~~(v &&& 0x1F#32) } else w.refuse

def Warden.wrStat (w : Warden) (p : Party) (v : W32) : Warden :=
  if causeWriter p then { w with rstRef := w.rstRef && !bit v 5, cmdFail := w.cmdFail && !bit v 6 } else w.refuse

/-- WDN_RST_STAT (Table 4.13). -/
def State.rstStat (s : State) : W32 :=
  let w := s.wdn
  BitVec.ofNat 32 (b2n w.cmdFail * 64 + b2n w.rstRef * 32 + b2n w.cmd.isSome * 16 + b2n w.waitGo * 8 + s.stageNow)

/-- Keep registers and Ground (R126, R127): an 8-byte write at an aligned offset, or a half. -/
def keepWriter (n : Nat) (p : Party) : Bool := p == .wardenFw || (decide (4 ≤ n) && (p == .pressM || hostParty p))

/-- DEDUCED (log entry 20). -/
def Warden.wrKeep (w : Warden) (p : Party) (off : Nat) (v : W64) : Warden :=
  if 0x400 ≤ off ∧ off < 0x480 then
    (if keepWriter ((off - 0x400) / 8) p then { w with keep := sput w.keep ((off - 0x400) / 8) v } else w.refuse)
  else if 0x200000 ≤ off ∧ off < 0x210000 then
    (if keepWriter 4 p then
       { w with ground := mwrite64 w.ground (off / 8 * 8 - 0x200000) v, bad := sdel w.bad (off / 8) }
     else w.refuse)
  else w

/-- A 32-bit write updates its half only (R127). -/
def Warden.wrKeep32 (w : Warden) (p : Party) (off : Nat) (v : W32) : Warden :=
  let old : W64 :=
    if off < 0x480 then sget 0#64 w.keep ((off - 0x400) / 8) else mread64 w.ground (off / 8 * 8 - 0x200000)
  let new := if off / 4 % 2 = 0 then setBits old 31 0 v.toNat else setBits old 63 32 v.toNat
  w.wrKeep p (off / 8 * 8) new

end Sys2Proof.Machine
end

