-- ==== Sys2Proof/Machine/Power.lean ====
section
/-! DEFINITION. The power governor (3.6) and the sources of POR and TRAY (4.1, R134). -/

namespace Sys2Proof.Machine

/-! ### The governor -/

/-- The governor's copy of a field's ceiling (R108). -/
def State.ceilOf (s : State) (f : Nat) : Nat := sget (Config.skuCeil s.sku) s.wdn.ceil f
def Warden.setCeil (w : Warden) (f v : Nat) : Warden := { w with ceil := sput w.ceil f v }

/-- A CEIL command goes to every live field whose FLD_CLK_CEIL is not the governor's copy (R105, R107, R108, R512). -/
def State.sendCeils (s : State) : State :=
  (idxs 64 (fun f => !bit s.wdn.dead f && !(s.fld f).rst && (s.fld f).clkCeil != s.ceilOf f)).foldl
    (fun s f => s.modFld f (·.pushCeil)) s

/-- Fields that take part in the governor (R105). -/
def State.liveFields (s : State) : List Nat := idxs 64 (fun f => !bit s.wdn.dead f)

/-- Insert a field behind those of more power, or of equal power and lower index. -/
def powInsert (p : Nat → Nat) (f : Nat) : List Nat → List Nat
  | [] => [f]
  | g :: l => if p g < p f ∨ (p g = p f ∧ f < g) then f :: g :: l else g :: powInsert p f l
def powSort (p : Nat → Nat) : List Nat → List Nat
  | [] => []
  | f :: l => powInsert p f (powSort p l)

/-- R105, P above C: tighten every ceiling, lower the 16 fields of highest power, then the Press clusters. -/
def State.govLower (s : State) : State :=
  let live := s.liveFields
  let s := s.modWdn (fun w => live.foldl (fun w f => w.setCeil f (min (s.ceilOf f) (s.fld f).eff)) w)
  let pick := ((powSort (fun f => sget 0 s.wdn.fldW f) live).filter (fun f => 0 < s.ceilOf f)).take 16
  let s := s.modWdn (fun w => pick.foldl (fun w f => w.setCeil f (s.ceilOf f - 1)) w)
  if live.all (fun f => s.ceilOf f == 0) then
    (List.range 16).foldl (fun s c => s.modPrs c (fun x =>
      { x with gov := if 8 < min x.clkTgt x.gov then min x.clkTgt x.gov - 1 else x.gov })) s
  else s

/-- The fields from the round-robin place on, in order of index. -/
def rrOrder (start : Nat) : List Nat := (List.range 64).map (fun i => (start + i) % 64)

/-- R105, P below C by more than the headroom: raise throttled Press clusters, and up to 16 fields at their ceiling. -/
def State.govRaise (s : State) : State :=
  let s := (List.range 16).foldl (fun s c => s.modPrs c (fun x => { x with gov := if x.gov < 24 then x.gov + 1 else x.gov })) s
  let top := Config.skuCeil s.sku
  let pick := ((rrOrder s.wdn.rrNext).filter (fun f =>
    !bit s.wdn.dead f && (s.fld f).eff == s.ceilOf f && decide (s.ceilOf f < top))).take 16
  s.modWdn (fun w =>
    let w := pick.foldl (fun w f => w.setCeil f (s.ceilOf f + 1)) w
    { w with rrNext := match pick.getLast? with
        | some f => (f + 1) % 64
        | none => w.rrNext })

/-- R109: every field at OP0, every Press cluster at 0.80 GHz, and P above the cap. A field counts as "at OP0" when its
effective operating point FLD_CLK_STAT.EFF is 0: DEDUCED (log entry 35). -/
def State.overNow (s : State) : Bool :=
  decide (s.wdn.pkgW > 10 * s.wdn.pwrCap) && s.liveFields.all (fun f => (s.fld f).eff == 0)
    && (List.range 16).all (fun c => (s.prs c).clkEff == 8)

/-- GOV_PERIOD: P, in watts, is the package input power averaged over the last 100 µs (R105, R107, R109).
DESIGN CHOICE (log entry 17). -/
def State.govPeriod (s : State) (p : Nat) : State :=
  let s := s.modWdn (fun w => { w with pkgW := p })
  let cap := 10 * s.wdn.pwrCap
  let s :=
    if s.wdn.alert then s
    else if p > cap then s.govLower.sendCeils
    else if p * 256 < cap * (256 - s.wdn.headroom) then s.govRaise.sendCeils
    else s
  let o := s.overNow
  s.modWdn (fun w =>
    let new := o && !w.overCap
    { w with overCap := o, overRep := if new then w.overRep + 1 else w.overRep,
             ibi := if new then w.ibi ++ [0x04] else w.ibi })

/-- POWER: a field controller, a Rim die or a Press cluster that is not in reset reports its supply power (R103). Nothing
comes up the link of a dead field (R512). DESIGN CHOICE (log entry 35). -/
def State.powerReport (s : State) (src : PowerSrc) (p : Nat) : State :=
  match src with
  | .field f => if (s.fld f.val).rst || bit s.wdn.dead f.val then s else s.modWdn (fun w => { w with fldW := sput w.fldW f.val p })
  | .rim d => if (s.rim d.val).rst then s else s.modWdn (fun w => { w with rimW := sput w.rimW d.val p })
  | .press c => if (s.prs c.val).rst then s else s.modWdn (fun w => { w with prsW := sput w.prsW c.val p })

/-- CEIL: the command reaches a field controller that is not in reset (R105, R107, R108, R512). -/
def State.takeCeil (s : State) (f : Nat) : State :=
  if (s.fld f).rst || bit s.wdn.dead f || styNext (s.fld f).down true != some .ceil then s
  else s.modFld f (fun c => Field.wrCeil s.sku { c with down := styPop true c.down } (s.ceilOf f))

/-- ALERT becomes 1: every ceiling is 0 (R107). -/
def Warden.setAlert (w : Warden) : Warden :=
  if w.alert then w else { w with alert := true, ceil := (List.range 64).map (fun f => (f, 0)) }

/-- The power-alert input is asserted (R107). -/
def State.alertAssert (s : State) : State := (s.modWdn (fun w => { w.setAlert with alertPin := true })).sendCeils

/-- A write of WDN_PWR_STAT (R107): from any other source it is ignored, and refused (R513). -/
def Warden.wrPwrStat (w : Warden) (p : Party) (v : W32) : Warden :=
  if p != .wardenFw then w.refuse else if bit v 0 then { w with alert := w.alert && w.alertPin } else w

/-- A write of WDN_PWR_CAP (R104). -/
def State.wrPwrCap (s : State) (p : Party) (v : W32) : State :=
  if p == .wardenFw || hostParty p then
    s.modWdn (fun w => { w with pwrCap := max 250 (min (bits v 15 0) (Config.skuCap s.sku)) })
  else s.wdnRefuse

/-- A write of WDN_PWR_CTL (R105). -/
def State.wrPwrCtl (s : State) (p : Party) (v : W32) : State :=
  if p == .wardenFw || hostParty p then s.modWdn (fun w => { w with headroom := bits v 7 0 }) else s.wdnRefuse

/-! ### POR and TRAY -/

/-- POR_ASSERT (R112). -/
def State.porAssert (s : State) : State := (s.modWdn (fun w => { w with supply := false })).wideReset .por

/-- POR_RELEASE (R112), with PKG_PWR_EN high (Table 16.1); TRAY follows when TRAY_RST_N is low (R118).
DESIGN CHOICE (log entries 3, 35, 63). -/
def State.porRelease (s : State) : State :=
  let w := s.wdn
  if w.cls == .por && w.asserted && !w.zeroHold && w.refOk && s.krovas.pwr then
    let s := s.modWdn (fun w => { w with supply := true })
    if w.trayLow then s.wideReset .tray else s.releaseBegin
  else s

/-- TRAY starts; a wider class governs it (R118). DESIGN CHOICE (log entry 63). -/
def State.trayStart (s : State) : State := if s.wdn.governs .tray then s.wideReset .tray else s.startGoverned .tray

/-- TRAY_RST_ASSERT: a low level of `ns` nanoseconds (R113). Between 100 and 200 ns the spec leaves it open
whether the pulse counts. DESIGN CHOICE (log entry 11). -/
def State.trayAssert (s : State) (ns : Nat) : State :=
  if s.wdn.trayLow || decide (ns < 100) then s
  else
    let take := decide (200 ≤ ns) || Config.trayPulse s.freeCtr
    let s := if ns < 200 then { s with freeCtr := s.freeCtr + 1 } else s
    if take then (s.modWdn (fun w => { w with trayLow := true })).trayStart else s

/-- TRAY_RST_RELEASE (R113). -/
def State.trayRelease (s : State) : State :=
  if s.wdn.trayLow then
    let s := s.modWdn (fun w => { w with trayLow := false })
    if s.wdn.cls == .tray && s.wdn.asserted && !s.wdn.zeroHold then s.releaseBegin else s
  else s

/-- REF_LOSS (R134, R112); WDN_RST_CAUSE has its reset value while POR is asserted. -/
def State.refLoss (s : State) : State :=
  s.modWdn (fun w =>
    { w with refOk := false, rstOut := true, cause := if w.asserted && w.cls == .por then w.cause else setBit w.cause 4 true })

/-- REF_RESTORED (R134): the reset controller performs TRAY, unless POR is asserted and governs (R118). -/
def State.refRestored (s : State) : State :=
  if s.wdn.refOk then s
  else
    let s := s.modWdn (fun w => { w with refOk := true })
    if s.wdn.asserted && s.wdn.cls == .por then s
    else
      let s := s.wideReset .tray
      if s.wdn.trayLow then s else s.releaseBegin

end Sys2Proof.Machine
end

