-- ==== Sys2Proof/Machine/Crypto.lean ====
section
/-! DEFINITION. The cryptographic algorithms that Table 14.1 names. The spec gives each by its standard and does not restate it:
PRESUMED, from the standards (log entry 8). -/

namespace Sys2Proof.Machine

/-- Big-endian number of a byte string, and the n big-endian bytes of a number. -/
def beNat (b : Bytes) : Nat := b.foldl (fun n x => n * 256 + x.toNat) 0
def natBe (n v : Nat) : Bytes := (List.range n).reverse.map (fun k => BitVec.ofNat 8 (v / 256 ^ k))
def xorBytes (a b : Bytes) : Bytes := List.zipWith (· ^^^ ·) a b
/-- A byte string cut into blocks of n bytes, at most `fuel` of them. -/
def blocksOf (n : Nat) : Nat → Bytes → List Bytes
  | 0, _ => []
  | fuel + 1, b => if b.isEmpty then [] else b.take n :: blocksOf n fuel (b.drop n)
def blocks (n : Nat) (b : Bytes) : List Bytes := blocksOf n b.length b

/-! ### SHA-384 and HMAC (FIPS 180-4, FIPS 198-1) -/

/-- Round constants and initial hash value. -/
def shaK : List W64 :=
  [0x428a2f98d728ae22#64, 0x7137449123ef65cd#64, 0xb5c0fbcfec4d3b2f#64, 0xe9b5dba58189dbbc#64]
    ++ [0x3956c25bf348b538#64, 0x59f111f1b605d019#64, 0x923f82a4af194f9b#64, 0xab1c5ed5da6d8118#64]
    ++ [0xd807aa98a3030242#64, 0x12835b0145706fbe#64, 0x243185be4ee4b28c#64, 0x550c7dc3d5ffb4e2#64]
    ++ [0x72be5d74f27b896f#64, 0x80deb1fe3b1696b1#64, 0x9bdc06a725c71235#64, 0xc19bf174cf692694#64]
    ++ [0xe49b69c19ef14ad2#64, 0xefbe4786384f25e3#64, 0x0fc19dc68b8cd5b5#64, 0x240ca1cc77ac9c65#64]
    ++ [0x2de92c6f592b0275#64, 0x4a7484aa6ea6e483#64, 0x5cb0a9dcbd41fbd4#64, 0x76f988da831153b5#64]
    ++ [0x983e5152ee66dfab#64, 0xa831c66d2db43210#64, 0xb00327c898fb213f#64, 0xbf597fc7beef0ee4#64]
    ++ [0xc6e00bf33da88fc2#64, 0xd5a79147930aa725#64, 0x06ca6351e003826f#64, 0x142929670a0e6e70#64]
    ++ [0x27b70a8546d22ffc#64, 0x2e1b21385c26c926#64, 0x4d2c6dfc5ac42aed#64, 0x53380d139d95b3df#64]
    ++ [0x650a73548baf63de#64, 0x766a0abb3c77b2a8#64, 0x81c2c92e47edaee6#64, 0x92722c851482353b#64]
    ++ [0xa2bfe8a14cf10364#64, 0xa81a664bbc423001#64, 0xc24b8b70d0f89791#64, 0xc76c51a30654be30#64]
    ++ [0xd192e819d6ef5218#64, 0xd69906245565a910#64, 0xf40e35855771202a#64, 0x106aa07032bbd1b8#64]
    ++ [0x19a4c116b8d2d0c8#64, 0x1e376c085141ab53#64, 0x2748774cdf8eeb99#64, 0x34b0bcb5e19b48a8#64]
    ++ [0x391c0cb3c5c95a63#64, 0x4ed8aa4ae3418acb#64, 0x5b9cca4f7763e373#64, 0x682e6ff3d6b2b8a3#64]
    ++ [0x748f82ee5defb2fc#64, 0x78a5636f43172f60#64, 0x84c87814a1f0ab72#64, 0x8cc702081a6439ec#64]
    ++ [0x90befffa23631e28#64, 0xa4506cebde82bde9#64, 0xbef9a3f7b2c67915#64, 0xc67178f2e372532b#64]
    ++ [0xca273eceea26619c#64, 0xd186b8c721c0c207#64, 0xeada7dd6cde0eb1e#64, 0xf57d4f7fee6ed178#64]
    ++ [0x06f067aa72176fba#64, 0x0a637dc5a2c898a6#64, 0x113f9804bef90dae#64, 0x1b710b35131c471b#64]
    ++ [0x28db77f523047d84#64, 0x32caab7b40c72493#64, 0x3c9ebe0a15c9bebc#64, 0x431d67c49c100d4c#64]
    ++ [0x4cc5d4becb3e42b6#64, 0x597f299cfc657e2a#64, 0x5fcb6fab3ad6faec#64, 0x6c44198c4a475817#64]
def shaInit : List W64 :=
  [0xcbbb9d5dc1059ed8#64, 0x629a292a367cd507#64, 0x9159015a3070dd17#64, 0x152fecd8f70e5939#64]
    ++ [0x67332667ffc00b31#64, 0x8eb44a8768581511#64, 0xdb0c2e0d64f98fa7#64, 0x47b5481dbefa4fa4#64]

def bigSigma (a b c : Nat) (x : W64) : W64 := x.rotateRight a ^^^ x.rotateRight b ^^^ x.rotateRight c
def smallSigma (a b c : Nat) (x : W64) : W64 := x.rotateRight a ^^^ x.rotateRight b ^^^ (x >>> c)

/-- The message schedule, newest word first. -/
def shaSchedule : Nat → List W64 → List W64
  | 0, w => w
  | n + 1, w =>
    let g (k : Nat) : W64 := w.getD k 0
    shaSchedule n ((smallSigma 19 61 6 (g 1) + g 6 + smallSigma 1 8 7 (g 14) + g 15) :: w)

/-- One round on the eight working variables. -/
def shaRound (v : List W64) (kw : W64 × W64) : List W64 :=
  match v with
  | [a, b, c, d, e, f, g, h] =>
    let t1 := h + bigSigma 14 18 41 e + ((e &&& f) ^^^ (~~~e &&& g)) + kw.1 + kw.2
    let t2 := bigSigma 28 34 39 a + ((a &&& b) ^^^ (a &&& c) ^^^ (b &&& c))
    [t1 + t2, a, b, c, d + t1, e, f, g]
  | v => v

def shaBlock (h : List W64) (b : Bytes) : List W64 :=
  let w := (shaSchedule 64 (((blocks 8 b).map (fun x => BitVec.ofNat 64 (beNat x))).reverse)).reverse
  List.zipWith (· + ·) h ((shaK.zip w).foldl shaRound h)

def sha384 (m : Bytes) : Bytes :=
  let pad := m ++ 0x80#8 :: List.replicate ((239 - m.length % 128) % 128) 0#8 ++ natBe 16 (8 * m.length)
  (((blocks 128 pad).foldl shaBlock shaInit).flatMap (fun x => natBe 8 x.toNat)).take 48

def hmac384 (key m : Bytes) : Bytes :=
  let k := if key.length > 128 then sha384 key else key
  let k := k ++ List.replicate (128 - k.length) 0#8
  sha384 (k.map (· ^^^ 0x5C#8) ++ sha384 (k.map (· ^^^ 0x36#8) ++ m))

/-- One block of the SP 800-108 KDF in counter mode with HMAC-SHA-384: counter and length of 32 bits, `bits` output bits. -/
def kdf108 (key label ctx : Bytes) (bits : Nat) : Bytes :=
  (hmac384 key (natBe 4 1 ++ label ++ 0#8 :: ctx ++ natBe 4 bits)).take (bits / 8)

/-- The one-step KDF of SP 800-56C with SHA-384, at most 384 bits. -/
def oneStepKdf (z info : Bytes) (bits : Nat) : Bytes := (sha384 (natBe 4 1 ++ z ++ info)).take (bits / 8)

/-! ### AES-256 (FIPS 197), key wrap (SP 800-38F), GCM (SP 800-38D) -/

def xtime (a : W8) : W8 := (a <<< 1) ^^^ (if a.msb then 0x1B#8 else 0#8)
/-- Product in GF(2^8), over the low n bits of b. -/
def gfMul : Nat → W8 → W8 → W8
  | 0, _, _ => 0
  | n + 1, a, b => (if b.getLsbD 0 then a else 0#8) ^^^ gfMul n (xtime a) (b >>> 1)
def gf (a b : W8) : W8 := gfMul 8 a b
/-- The S-box: the inverse (the 254th power), then the affine map. -/
def sbox (a : W8) : W8 :=
  let sq (x : W8) : W8 := gf x x
  let a2 := sq a
  let a4 := sq a2
  let a8 := sq a4
  let a16 := sq a8
  let a32 := sq a16
  let a64 := sq a32
  let x := gf (sq a64) (gf a64 (gf a32 (gf a16 (gf a8 (gf a4 a2)))))
  x ^^^ x.rotateLeft 1 ^^^ x.rotateLeft 2 ^^^ x.rotateLeft 3 ^^^ x.rotateLeft 4 ^^^ 0x63#8
/-- The S-box as a table. -/
def sboxTable : Bytes := (List.range 256).map (fun n => sbox (BitVec.ofNat 8 n))
def subByte (t : Bytes) (x : W8) : W8 := t.getD x.toNat 0
/-- The inverse table. -/
def sboxInv : Bytes := (List.range 256).map (fun n => BitVec.ofNat 8 (sboxTable.idxOf (BitVec.ofNat 8 n)))

/-- The key schedule: words, newest first; `n` counts the words so far. -/
def aesExpand : Nat → Nat → W8 → List Bytes → List Bytes
  | 0, _, _, w => w
  | fuel + 1, n, rcon, w =>
    let t := w.headD []
    let old := w.getD 7 []
    let t' :=
      if n % 8 = 0 then xorBytes ((t.drop 1 ++ t.take 1).map (subByte sboxTable)) [rcon, 0, 0, 0]
      else if n % 8 = 4 then t.map (subByte sboxTable)
      else t
    aesExpand fuel (n + 1) (if n % 8 = 0 then xtime rcon else rcon) (xorBytes old t' :: w)
/-- The 15 round keys of a 32-byte key. -/
def aesKeys (key : Bytes) : List Bytes := blocks 16 ((aesExpand 52 8 1 (blocks 4 key).reverse).reverse.flatten)

/-- Byte k of a shifted state comes from column (k / 4 + d * (k mod 4)) mod 4. -/
def shiftRows (d : Nat) (b : Bytes) : Bytes :=
  (List.range 16).map (fun k => b.getD (4 * ((k / 4 + d * (k % 4)) % 4) + k % 4) 0)
/-- Columns times the circulant matrix whose first row is m. -/
def mixColumns (m : Bytes) (b : Bytes) : Bytes :=
  (List.range 16).map (fun k =>
    ((List.range 4).map (fun j => gf (m.getD ((j + 4 - k % 4) % 4) 0) (b.getD (4 * (k / 4) + j) 0))).foldl (· ^^^ ·) 0)

/-- Encryption and decryption of one 16-byte block. -/
def aesEnc (key b : Bytes) : Bytes :=
  match aesKeys key with
  | [] => b
  | k0 :: ks =>
    let sub (x : Bytes) := shiftRows 1 (x.map (subByte sboxTable))
    let x := (ks.dropLast).foldl (fun x k => xorBytes (mixColumns [2, 3, 1, 1] (sub x)) k) (xorBytes b k0)
    xorBytes (sub x) (ks.getLastD [])
def aesDec (key b : Bytes) : Bytes :=
  match (aesKeys key).reverse with
  | [] => b
  | k0 :: ks =>
    let sub (x : Bytes) := (shiftRows 3 x).map (subByte sboxInv)
    let x := (ks.dropLast).foldl (fun x k => mixColumns [14, 11, 13, 9] (xorBytes (sub x) k)) (xorBytes b k0)
    xorBytes (sub x) (ks.getLastD [])

/-- One step of the unwrap: step number t, the integrity block and the register R of that step. -/
def unwrapStep (key : Bytes) (st : Bytes × List Bytes) (t : Nat) : Bytes × List Bytes :=
  let k := (t - 1) % st.2.length
  let b := aesDec key (xorBytes st.1 (natBe 8 t) ++ st.2.getD k [])
  (b.take 8, st.2.set k (b.drop 8))
/-- AES key unwrap; none when the integrity check fails. -/
def aesUnwrap (key c : Bytes) : Option Bytes :=
  match blocks 8 c with
  | [] => none
  | a :: r =>
    let st := ((List.range (6 * r.length)).map (· + 1)).reverse.foldl (unwrapStep key) (a, r)
    if st.1 = List.replicate 8 0xA6#8 then some st.2.flatten else none

/-- Product in GF(2^128) of GCM, over the bits of x from the first. -/
def ghashMul : Nat → W128 → W128 → W128 → W128
  | 0, _, _, z => z
  | n + 1, x, v, z =>
    ghashMul n (x <<< 1) ((v >>> 1) ^^^ (if v.getLsbD 0 then 0xE1#128 <<< 120 else 0)) (if x.msb then z ^^^ v else z)
def pad16 (b : Bytes) : Bytes := b ++ List.replicate ((16 - b.length % 16) % 16) 0#8
def ghash (h : W128) (b : Bytes) : W128 :=
  (blocks 16 b).foldl (fun y x => ghashMul 128 (y ^^^ BitVec.ofNat 128 (beNat x)) h 0) 0
/-- Counter-mode text from counter 2 on, under a 12-byte IV. -/
def gcmText (key iv text : Bytes) : Bytes :=
  ((blocks 16 text).zipIdx.map (fun e => xorBytes e.1 (aesEnc key (iv ++ natBe 4 (e.2 + 2))))).flatten
def gcmTag (key iv aad ct : Bytes) : Bytes :=
  let h := BitVec.ofNat 128 (beNat (aesEnc key (List.replicate 16 0#8)))
  let s := ghash h (pad16 aad ++ pad16 ct ++ natBe 8 (8 * aad.length) ++ natBe 8 (8 * ct.length))
  xorBytes (natBe 16 s.toNat) (aesEnc key (iv ++ natBe 4 1))
/-- Seal answers the ciphertext and the 16-byte tag; open the plaintext when the tag holds. -/
def gcmSeal (key iv aad text : Bytes) : Bytes × Bytes :=
  let ct := gcmText key iv text
  (ct, gcmTag key iv aad ct)
def gcmOpen (key iv aad ct tag : Bytes) : Option Bytes :=
  if gcmTag key iv aad ct = tag then some (gcmText key iv ct) else none

/-! ### P-384 (FIPS 186-5, SP 800-186, SP 800-56A) -/

def p384P : Nat := 2 ^ 384 - 2 ^ 128 - 2 ^ 96 + 2 ^ 32 - 1
def p384N : Nat := 0xffffffffffffffffffffffffffffffffffffffffffffffffc7634d81f4372ddf581a0db248b0a77aecec196accc52973
def p384B : Nat := 0xb3312fa7e23ee7e4988e056be3f82d19181d9c6efe8141120314088f5013875ac656398d8a2ed19d2a85c8edd3ec2aef
def p384G : Nat × Nat :=
  (0xaa87ca22be8b05378eb1c71ef320ad746e1d3b628ba79b9859f741e082542a385502f25dbf55296c3a545e3872760ab7,
   0x3617de4a96262c6f5d9e98bf9292dc29f8f41dbd289a147ce9da3113b5f0b8c00a60b1ce1d7e819d7a431d7c90ea0e5f)

/-- b to the power e modulo m, over the low n bits of e. -/
def powMod (m : Nat) : Nat → Nat → Nat → Nat
  | 0, _, _ => 1 % m
  | n + 1, b, e => (if e % 2 = 1 then b else 1) * powMod m n (b * b % m) (e / 2) % m
/-- The inverse modulo a prime. -/
def invMod (m a : Nat) : Nat := powMod m 384 (a % m) (m - 2)
/-- A point of the curve; none is the point at infinity. -/
abbrev Point := Option (Nat × Nat)
/-- The point with slope l through (x1, y1) and a point of abscissa x2. -/
def chord (l x1 y1 x2 : Nat) : Point :=
  let x := (l * l + 2 * p384P - x1 - x2) % p384P
  some (x, (l * (x1 + p384P - x) + p384P - y1) % p384P)
def ptAdd (a b : Point) : Point :=
  match a, b with
  | none, q => q
  | q, none => q
  | some (x1, y1), some (x2, y2) =>
    if x1 = x2 then
      if (y1 + y2) % p384P = 0 then none
      else chord ((3 * x1 * x1 + p384P - 3) * invMod p384P (2 * y1) % p384P) x1 y1 x1
    else chord ((y2 + p384P - y1) * invMod p384P (x2 + p384P - x1) % p384P) x1 y1 x2
/-- The multiple of a point by the low n bits of k. -/
def ptMulBits : Nat → Nat → Point → Point
  | 0, _, _ => none
  | n + 1, k, q => ptAdd (if k % 2 = 1 then q else none) (ptMulBits n (k / 2) (ptAdd q q))
def ptMul (k : Nat) (q : Point) : Point := ptMulBits 384 k q

/-- A public key is the uncompressed point, 97 bytes; none when it is no point of the curve. -/
def pointOf (b : Bytes) : Point :=
  let x := beNat ((b.drop 1).take 48)
  let y := beNat (b.drop 49)
  if b.length = 97 ∧ b.headD 0 = 4 ∧ x < p384P ∧ y < p384P ∧ y * y % p384P = (x * x * x + (p384P - 3) * x + p384B) % p384P
  then some (x, y) else none
def pointBytes (q : Point) : Bytes :=
  match q with
  | some (x, y) => 4#8 :: natBe 48 x ++ natBe 48 y
  | none => [0#8]

/-- The public key of a private key. -/
def publicKey (d : Nat) : Bytes := pointBytes (ptMul d (some p384G))

/-- ECDSA: the check of a 96-byte signature over a 48-byte hash, and a signature by key d with nonce k. -/
def ecdsaVerify (key hash sig : Bytes) : Bool :=
  let r := beNat (sig.take 48)
  let t := beNat (sig.drop 48)
  match pointOf key with
  | none => false
  | some q =>
    let w := invMod p384N t
    decide (sig.length = 96 ∧ 0 < r ∧ r < p384N ∧ 0 < t ∧ t < p384N)
      && (match ptAdd (ptMul (beNat hash * w % p384N) (some p384G)) (ptMul (r * w % p384N) (some q)) with
          | some (x, _) => x % p384N == r
          | none => false)
def ecdsaSign (d k : Nat) (hash : Bytes) : Bytes :=
  match ptMul k (some p384G) with
  | none => natBe 96 0
  | some (x, _) =>
    let r := x % p384N
    natBe 48 r ++ natBe 48 (invMod p384N k * (beNat hash + r * d) % p384N)

/-- ECDH: the abscissa of the product, 48 bytes; none when the peer's key is no point of the curve. -/
def ecdh (d : Nat) (key : Bytes) : Option Bytes :=
  match pointOf key with
  | none => none
  | some q => (ptMul d (some q)).map (fun z => natBe 48 z.1)

end Sys2Proof.Machine
end

