-- ==== Sys2Proof/Machine/RimFrame.lean ====
section
/-! DEFINITION. Rim frames: their bytes, their checks and what they carry (11.3, 11.12). -/

namespace Sys2Proof.Machine

/-! ### Packets as bytes (R429) -/

/-- A packet in a frame: its header flit and its data words. -/
def Packet.bytes (p : Packet) : Bytes := natLe 16 p.h.word.toNat ++ (if p.h.long then ofWords p.ws else [])

/-- The first packet of a payload and the bytes after it. -/
def takePacket (b : Bytes) : Option (Packet × Bytes) :=
  if b.length < 16 then none
  else
    let h := Hdr.ofWord (BitVec.ofNat 128 (leNat (b.take 16)))
    let n := if h.long then h.len + 1 else 0
    let rest := b.drop 16
    if rest.length < 4 * n then none else some ({ h := h, ws := toWords n rest }, rest.drop (4 * n))

/-- The whole packets of a DATA payload, in order. -/
def takePackets : Nat → Bytes → List Packet
  | 0, _ => []
  | n + 1, b =>
    match takePacket b with
    | some (p, rest) => p :: takePackets n rest
    | none => []

/-- R431 for a BULK payload: NPKT − 1 is 1 to 7, the other bits are zero and the payload has its length (Table 11.2). -/
def bulkGood (b : Bytes) : Bool :=
  let info := leNat ((b.drop 16).take 8)
  decide (24 ≤ b.length) && info % 8 != 0 && decide (info < 2 ^ (6 * (info % 8 + 1) + 3)) &&
    b.length == 24 + 128 * (info % 8 + 1)

/-- The WR_MEM packets that a BULK payload merges (Table 11.2). -/
def bulkPackets (b : Bytes) : List Packet :=
  let h := Hdr.ofWord (BitVec.ofNat 128 (leNat (b.take 16)))
  let info := leNat ((b.drop 16).take 8)
  (List.range (info % 8 + 1)).map (fun k =>
    { h := { h with tag := info / 2 ^ (6 * k + 3) % 64, off := h.off + 128 * k }
      ws := toWords 32 (b.drop (24 + 128 * k)) })

/-- The BULK payload of WR_MEM packets (Table 11.2). -/
def bulkPayload (ps : List Packet) : Bytes :=
  match ps with
  | [] => []
  | p :: _ =>
    let tags := ps.foldr (fun q n => q.h.tag + 64 * n) 0
    natLe 16 p.h.word.toNat ++ natLe 8 (ps.length - 1 + 8 * tags) ++ ps.flatMap (fun q => ofWords q.ws)

/-! ### Data frames (Table 11.1) -/

/-- A data frame header, without ACKV: this die acknowledges by ACK frames. -/
def dataHdr (bulk : Bool) (seq ch : Nat) (rl : Bool) (lenb : Nat) (enc : Bool) (ksel : Nat) : Bytes :=
  natLe 8 ((if bulk then 2 else 1) + seq * 2 ^ 4 + ch * 2 ^ 37 + b2n rl * 2 ^ 39 + lenb * 2 ^ 40 + b2n enc * 2 ^ 51
    + ksel * 2 ^ 52)

def withCrc (b : Bytes) : Bytes := b ++ natLe 4 (crc32 b)

/-- What a data frame says, before decryption. -/
structure DataFrame where
  bulk : Bool
  seq : Nat
  ack : Option Nat
  ch : Nat
  rl : Bool
  enc : Bool
  ksel : Nat
  hdr : Bytes
  text : Bytes
  tag : Bytes
  deriving DecidableEq, Repr

/-- R431: a data frame whose CRC, TYPE, length and reserved bits are good. -/
def parseData (b : Bytes) : Option DataFrame :=
  let h : W64 := BitVec.ofNat 64 (leNat (b.take 8))
  let lenb := bits h 50 40
  let enc := bit h 51
  let body := 8 + lenb + (if enc then 16 else 0)
  if b.length != body + 4 || leNat (b.drop body) != crc32 (b.take body) then none
  else if !(bits h 3 0 == 1 || bits h 3 0 == 2) || bits h 63 53 != 0 || (!enc && bit h 52) || lenb < 16 || lenb > 1152 || lenb % 4 != 0 then none
  else
    some { bulk := bits h 3 0 == 2, seq := bits h 19 4, ack := if bit h 36 then some (bits h 35 20) else none,
           ch := bits h 38 37, rl := bit h 39, enc := enc, ksel := bits h 52 52, hdr := b.take 8,
           text := (b.drop 8).take lenb, tag := if enc then (b.drop (8 + lenb)).take 16 else [] }

/-- Cost in credits: units of 16 bytes of payload (R437). -/
def frameUnits (lenb : Nat) : Nat := (lenb + 15) / 16

/-- The packets of an accepted frame. -/
def DataFrame.packets (f : DataFrame) (plain : Bytes) : List Packet :=
  if f.bulk then bulkPackets plain else takePackets 72 plain

/-! ### Control frames (Table 11.3) -/

/-- A control frame of TYPE `ty` with fields A to D. -/
def ctlFrame (ty a b c d : Nat) : Bytes := withCrc (natLe 8 (ty + a * 2 ^ 4 + b * 2 ^ 20 + c * 2 ^ 36) ++ natLe 4 d)

/-- The fields A to D of a control frame of TYPE `ty` that R431 lets through; each mask names the defined bits. -/
def parseCtl (ty ma mb mc md : Nat) (f : Bytes) : Option (Nat × Nat × Nat × Nat) :=
  let h : W64 := BitVec.ofNat 64 (leNat (f.take 8))
  let a := bits h 19 4
  let b := bits h 35 20
  let c := bits h 51 36
  let d := leNat ((f.drop 8).take 4)
  if f.length = 16 ∧ leNat (f.drop 12) = crc32 (f.take 12) ∧ bits h 3 0 = ty ∧ bits h 63 52 = 0 ∧ a &&& ma = a ∧
      b &&& mb = b ∧ c &&& mc = c ∧ d &&& md = d then some (a, b, c, d)
  else none

def parseAck (f : Bytes) : Option Nat := (parseCtl 0x8 0xFFFF 0 0 0 f).map (·.1)
def parseNak (f : Bytes) : Option Nat := (parseCtl 0x9 0xFFFF 0 0 0 f).map (·.1)
/-- CREDIT: the counts of C0 to C3 and the ring lane. -/
def parseCredit (f : Bytes) : Option (List Nat × Bool) :=
  (parseCtl 0xA 0xFFFF 0xFFFF 0xFFFF 0x1FFFF f).map (fun r => ([r.1, r.2.1, r.2.2.1, r.2.2.2 % 65536], r.2.2.2 / 65536 % 2 == 1))
/-- LINK_ID: fields A, B, C, D. -/
def parseLinkId (f : Bytes) : Option (Nat × Nat × Nat × Nat) := parseCtl 0xB 0x8FFF 0x3F 0xFFF 0x3FF f
def parseFoReq (f : Bytes) : Option Nat := (parseCtl 0xC 0xF 0 0 0 f).map (·.1)
/-- FAILOVER_RSP: the failed port, and LASTRX when LRXV is 1. -/
def parseFoRsp (f : Bytes) : Option (Nat × Option Nat) :=
  (parseCtl 0xD 0xF 0xFFFF 1 0 f).map (fun r => (r.1, if r.2.2.1 = 1 then some r.2.1 else none))

/-! ### Ports -/

def RimPort.en (p : RimPort) : Bool := bit p.pcfg 0
def RimPort.host (p : RimPort) : Bool := bit p.pcfg 1
def RimPort.enc (p : RimPort) : Bool := bit p.pcfg 2
def RimPort.ksel (p : RimPort) : Nat := bits p.pcfg 3 3
def RimPort.pkey (p : RimPort) : Nat := bits p.pcfg 21 10
def RimPort.hid (p : RimPort) : Nat := bits p.pcfg 31 22
def RimPort.up (p : RimPort) : Bool := p.st == 2
def RimPort.fabric (p : RimPort) : Bool := p.en && !p.host
def Rim.port (x : Rim) (n : Nat) : RimPort := sget {} x.ports n
def Rim.setPort (x : Rim) (n : Nat) (p : RimPort) : Rim := { x with ports := sput x.ports n p }
def Rim.modPort (x : Rim) (n : Nat) (g : RimPort → RimPort) : Rim := x.setPort n (g (x.port n))
/-- A frame leaves on the wire. -/
def RimPort.emit (p : RimPort) (f : Bytes) : RimPort := { p with tx := p.tx ++ [f] }

/-- Credit counters by channel and ring lane. -/
def crKey (ch : Nat) (rl : Bool) : Nat := 2 * ch + b2n rl
/-- Receive buffer of a channel in one ring lane, in units (R437). -/
def crDepth (ch : Nat) : Nat := if ch = 0 ∨ ch = 2 then 4096 else 512
/-- DESIGN CHOICE (log entry 64). -/
def RimPort.credit (p : RimPort) (ch : Nat) (rl : Bool) : Nat :=
  crDepth ch - (sget 0 p.txUsed (crKey ch rl) + 65536 - sget 0 p.txFree (crKey ch rl)) % 65536

/-- Bytes held by the replay buffer (R432). -/
def RimPort.repBytes (p : RimPort) : Nat := p.rep.foldl (fun n e => n + e.frame.length) 0

/-- Encrypt under a key: the IV is the salt and the counter (R466). DESIGN CHOICE (log entry 48). -/
def sealWith (key : Bytes) (ctr : Nat) (aad text : Bytes) : Bytes × Bytes :=
  gcmSeal (key.take 32) ((key.drop 32).take 4 ++ natLe 8 ctr) aad text
/-- DESIGN CHOICE (log entry 48). -/
def openWith (key : Bytes) (ctr : Nat) (aad text tag : Bytes) : Option Bytes :=
  gcmOpen (key.take 32) ((key.drop 32).take 4 ++ natLe 8 ctr) aad text tag

/-- A new data frame with the port's next SEQ (R429, R466). -/
def RimPort.sendFrame (p : RimPort) (bulk : Bool) (ps : List OutPkt) (payload : Bytes) (ch : Nat) (rl : Bool) : RimPort :=
  let hdr := dataHdr bulk p.seq ch rl payload.length p.enc (if p.enc then p.ksel else 0)
  let k := 2 * p.ksel
  let ctr := sget 0 p.iv k
  let frame :=
    if p.enc then
      match sealWith (sget [] p.keys k) ctr hdr payload with
      | (ct, tag) => withCrc (hdr ++ ct ++ tag)
    else withCrc (hdr ++ payload)
  let ps := ps.map (fun o => { o with via := none })
  { (p.emit frame) with
    seq := (p.seq + 1) % 65536
    rep := p.rep ++ [{ seq := p.seq, frame := frame, ps := ps }]
    iv := if p.enc then sput p.iv k (ctr + 1) else p.iv
    txUsed := sput p.txUsed (crKey ch rl) ((sget 0 p.txUsed (crKey ch rl) + frameUnits payload.length) % 65536) }

/-- The following packets of the queue that merge with a WR_MEM of LEN 31 (R464), at most `n`. -/
def bulkRun (first : Packet) : Nat → Nat → List OutPkt → List OutPkt
  | 0, _, _ => []
  | _, _, [] => []
  | n + 1, k, o :: l =>
    if o.p.h = { first.h with tag := o.p.h.tag, off := first.h.off + 128 * k } then o :: bulkRun first n (k + 1) l else []

/-- Send the queued packets that have credit and room, in order within each channel and ring lane (R429 to R432).
`stuck` holds the channel and lane pairs that wait. -/
def RimPort.drainQ : Nat → List OutPkt → List Nat → RimPort → RimPort
  | 0, q, _, p => { p with q := p.q ++ q }
  | _, [], _, p => p
  | n + 1, o :: l, stuck, p =>
    let ch := o.p.h.ch
    let k := crKey ch o.rl
    let more := if p.host && ch == 0 && o.p.h.op == 0x08 && o.p.h.len == 31 then bulkRun o.p 7 1 l else []
    let bulk := !more.isEmpty
    let ps := o :: more
    let payload := if bulk then bulkPayload (ps.map (·.p)) else o.p.bytes
    let size := 12 + payload.length + (if p.enc then 16 else 0)
    if stuck.contains k then RimPort.drainQ n l stuck { p with q := p.q ++ [o] }
    else if p.repBytes + size > 65536 then { p with q := p.q ++ o :: l }
    else if p.credit ch o.rl < frameUnits payload.length then RimPort.drainQ n l (k :: stuck) { p with q := p.q ++ [o] }
    else RimPort.drainQ n (l.drop more.length) stuck (p.sendFrame bulk ps payload ch o.rl)

def RimPort.drain (p : RimPort) : RimPort :=
  if p.up then RimPort.drainQ p.q.length p.q [] { p with q := [] } else p

/-- Frames covered by acknowledgement `a` leave the replay buffer (R432, R435). -/
def covers (a seq : Nat) : Bool := decide ((a + 65536 - seq) % 65536 < 32768)
def RimPort.acked (p : RimPort) (a : Nat) : RimPort :=
  let rep := p.rep.filter (fun e => !covers a e.seq)
  if rep.length < p.rep.length then RimPort.drain { p with rep := rep, count := 0 } else p

/-- Resend frames, in order and unchanged (R435). -/
def RimPort.resend (p : RimPort) (l : List RepEnt) : RimPort :=
  if l.isEmpty then p
  else { p with tx := p.tx ++ l.map (·.frame), count := p.count + 1, replays := satInc p.replays 65535 }

def RimPort.crcFail (p : RimPort) : RimPort := { p with crcErr := satInc p.crcErr 65535 }

/-- CREDIT frames for the lanes whose counts have changed (R437). -/
def RimPort.sendCredit (p : RimPort) : RimPort :=
  [false, true].foldl (fun p rl =>
    let now (ch : Nat) := sget 0 p.rxFree (crKey ch rl)
    if [0, 1, 2, 3].all (fun ch => now ch == sget 0 p.rxTold (crKey ch rl)) then p
    else
      { (p.emit (ctlFrame 0xA (now 0) (now 1) (now 2) (now 3 + b2n rl * 65536))) with
        rxTold := [0, 1, 2, 3].foldl (fun m ch => sput m (crKey ch rl) (now ch)) p.rxTold }) p

/-- Units of a receive buffer become free (R437). -/
def RimPort.freeRx (p : RimPort) (k n : Nat) : RimPort := { p with rxFree := sput p.rxFree k ((sget 0 p.rxFree k + n) % 65536) }

/-- The units of a frame, shared among its packets: each holds its own size, and the last what remains. -/
def rxSplit : Nat → List Packet → List (Packet × Nat)
  | _, [] => []
  | u, [p] => [(p, u)]
  | u, p :: l => (p, min u (frameUnits p.bytes.length)) :: rxSplit (u - frameUnits p.bytes.length) l

/-- A port begins again from SEQ 0 with fresh credits (R432, R450). -/
def RimPort.fresh (p : RimPort) : RimPort :=
  { p with seq := 0, exp := 0, got := false, nakFor := none, count := 0, rep := [], txUsed := [], txFree := [],
           rxFree := [], rxTold := [] }

/-- The same for port n of a die; what lies in its receive buffer frees no credit of the new numbering. -/
def Rim.freshPort (x : Rim) (n : Nat) : Rim :=
  { x.modPort n RimPort.fresh with rx := x.rx.map (fun e => if e.port = n then { e with units := 0 } else e) }

end Sys2Proof.Machine
end

