-- ==== Sys2Proof/Machine/Island.lean ====
section
/-! DEFINITION. The security island: states, tests, commands, zeroization and the SIS_ registers (chapter 14). -/

namespace Sys2Proof.Machine

/-- A byte string of exactly n bytes. DESIGN CHOICE (log entry 23). -/
def padTo (n : Nat) (b : Bytes) : Bytes := (b ++ List.replicate n 0#8).take n
/-- SHA-384, 48 bytes. -/
abbrev sha (b : Bytes) : Bytes := sha384 b
/-- The public keys of generation n, and a signature of its identity key over a hash. -/
def dikPub (n : Nat) : Bytes := padTo 97 (publicKey (Config.dikPriv n))
def kakPub (n : Nat) : Bytes := padTo 97 (publicKey (Config.kakPriv n))
def dikSign (n : Nat) (hash : Bytes) : Bytes := ecdsaSign (Config.dikPriv n) (Config.signNonce n hash) hash

/-- "PH-SIS-IMPORT" in ASCII. -/
def importLabel : Bytes := [0x50, 0x48, 0x2D, 0x53, 0x49, 0x53, 0x2D, 0x49, 0x4D, 0x50, 0x4F, 0x52, 0x54]
/-- R561: Z by ECDH, the KEK by the one-step KDF, and the unwrap under it; none when the ephemeral key is no point of the curve or
the unwrap's check fails. PRESUMED (log entry 8). -/
def importKey (n : Nat) (eph wrapped : Bytes) : Option Bytes :=
  match ecdh (Config.kakPriv n) eph with
  | none => none
  | some z => aesUnwrap (oneStepKdf z (importLabel ++ kakPub n) 256) wrapped

/-- RESULT codes (Table 14.4). -/
abbrev resOk : Nat := 0
abbrev resState : Nat := 1
abbrev resAuth : Nat := 2
abbrev resArgs : Nat := 3
abbrev resSig : Nat := 4
abbrev resRollback : Nat := 5
abbrev resBadwrap : Nat := 6
abbrev resInuse : Nat := 7
abbrev resGen : Nat := 8
abbrev resNokey : Nat := 9

/-! ### Arguments, results, measurements -/

def Island.argN (i : Island) (a n : Nat) : Nat := leNat (mread i.buf a n)
def Island.argB (i : Island) (a n : Nat) : Bytes := mread i.buf a n

/-- The end of a command: result data to SIS_BUF, RESULT, DONE (R550). DEDUCED (log entry 22). -/
def Island.finish (i : Island) (res : Nat) (data : Bytes) : Island :=
  { i with done := true, result := res, buf := mwrite i.buf 0 (data.take 1024) }

/-- MREGn (R557): zero until extended. -/
def Island.mregOf (i : Island) (n : Nat) : Bytes := sget (List.replicate 48 0#8) i.mreg n
/-- R557: an extension with a 48-byte value. -/
def Island.extend (i : Island) (n : Nat) (v : Bytes) : Island := { i with mreg := sput i.mreg n (sha (i.mregOf n ++ v)) }
/-- An event record extends MREG6 (Table 14.7). -/
def Island.event (i : Island) (rec : Bytes) : Island := i.extend 6 (sha rec)

/-- SIS_ERR_N is low (R547). -/
def Island.errLow (i : Island) : Bool := i.st == .softErr || i.st == .hardErr

/-- The island enters a state and reports it to Krovas (R547). -/
def State.sisGo (s : State) (st : SisSt) : State :=
  if s.island.st = st then s
  else { s with island := { s.island with st := st }, wdn := s.wdn.pushIbi 0x02 st.code }

/-- SOFT_ERR or HARD_ERR is entered: the command in progress is abandoned, and leaves DONE at 0 (R548). -/
def State.sisErr (s : State) (st : SisSt) : State :=
  let s := s.sisGo st
  { s with island := { s.island with busy := none } }

/-! ### Zeroization (14.8) -/

/-- A trigger of R566: `tamp` tells a tamper trigger (R569), `unl` an accepted unlock (R570). Table 14.11 steps 1 to 5;
a trigger that finds a zeroization running joins it, and a command in progress is abandoned (R567). HARD_ERR is left by POR or
TRAY only (Table 14.2). -/
def State.zeroize (s : State) (tamp unl : Bool) : State :=
  let i := s.island
  let t := if tamp then satInc i.tamper 15 else i.tamper
  if i.st = .zeroizing then
    { s with island := { i with tamper := t, unlock := i.unlock || unl } }
  else
    let i := { i with st := .zeroizing, tamper := t, unlock := unl, hasDik := false, hasCert := false,
                      hardAfter := i.hardAfter || i.st == SisSt.hardErr }
    State.modWdn (State.zeroStart { s with island := i.reset true }) (·.pushIbi 0x02 4)

/-- The island's supply is there and no wide class holds it in reset. -/
def State.sisOn (s : State) : Bool := s.wdn.supply && !s.wdn.asserted

/-- R555 over an image, against a set of fused hashes, revocations and minimum SVNs: the RESULT. The conditions are checked in the order
in which R555 lists them: DEDUCED (log entry 26). -/
def verifyImage (revoked : List Nat) (minSvn : Nat) (img : Bytes) : Nat :=
  let body := leNat ((img.drop 8).take 4)
  let key := (img.drop 0x0C).take 97
  let ks := leNat ((img.drop 5).take 1)
  if img.length ≠ 256 + body ∨ 0x1000000 < body then resArgs
  else if ks > 3 ∨ sha key ≠ padTo 48 (Config.fwkh ks) ∨ revoked.contains ks then resSig
  else if leNat ((img.drop 6).take 1) < minSvn then resRollback
  else if ecdsaVerify key (sha (img.take 0xA0 ++ img.drop 256)) ((img.drop 0xA0).take 96) then resOk
  else resSig

/-! ### Start (R544, R553, R556, R569, R570) -/

/-- SHA-384 of the island firmware that runs, and its version (Table 14.7, SIS_STAT.FWVER). -/
def Island.fwHash (i : Island) : Bytes :=
  match i.img with
  | some b => sha b
  | none => padTo 48 Config.islandHash
def Island.fwVer (i : Island) : Nat :=
  match i.img with
  | some b => Config.imageVer b
  | none => Config.islandVer

/-- The island image of the boot flash slot in force (R628, R639): none where nothing was staged there, and the island runs the
firmware it was made with. DEDUCED (log entry 24). -/
def Warden.islandImage (w : Warden) : Option Bytes :=
  match w.imgs.find? (fun e => e.1 == 8 * w.bootSel.getD 0 + 4) with
  | some (_, b) => some b
  | none => none

/-- R556: the island ROM verifies island firmware as VERIFY does for TYPE 4. -/
def Island.imageOk (i : Island) (img : Option Bytes) : Bool :=
  match img with
  | some b => verifyImage i.revoked (sget 0 i.minSvn 4) b == resOk
  | none => true

/-- The pre-operational tests have passed: measurements of the start, KEYGEN when no identity is found, OPERATIONAL. A pairwise
test of a new key pair that fails ends in HARD_ERR, with the fuse burned (R545, R553). DEDUCED (log entry 24). -/
def State.sisPass (s : State) (pair : Bool) : State :=
  let i := (s.island.extend 0 s.island.fwHash).event [BitVec.ofNat 8 s.island.tamper]
  let s := { s with island := i }
  if i.hasDik then s.sisGo .operational
  else
    let s := s.sisGo .keygen
    if i.dikGen = 63 then s.sisErr .hardErr
    else if !pair then State.sisErr { s with island := { s.island with dikGen := i.dikGen + 1 } } .hardErr
    else
      let i := { s.island with dikGen := i.dikGen + 1, hasDik := true }
      let i := if i.unlock then { i.event [0x0D#8] with unlock := false } else i
      State.sisGo { s with island := i } .operational

/-- The tests of a start, with their outcome (R544, R556). DEDUCED (log entry 24). -/
def State.sisTests (s : State) (o : StartRes) : State :=
  let s := s.sisGo .selftest
  let img := s.wdn.islandImage
  if o == .fail || s.island.hardAfter || s.island.lidLatch || !s.island.imageOk img then s.sisErr .hardErr
  else State.sisPass { s with island := { s.island with img := img } } (o == .pass)

/-- The source of the class that governs is asserted: a Warden supply out of regulation, or TRAY_RST_N low (R112, R113). -/
def Warden.sourceOn (w : Warden) : Bool := (w.cls == .por && !w.supply) || (w.cls == .tray && w.trayLow)

/-- The erasure is complete (Table 14.11, step 6): test access opens when an unlock was accepted (R570); ZERO is released, and
the release order begins unless a wider class's source holds it. DEDUCED (log entry 25). -/
def State.zeroEnd (s : State) : State :=
  let s := { s with island := { s.island with dbg := s.island.unlock } }
  if s.wdn.sourceOn then s.modWdn (fun w => { w with zeroHold := false }) else s.releaseBegin

/-- ISLAND_START. At the end of an erasure ZERO is released first (Table 14.11, step 6). DEDUCED (log entry 25). -/
def State.islandStart (s : State) (o : StartRes) : State :=
  match s.island.st with
  | .zeroizing =>
    let s := if s.wdn.zeroHold then s.zeroEnd else s
    if s.sisOn then s.sisTests o else s.sisGo .selftest
  | .selftest =>
    if !s.sisOn then s
    else if s.island.lidLatch then { s with island := { s.island with hardAfter := true } }.zeroize true false
    else s.sisTests o
  | _ => s

/-- PERIODIC_SELFTEST (R546). DEDUCED (log entry 24). -/
def State.periodicTest (s : State) (ok : Bool) : State :=
  if !s.sisOn then s
  else
    match s.island.st with
    | .operational | .softErr => if ok then s else s.sisErr .hardErr
    | _ => s

/-- HEALTH_TEST_FAIL (R545). DEDUCED (log entry 24). -/
def State.healthFail (s : State) : State :=
  if s.sisOn && s.island.st == .operational then s.sisErr .softErr else s

/-- TEMP_EXCURSION (R543); during an erasure HARD_ERR follows it. DEDUCED (log entry 24). -/
def State.tempExcursion (s : State) : State :=
  if s.island.st = .zeroizing then { s with island := { s.island with hardAfter := true } }
  else if s.sisOn then s.sisErr .hardErr
  else s

/-- LID_TRIP (R566, R569). DEDUCED (log entry 25). -/
def State.lidTrip (s : State) : State := if s.wdn.supply then s.zeroize true false else s

/-! ### Crypto Officer check (R551) -/

/-- The check for opcode `op` with a key, a signature and the other argument bytes, against the challenge `ch`.
DESIGN CHOICE (log entry 23). -/
def Island.officer (i : Island) (ch : Option Bytes) (key sig : Bytes) (op : Nat) (args : Bytes) : Bool :=
  match i.owner with
  | none => true
  | some h =>
    match ch with
    | none => false
    | some c =>
      sha key == h && ecdsaVerify key (sha (c ++ BitVec.ofNat 8 op :: args)) sig
        && decide (i.chalAge < 6000000000)

/-! ### Commands (14.3) -/

/-- A write while BUSY is 1 (R549): refused, and WREF is set. -/
def State.sisBusyRefuse (s : State) : State :=
  State.wdnRefuse { s with island := { s.island with wref := true } }

/-- A command starts (R550): BUSY; it consumes the challenge (R551). -/
def Island.begin (i : Island) (op : Nat) : Island :=
  { i with busy := some ⟨op, i.chal⟩, chal := none, done := false }

/-- R549, R550: a command named by opcode `op`, from its SIS_CMD write to its end; or, where a write of SIS_CMD has started that
command before, its end. `soft` tells a command that SOFT_ERR offers (Table 14.2). It gets the challenge that it consumed.
DEDUCED (log entry 22). -/
def State.sisCmd (s : State) (p : Party) (op : Nat) (soft : Bool) (run : Option Bytes → State → State) : State :=
  if p != .wardenFw then s.wdnRefuse
  else if !s.sisOn then s
  else if s.island.busy.any (fun b => b.op != op) then s.sisBusyRefuse
  else
    let i := if s.island.busy.isNone then s.island.begin op else s.island
    let ch := i.busy.bind (·.ch)
    let i := { i with busy := none }
    let s := { s with island := i }
    if i.st = .operational ∨ (i.st = .softErr ∧ soft) then run ch s
    else { s with island := i.finish resState [] }

/-- A command that changes the island alone. -/
def State.sisLocal (s : State) (p : Party) (op : Nat) (soft : Bool) (run : Option Bytes → Island → Island) : State :=
  s.sisCmd p op soft (fun ch s => { s with island := run ch s.island })

/-- A Crypto Officer command (R551): `n` other argument bytes at 193. DEDUCED (log entry 22). DESIGN CHOICE (log entry 23). -/
def State.sisOfficer (s : State) (p : Party) (op n : Nat) (run : Bytes → State → State) : State :=
  s.sisCmd p op false (fun ch s =>
    let i := s.island
    let args := i.argB 193 n
    if i.officer ch (i.argB 0 97) (i.argB 97 96) op args then run args s
    else { s with island := i.finish resAuth [] })

/-- SELFTEST (0x01). -/
def State.cmdSelftest (s : State) (p : Party) (ok : Bool) : State :=
  s.sisCmd p 0x01 true (fun _ s =>
    if !ok then s.sisErr .hardErr
    else
      let s := s.sisGo .operational
      { s with island := s.island.finish resOk [] })

/-- GETID (0x02). -/
def Island.getid (i : Island) : Island :=
  let kak := kakPub i.dikGen
  let cert := if i.hasCert then Config.dikCert.take 720 else []
  i.finish resOk (dikPub i.dikGen ++ kak ++ padTo 96 (dikSign i.dikGen (sha kak))
    ++ natLe 2 cert.length ++ cert)
def State.cmdGetid (s : State) (p : Party) : State := s.sisLocal p 0x02 false (fun _ i => i.getid)

/-- VERIFY of an image (R555): the RESULT and the island with its measurement. -/
def Island.verify (i : Island) (ty : Nat) (img : Bytes) : Nat × Island :=
  if ty > 4 then (resArgs, i)
  else
    let r := verifyImage i.revoked (sget 0 i.minSvn ty) img
    (r, if r = resOk ∧ ty < 4 then i.extend (ty + 1) (sha img) else i)

/-- VERIFY (0x03): the image lies in Warden SRAM. -/
def State.cmdVerify (s : State) (p : Party) : State :=
  let sram := s.wdn.sram
  s.sisLocal p 0x03 false (fun _ i =>
    let len := i.argN 5 4
    if len > 0x1000100 then i.finish resArgs []
    else
      let r := i.verify (i.argN 0 1) (mread sram (i.argN 1 4) len)
      r.2.finish r.1 [])

/-- EXTEND (0x04). -/
def State.cmdExtend (s : State) (p : Party) : State :=
  s.sisLocal p 0x04 false (fun _ i =>
    let n := i.argN 0 1
    if n = 5 ∨ n = 7 then (i.extend n (i.argB 1 48)).finish resOk [] else i.finish resArgs [])

/-- QUOTE (0x05, Table 14.9). -/
def Island.quote (i : Island) (wdnId serial : Nat) : Island :=
  let m := i.argN 0 1
  if m = 0 then i.finish resArgs []
  else
    let fl := b2n i.dbg + 2 * b2n (decide (0 < i.tamper)) + 4 * b2n (i.dikGen == 0)
    let q := natLe 4 0x51534953 ++ natLe 2 1 ++ natLe 2 fl ++ natLe 4 wdnId ++ natLe 1 i.dikGen ++ natLe 3 0
      ++ natLe 8 serial ++ natLe 1 m ++ natLe 3 0 ++ natLe 4 i.qcount ++ i.argB 1 48
      ++ (idxs 8 (fun n => m.testBit n)).flatMap (fun n => i.mregOf n)
    { i with qcount := i.qcount + 1 }.finish resOk (q ++ padTo 96 (dikSign i.dikGen (sha q)))

/-- WDN_ID (Table 12.11). -/
def State.wdnId (s : State) : W32 := BitVec.ofNat 32 (0x5A020000 + s.sku % 16 * 256 + s.stepId % 256)
/-- DESIGN CHOICE (log entry 26). -/
def State.cmdQuote (s : State) (p : Party) : State :=
  let id := s.wdnId.toNat
  let ser := s.serial.toNat
  s.sisLocal p 0x05 false (fun _ i => i.quote id ser)

/-- IMPORT (0x06, R561, R572). -/
def State.cmdImport (s : State) (p : Party) : State :=
  s.sisLocal p 0x06 false (fun _ i =>
    let n := i.argN 0 1
    let k := i.argN 1 2
    if i.dbg then i.finish resState []
    else if n > 64 ∨ (n ≠ 0 ∧ (k < 2 ∨ k > 0xFFF)) then i.finish resArgs []
    else if n ≠ 0 ∧ i.slots.any (fun e => e.1 != 0 && e.1 != n && e.2.k == k) then i.finish resArgs []
    else
      match importKey i.dikGen (i.argB 3 97) (i.argB 100 40) with
      | none => i.finish resBadwrap []
      | some key => { i with slots := sput i.slots n ⟨padTo 32 key, if n = 0 then 0 else k⟩ }.finish resOk [])

/-- FORGET (0x07). -/
def State.cmdForget (s : State) (p : Party) : State :=
  s.sisLocal p 0x07 false (fun _ i =>
    let n := i.argN 0 1
    if n > 64 then i.finish resArgs [] else { i with slots := sdel i.slots n }.finish resOk [])

/-- Context of a derivation (Table 14.10): `tx` tells the transmit output. -/
def kdfContext (host tx : Bool) (id die port hid pid pdie pport gen : Nat) : Bytes :=
  let own := natLe 2 id ++ natLe 1 die ++ natLe 1 port
  let peer := natLe 2 pid ++ natLe 1 pdie ++ natLe 1 pport
  if host then own ++ natLe 2 hid ++ natLe 1 (b2n (!tx)) ++ natLe 1 0 ++ natLe 4 gen
  else (if tx then own ++ peer else peer ++ own) ++ natLe 4 gen

/-- "PH-RIM-FAB" and "PH-RIM-HOST" in ASCII. -/
def kdfLabel (host : Bool) : Bytes :=
  [0x50#8, 0x48#8, 0x2D#8, 0x52#8, 0x49#8, 0x4D#8, 0x2D#8]
    ++ (if host then [0x48#8, 0x4F#8, 0x53#8, 0x54#8] else [0x46#8, 0x41#8, 0x42#8])

/-- The port takes both keys of key slot `ks`, and its IV counters restart (R562). DESIGN CHOICE (log entry 48). -/
def RimPort.loadKeys (q : RimPort) (ks : Nat) (tx rx : Bytes) : RimPort :=
  { q with keys := sput (sput q.keys (2 * ks) tx) (2 * ks + 1) rx, iv := sput (sput q.iv (2 * ks) 0) (2 * ks + 1) 0 }

/-- R563: the RESULT of LOADKEY. -/
def Island.loadCheck (i : Island) (topo : W32) (q : RimPort) (d n ks ms gen : Nat) : Nat :=
  let g := 16 * d + n
  if i.dbg then resState
  else if d > 3 ∨ n > 15 ∨ ks > 1 ∨ ms > 64 ∨ !bit topo 31 then resArgs
  else if (ms == 0) == q.host then resArgs
  else
    match i.slots.find? (fun e => e.1 == ms) with
    | none => resNokey
    | some e =>
      if ms ≠ 0 ∧ q.pkey ≠ e.2.k then resArgs
      else if q.en ∧ q.ksel = ks then resInuse
      else if shas i.gens g ∧ gen ≤ sget 0 i.gens g then resGen
      else resOk

/-- LOADKEY (0x08, R562, R563). -/
def State.cmdLoadkey (s : State) (p : Party) : State :=
  s.sisCmd p 0x08 false (fun _ s =>
    let i := s.island
    let d := i.argN 0 1
    let n := i.argN 1 1
    let ks := i.argN 2 1
    let ms := i.argN 3 1
    let gen := i.argN 8 4
    let topo := (s.rim d).topo
    let q := (s.rim d).port n
    let r := i.loadCheck topo q d n ks ms gen
    if r ≠ resOk then { s with island := i.finish r [] }
    else
      let out (tx : Bool) : Bytes :=
        kdf108 (sget ⟨[], 0⟩ i.slots ms).key (kdfLabel (ms != 0))
          (kdfContext (ms != 0) tx (bits topo 9 0) d n q.hid (i.argN 4 2) (i.argN 6 1) (i.argN 7 1) gen) 288
      let s := s.modRim d (fun x => x.modPort n (fun q => q.loadKeys ks (out true) (out false)))
      { s with island := { i with gens := sput i.gens (16 * d + n) gen }.finish resOk [] })

/-- RANDOM (0x09). DESIGN CHOICE (log entry 26). -/
def State.cmdRandom (s : State) (p : Party) : State :=
  s.sisLocal p 0x09 false (fun _ i =>
    let n := i.argN 0 2
    if n = 0 ∨ n > 256 then i.finish resArgs []
    else { i with drawn := i.drawn + 1 }.finish resOk (padTo n (Config.drbg i.drawn n)))

/-- CHALLENGE (0x0A). -/
def State.cmdChallenge (s : State) (p : Party) : State :=
  s.sisLocal p 0x0A true (fun _ i =>
    let c := padTo 48 (Config.drbg i.drawn 48)
    { i with drawn := i.drawn + 1, chal := some c, chalAge := 0 }.finish resOk c)

/-- SET_OWNER (0x0B, R552). -/
def State.cmdSetOwner (s : State) (p : Party) : State :=
  s.sisOfficer p 0x0B 97 (fun args s =>
    { s with island := ({ s.island with owner := some (sha args) }.event (0x0B#8 :: args)).finish resOk [] })

/-- ZEROIZE (0x0C). -/
def State.cmdZeroize (s : State) (p : Party) : State := s.sisOfficer p 0x0C 0 (fun _ s => s.zeroize false false)

/-- UNLOCK (0x0D). -/
def State.cmdUnlock (s : State) (p : Party) : State := s.sisOfficer p 0x0D 0 (fun _ s => s.zeroize false true)

/-- REVOKE (0x0E, R552). -/
def State.cmdRevoke (s : State) (p : Party) : State :=
  s.sisOfficer p 0x0E 1 (fun args s =>
    let i := s.island
    let n := leNat args
    let l := if i.revoked.contains n then i.revoked else n :: i.revoked
    if n > 3 ∨ l.length > 3 then { s with island := i.finish resArgs [] }
    else { s with island := ({ i with revoked := l }.event (0x0E#8 :: args)).finish resOk [] })

/-- SVNRAISE (0x0F, R552). DESIGN CHOICE (log entry 26). -/
def State.cmdSvnraise (s : State) (p : Party) : State :=
  s.sisOfficer p 0x0F 2 (fun args s =>
    let i := s.island
    let ty := leNat (args.take 1)
    let v := leNat (args.drop 1)
    if ty > 4 ∨ v ≤ sget 0 i.minSvn ty ∨ v > 32 then { s with island := i.finish resArgs [] }
    else { s with island := ({ i with minSvn := sput i.minSvn ty v }.event (0x0F#8 :: args)).finish resOk [] })

/-- A SIS_CMD write with any OPCODE (R549, R550): the command of Table 14.3 starts, and its own row ends it; an unknown one returns
ARGS at once. DEDUCED (log entry 22). -/
def State.sisOpcode (s : State) (p : Party) (op : Nat) : State :=
  if 1 ≤ op ∧ op ≤ 0x0F then
    (if p != .wardenFw then s.wdnRefuse
     else if !s.sisOn then s
     else if s.island.busy.isSome then s.sisBusyRefuse
     else { s with island := s.island.begin op })
  else s.sisLocal p op false (fun _ i => i.finish resArgs [])

/-! ### The test access port (R152, R568) -/

/-- The unlock register takes an owner key and a signature (R568, R570). -/
def State.tapUnlock (s : State) (b : Bytes) : State :=
  let i := s.island
  let run := (s.sisOn && i.st == .operational) || (s.wdn.supply && i.st == .zeroizing)
  if b.length ≠ 193 ∨ !run then s
  else
    let s := { s with island := { i with chal := none } }
    if i.officer i.chal (b.take 97) (b.drop 97) 0x0D [] then s.zeroize false true else s

/-- What a scan of the data register that instruction `ir` selects captures: the current challenge, one zero bit of BYPASS, or
what IEEE 1149.1 and the part fix. DEDUCED (log entry 80). -/
def State.tapCapture (s : State) (ir : TapInstr) : Bytes :=
  match ir with
  | .challenge => padTo 48 (s.island.chal.getD [])
  | .idcode => Config.tapIdcode
  | .sample | .extest => Config.tapBoundary s.freeCtr
  | _ => [0#8]

/-- A scan of the test access port: the instruction, then its data register with `b` shifted in. While test access is locked every
instruction that R568 does not list selects BYPASS; the spec gives none that test access adds. DEDUCED (log entry 80). -/
def State.tapScan (s : State) (ir : TapInstr) (b : Bytes) : State :=
  let ir := match ir with
    | .other _ => .bypass
    | i => i
  let dr := s.tapCapture ir
  let s := s.modWdn (fun w => { w with tap := { ir := ir, dr := dr } })
  let s := if ir == .sample || ir == .extest then { s with freeCtr := s.freeCtr + 1 } else s
  if ir == .unlock then s.tapUnlock b else s

/-- TRST* resets the controller of the test access port alone (R152). -/
def State.tapReset (s : State) : State := s.modWdn (fun w => { w with tap := {} })

/-! ### SIS_ registers (14.9) -/

/-- SIS_STAT (Table 14.12). -/
def Island.stat (i : Island) : W32 :=
  BitVec.ofNat 32 (i.fwVer % 65536 * 65536 + i.dikGen * 256 + b2n i.wref * 64 + b2n (decide (0 < i.tamper)) * 32
    + b2n i.dbg * 16 + i.st.code)

/-- A read of a SIS_ register at a Warden offset (R573). -/
def Island.read (i : Island) (p : Party) (off : Nat) : W32 :=
  let pub := p == .wardenFw || p == .pressM || hostParty p
  if !pub then 0#32
  else if off = 0x2000 then i.stat
  else if off = 0x2008 then BitVec.ofNat 32 (b2n i.done * 2 ^ 31 + b2n i.busy.isSome * 2 ^ 30 + i.result)
  else if off = 0x2010 then BitVec.ofNat 32 i.tamper
  else if 0x2400 ≤ off ∧ off < 0x2800 ∧ p = .wardenFw then mread32 i.buf (off - 0x2400)
  else 0#32

/-- A write of a SIS_ register (R549). -/
def State.sisWrite (s : State) (p : Party) (off : Nat) (v : W32) : State :=
  if off = 0x2004 then s.sisOpcode p (bits v 7 0)
  else if off ≠ 0x2000 ∧ !(0x2400 ≤ off && off < 0x2800) then s
  else if p ≠ .wardenFw then s.wdnRefuse
  else if off = 0x2000 then { s with island := { s.island with wref := s.island.wref && !bit v 6 } }
  else if 0x2400 ≤ off ∧ off < 0x2800 then { s with island := { s.island with buf := mwrite32 s.island.buf (off / 4 * 4 - 0x2400) v } }
  else s

end Sys2Proof.Machine
end

