-- ==== Sys2Proof/Machine/Flags.lean ====
section
/-! DEFINITION. Status bits: the access codes of R9, and the error bits of Warden SRAM and Ground (Table 15.3). -/

namespace Sys2Proof.Machine

/-! ### Access codes (R9, R10, R12) -/

/-- W1C: ones clear the bits of `mask`, the others stay. -/
def w1c {n : Nat} (old v mask : BitVec n) : BitVec n := old &&& ~~~(v &&& mask)

/-- W1S: ones set bits. -/
def w1s {n : Nat} (old v : BitVec n) : BitVec n := old ||| v

/-- W1C of one half of a 64-bit register. -/
def w1cHalf (w : W64) (hi : Bool) (v : W32) : W64 :=
  w1c w (BitVec.ofNat 64 (if hi then v.toNat * 2 ^ 32 else v.toNat)) (~~~0#64)

/-! ### Errors of Warden SRAM and Ground (R575, Table 15.3) -/

/-- An uncorrectable word of Ground or of SRAM is found: WDN_ERR, and WDN_ERR_ADDR while its capture is armed. -/
def Warden.recordUe (w : Warden) (gnd : Bool) (addr : Nat) : Warden :=
  let armed := !bit w.err 1 && !bit w.err 2
  { w with err := setBit w.err (if gnd then 2 else 1) true,
           errAddr := if armed then BitVec.ofNat 32 (2 ^ 31 + b2n gnd * 2 ^ 30 + addr / 8 * 8 % 2 ^ 24) else w.errAddr }

/-- The same for a word at a Warden offset. DESIGN CHOICE (log entry 65). -/
def Warden.noteUe (w : Warden) (off : Nat) : Warden :=
  let gnd := decide (0x200000 ≤ off ∧ off < 0x210000)
  w.recordUe gnd (if gnd then off - 0x200000 else off)

/-- A corrected word is found (WDN_ERR.SCE). -/
def Warden.noteCe (w : Warden) : Warden := { w with err := setBit w.err 0 true }

/-- What the SECDED check of the 64-bit word at a Warden offset finds. DESIGN CHOICE (log entry 6). -/
def Warden.eccAt (w : Warden) (off : Nat) : Ecc := sget .good w.bad (off / 8)

end Sys2Proof.Machine
end

