-- ==== Sys2Proof/Machine/Rim.lean ====
section
/-! DEFINITION. The Rim dies: routing, keys, buckets, failover, neighbour loss, link training and registers
(chapter 11). -/

namespace Sys2Proof.Machine

/-! ### Status and reports -/

def Rim.setStat (x : Rim) (b : Nat) : Rim := { x with stat := setBit x.stat b true }
def Rim.refuse (x : Rim) : Rim := x.setStat 6
/-- One packet answered UNDELIVERED or discarded (R442, R449). -/
def Rim.countUndeliv (x : Rim) : Rim := { x with undeliv := satInc x.undeliv 0xFFFFFFFF }
/-- Refused by key (R454). -/
def Rim.countKey (x : Rim) : Rim := { x with keydrop := satInc x.keydrop 0xFFFFFFFF }.setStat 2

/-- A Rim report reaches the Warden: WDN_EVT_RIM and MSI-X vector 2 (R584). -/
def State.rimReport (s : State) (d : Nat) : State :=
  s.modWdn (fun w => { w with evtRim := setBit w.evtRim d true }.sendMsix 2)

def oppDie (d : Nat) : Nat := (d + 2) % 4

/-! ### Positions and buckets (R440, R442) -/

def topoNx (t : W32) : Nat := bits t 20 16 + 1
def topoNy (t : W32) : Nat := bits t 25 21 + 1
/-- DESIGN CHOICE (log entry 50). -/
def onTorus (t : W32) (id : Nat) : Bool := decide (id % 32 < topoNx t) && decide (id / 32 < topoNy t)

/-- The bucket of a packet (R440). -/
def bucketOf (h : Hdr) : Nat :=
  let x := (h.splate % 1024) ^^^ h.sy ^^^ h.sx ^^^ (h.dplate % 1024) ^^^ h.dy ^^^ h.dx
  (x % 64) ^^^ (x / 64 % 16)

/-- Steps from `a` to `b` in the direction of travel of die d, in a ring of n positions; a full turn counts n. -/
def ringSteps (d n a b : Nat) : Nat :=
  let k := if d = 1 ∨ d = 2 then (b + n - a) % n else (a + n - b) % n
  if k = 0 then n else k

/-- A Plate's position in the ring of die d. -/
def ringPos (d id : Nat) : Nat := if d % 2 = 1 then id % 32 else id / 32
def ringSize (t : W32) (d : Nat) : Nat := if d % 2 = 1 then topoNx t else topoNy t

/-- R442: the destination's position lies strictly between this Plate and the neighbour. -/
def absent (t : W32) (d nbr dplate : Nat) : Bool :=
  let me := ringPos d (bits t 9 0)
  let n := ringSize t d
  ringPos d dplate != me && decide (ringSteps d n me (ringPos d dplate) < ringSteps d n me (ringPos d nbr))

/-- R437's ring lanes: the link to the neighbour crosses the end of the ring. -/
def wraps (t : W32) (d nbr : Nat) : Bool :=
  let me := ringPos d (bits t 9 0)
  let dst := ringPos d nbr
  if d = 1 ∨ d = 2 then decide (dst < me) else decide (me < dst)

def Rim.bktPort (x : Rim) (b : Nat) : Nat := bits (sget 0#32 x.bkt (b / 8)) (4 * (b % 8) + 3) (4 * (b % 8))
def Rim.setBkt (x : Rim) (b n : Nat) : Rim :=
  { x with bkt := sput x.bkt (b / 8) (setBits (sget 0#32 x.bkt (b / 8)) (4 * (b % 8) + 3) (4 * (b % 8)) n) }
def Rim.keyOk (x : Rim) (k : Nat) : Bool := bit (sget 0#32 x.keymap (k / 32)) (k % 32)
/-- The UP fabric ports, ascending. -/
def Rim.upPorts (x : Rim) : List Nat := idxs 16 (fun n => (x.port n).up && (x.port n).fabric)

/-- A packet of bucket b must wait: its port is DOWN or fails over, or the bucket has moved and waits (R445, R448). -/
def Rim.blocked (x : Rim) (b n : Nat) : Bool :=
  (x.port n).st == 3 || (x.port n).host || x.fo.any (fun e => e.buckets.contains b || e.port == n)
    || x.moved.any (fun m => m.1 == b)

/-! ### Toward a port -/

/-- Hand a packet to die d's ports (R438, R440, R442, R461); answers the status of a refusal, 0 for none. -/
def State.rimPlace (s : State) (d : Nat) (o : OutPkt) : State × Nat :=
  let x := s.rim d
  let dp := o.p.h.dplate
  if x.rst || !bit x.topo 31 then (s, 6)
  else if !onTorus x.topo dp then
    let n := 12 + dp / 4 % 4
    let p := x.port n
    if !(p.up && p.host && p.hid == dp) then (s, 6)
    else if o.p.h.pkey != p.pkey then (s, 5)
    else (s.setRim d (x.setPort n (RimPort.drain { p with q := p.q ++ [{ o with rl := false }] })), 0)
  else
    match x.loss, x.nbr with
    | .broken, _ => (s, 6)
    | .ok, some nbr =>
      if absent x.topo d nbr dp then (s, 6)
      else
        let b := bucketOf o.p.h
        let n := x.bktPort b
        let o := { o with rl := o.rl || wraps x.topo d nbr }
        if x.blocked b n then (s.setRim d { x with held := x.held ++ [o] }, 0)
        else (s.setRim d (x.modPort n (fun p => RimPort.drain { p with q := p.q ++ [o] })), 0)
    | _, _ => (s.setRim d { x with held := x.held ++ [o] }, 0)

/-- Count a refusal of R442 or R454 at die d; a die in reset counts nothing (R577). -/
def Rim.countRefusal (x : Rim) (st : Nat) : Rim :=
  if x.rst then x
  else if st = 5 then x.countKey else x.countUndeliv.setStat (if bit x.topo 31 then 1 else 0)

/-- An answer of die d begins at bridge router r, or waits there for a credit behind the earlier ones (R81, R85). -/
def State.rimSay (s : State) (d r : Nat) (a : Packet) : State :=
  if !(s.rim d).ans.any (·.1 == r) && s.canInject r .bridge a.h.ch then s.inject r .bridge a
  else s.modRim d (fun x => { x with ans := x.ans ++ [(r, a)] })

/-- The answers that wait at die d's bridges, in order. -/
def State.rimSayAll (s : State) (d : Nat) : State :=
  let l := (s.rim d).ans
  if l.isEmpty then s
  else l.foldl (fun s e => s.rimSay d e.1 e.2) (s.modRim d (fun x => { x with ans := [] }))

/-- An answer from bridge router r (R348): into the mesh, or out by the die that R438 chooses; a C1 packet that cannot
leave is discarded and counted. DEDUCED (log entry 52). -/
def State.rimAnswer (s : State) (d r : Nat) (q : Packet) (st : Nat) : State :=
  if answered q.h.ch then
    let t := (s.rim d).topo
    let a := answerTo t r true q (!wantsResp q.h.op) st 0#32
    if isOwn t a.h.dplate then s.rimSay d r a
    else
      let e := chooseDie t a.h.dplate
      match s.rimPlace e { p := a } with
      | (s, 0) => s
      | (s, k) => s.modRim e (·.countRefusal k)
  else s

/-- Toward die d's neighbour or host adapter; a refused packet is answered from bridge router r or discarded, and
counted. -/
def State.rimDispatch (s : State) (d r : Nat) (o : OutPkt) : State :=
  match s.rimPlace d o with
  | (s, 0) => s
  | (s, k) => (s.modRim d (·.countRefusal k)).rimAnswer d r o.p k

/-- The bridge router that answers for a packet on its way out of die d. -/
def outRouter (d : Nat) (h : Hdr) : Nat := bridgeRouter d (bridgeNo d h.sy h.sx)

/-- Packets given again to the ports of die d, in order. -/
def State.rimAgain (s : State) (d : Nat) (l : List OutPkt) : State :=
  l.foldl (fun s o => s.rimDispatch d (outRouter d o.p.h) o) s

/-- Held packets leave, or are held again. -/
def State.rimRelease (s : State) (d : Nat) : State :=
  let l := (s.rim d).held
  (s.modRim d (fun x => { x with held := [] })).rimAgain d l

/-- UNDELIVERED to C0 and C2 packets, C1 and C3 packets discarded, all counted (R449). -/
def State.rimFlush (s : State) (d : Nat) (l : List OutPkt) : State :=
  l.foldl (fun s o => (s.modRim d (·.countUndeliv)).rimAnswer d (outRouter d o.p.h) o.p 6) s

/-! ### Failover and loss (R443 to R451) -/

/-- The last failover finds no port, or no neighbour comes back: RINGBRK (R450, 11.14). -/
def State.ringBreak (s : State) (d : Nat) : State :=
  let x := s.rim d
  let fab := idxs 16 (fun n => (x.port n).fabric)
  let lost := x.fo.flatMap (fun e => e.frames.flatMap (·.ps)) ++
    fab.flatMap (fun n => (x.port n).rep.flatMap (·.ps) ++ (x.port n).q) ++ x.held
  let x := fab.foldl (fun x n => x.modPort n (fun p =>
    { p with rep := [], q := [], st := 3, reason := if p.st = 3 then p.reason else 4 })) x
  let s := s.setRim d { x.setStat 5 with loss := .broken, fo := [], moved := [], held := [] }
  (s.rimReport d).rimAgain d lost

/-- The first failover starts: its buckets move, and FAILOVER_REQ goes out on the lowest UP port (R443, R444, R446). -/
def State.foStart (s : State) (d : Nat) : State :=
  let x := s.rim d
  match x.fo, x.loss with
  | e :: rest, .ok =>
    if e.run then s
    else
      match x.upPorts with
      | [] => if (idxs 16 (fun n => (x.port n).fabric && (x.port n).st == 1)).isEmpty then s.ringBreak d else s
      | low :: more =>
        let ups := low :: more
        let order := ups.filter (fun n => e.port < n) ++ ups.filter (fun n => n ≤ e.port)
        let bs := idxs 64 (fun b => x.bktPort b == e.port)
        let x := (List.range bs.length).foldl (fun x i => x.setBkt (bs.getD i 0) (order.getD (i % order.length) 0)) x
        let x := { x with fo := { e with run := true, buckets := bs } :: rest }
        s.setRim d (x.modPort low (·.emit (ctlFrame 0xC e.port 0 0 0)))
  | _, _ => s

/-- A port goes DOWN, or is disabled while in use (R436, R443, Table 15.9); R449 applies to a host port alone (R461): NBRLOSS, its
packets answered or discarded. -/
def State.portDown (s : State) (d n st reason : Nat) : State :=
  let x := s.rim d
  let p := x.port n
  let p' := { p with st := st, reason := reason, rep := [], q := [] }
  let x := (x.setPort n p').setStat 3
  if p.host then ((s.setRim d (x.setStat 4)).rimReport d).rimFlush d (p.rep.flatMap (·.ps) ++ p.q)
  else
    ((s.setRim d { x with held := p.q ++ x.held, fo := x.fo ++ [{ port := n, buckets := [], frames := p.rep }] }).rimReport d).foStart d

/-- FAILOVER_RSP: frames up to LASTRX are discarded, the packets of the rest are resent on their new ports, held packets
follow, and the next failover starts (R444 to R446). -/
def State.foDone (s : State) (d : Nat) (e : Failover) (rest : List Failover) (last : Option Nat) : State :=
  let left : List RepEnt := match last with
    | some a => e.frames.filter (fun f => !covers a f.seq)
    | none => e.frames
  let s := s.modRim d (fun x =>
    { x with fo := rest, moved := x.moved.filter (fun m => m.2 != e.port), held := left.flatMap (·.ps) ++ x.held })
  (s.rimRelease d).foStart d

def State.foRsp (s : State) (d : Nat) (port : Nat) (last : Option Nat) : State :=
  match (s.rim d).fo with
  | e :: rest => if e.run && e.port == port then s.foDone d e rest last else s
  | [] => s

/-- Every UP port has lost its signal (R449). DEDUCED (log entry 47). -/
def State.neighbourLoss (s : State) (d : Nat) : State :=
  let x := s.rim d
  let fab := idxs 16 (fun n => (x.port n).fabric)
  let lost := x.fo.flatMap (fun e => e.frames.flatMap (·.ps)) ++ fab.flatMap (fun n => (x.port n).rep.flatMap (·.ps))
  let x := fab.foldl (fun x n =>
    if (x.port n).st = 3 then x else (x.freshPort n).modPort n (fun p => { p with st := 1, train := .fresh })) x
  let s := s.setRim d { x.setStat 4 with
    loss := .noSignal, moved := [], fo := (x.fo.filter (fun e => !e.run)).map (fun e => { e with frames := [] }) }
  (s.rimReport d).rimFlush d lost

/-- Every packet that waits for its bucket's older frames on the old port (R448). -/
def Rim.stillMoving (x : Rim) (m : Nat × Nat) : Bool :=
  let has (o : OutPkt) : Bool := bucketOf o.p.h == m.1
  let p := x.port m.2
  p.q.any has || p.rep.any (fun e => e.ps.any has) || x.fo.any (fun e => e.port == m.2)

/-- After frames have been acknowledged: buckets whose old frames are gone are no longer held (R448). -/
def State.movedDone (s : State) (d : Nat) : State :=
  let x := s.rim d
  let m := x.moved.filter x.stillMoving
  if m.length < x.moved.length then (s.setRim d { x with moved := m }).rimRelease d else s

/-! ### Training (R436, R450, R451) -/

/-- The LINK_ID that a port sends. DEDUCED (log entry 49). -/
def Rim.linkId (x : Rim) (d n : Nat) : Bytes :=
  let p := x.port n
  ctlFrame 0xB (bits x.topo 9 0 + d * 2 ^ 10 + b2n (bit x.topo 31) * 2 ^ 15) (n + b2n p.host * 16 + b2n p.enc * 32)
    (if p.host then p.pkey else 0) (bits x.topo 20 16 + bits x.topo 25 21 * 32)

/-- R451: the peer does not fit this port. DEDUCED (log entry 49). -/
def Rim.mismatch (x : Rim) (d n a b dd : Nat) : Bool :=
  let p := x.port n
  let id := a % 1024
  let me := bits x.topo 9 0
  let known := bit x.topo 31 && decide (a ≥ 32768)
  decide (b / 16 % 2 ≠ b2n p.host) || decide (b / 32 % 2 ≠ b2n p.enc) || decide (dd ≠ bits x.topo 20 16 + bits x.topo 25 21 * 32)
    || (!p.host && (decide (a / 1024 % 4 ≠ oppDie d)
         || (known && (id == me || (if d % 2 = 1 then id / 32 != me / 32 else id % 32 != me % 32)))))

/-- The port goes UP with its peer. A new neighbour lets waiting packets be judged again (R450, R442). -/
def State.portUp (s : State) (d n a b : Nat) : State :=
  let x := s.rim d
  let x := if (x.port n).st = 1 ∧ (x.port n).train = .fresh then x.freshPort n else x
  let p := x.port n
  let peer := some (a % 4096, b % 16)
  let p := { p with st := 2, reason := 0, peer := peer, count := 0, tx := p.tx ++ p.rep.map (·.frame) }
  let x := x.setPort n p
  if p.host then s.setRim d (x.setPort n p.drain)
  else
    let nbr := if a ≥ 32768 then some (a % 1024) else x.nbr
    if x.loss = .ok ∧ nbr = x.nbr then (s.setRim d (x.setPort n p.drain)).foStart d
    else
      let fab := idxs 16 (fun n => (x.port n).fabric)
      let l := fab.flatMap (fun n => (x.port n).q) ++ x.held
      let x := fab.foldl (fun x n => x.modPort n (fun p => { p with q := [] })) x
      ((s.setRim d { x with nbr := nbr, loss := .ok, held := [] }).rimAgain d l).foStart d

/-- LINK_ID at a port that trains, or that is UP and whose peer retrains. -/
def State.linkIdIn (s : State) (d n a b dd : Nat) : State :=
  let x := s.rim d
  let p := x.port n
  if x.mismatch d n a b dd then s.portDown d n 3 3
  else if (p.st = 2 ∨ p.train = .keep) ∧ p.peer ≠ some (a % 4096, b % 16) then s.portDown d n 3 1
  else
    let s := if p.st = 2 then s.setRim d (x.setPort n (p.emit (x.linkId d n))) else s
    s.portUp d n a b

/-! ### From a port -/

/-- The model's own marks of a packet that comes from another Plate or a host adapter: the port that waits for an
answer, and the destination tile's reset generation. DESIGN CHOICE (log entry 64). -/
def State.arriveMarks (s : State) (q : Packet) : Packet :=
  let r := routerOf q.h.dy q.h.dx
  let f := fieldOf r
  let back : RPort :=
    if q.h.op = opBar then .ctl
    else if hasGate f && r == gateOf f && shas (s.prs (clusterOfField f)).tags q.h.tag then .gate
    else if r == originOf f && shas s.wdn.req (64 * f + q.h.tag) then .ctl
    else .loc
  { q with back := back, gen := (s.tile r).gen }

/-- A packet for this Plate enters the mesh by bridge k (R439, R454). A crossing in discard state answers it (R577).
DESIGN CHOICE (log entry 64). -/
def State.rimEnter (s : State) (d : Nat) (q : Packet) : State :=
  let r := bridgeRouter d (bridgeNo d q.h.dy q.h.dx)
  if !(s.rim d).keyOk q.h.pkey then (s.modRim d (·.countKey)).rimAnswer d r q 5
  else if (s.fld (fieldOf r)).closed then s.rimAnswer d r q 6
  else s.inject r .bridge (s.arriveMarks q)

/-- R58 at a Rim port: the Global Address that a host adapter's packet names, in space 0x0 of a Plate, is malformed. An address
in host memory has no such form (R463). DEDUCED (log entry 52). -/
def hostGaBad (t : W32) (h : Hdr) : Bool :=
  let n := if h.op = 0x08 then 4 * (h.len + 1) else if h.op = 0x0E then 2 else if h.op = 0x0F then 1 else 4
  let mem := decide (h.op ≤ 0x10)
  (isOwn t h.dplate || onTorus t h.dplate) &&
    Ga.bad { space := 0, plate := 0, y := h.dy, x := h.dx, off := if !mem then 0 else if h.long then h.off else 4 * h.wordOff } n

/-- R462, R58 and Table 9.5: what a port may take in; 0, or the status of the answer. DEDUCED (log entry 52). -/
def RimPort.check (p : RimPort) (t : W32) (h : Hdr) : Nat :=
  if p.host && (h.pkey != p.pkey || h.pkey == 0) then 5
  else if 0x400 ≤ h.dplate ∧ h.dplate ≤ 0x7FE then 7
  else if p.host && (h.splate != p.hid || !h.srckind || hostGaBad t h ||
      !([0x01, 0x07, 0x08, 0x0E, 0x0F, 0x10, 0x14, 0x15, 0x18].contains h.op)) then 7
  else 0

/-- The die whose corner link a transit packet comes over to die e (Table 11.5). -/
def cornerPrev (d e : Nat) : Nat := if e = oppDie d then (if d = 3 then 0 else if d = 1 then 2 else if d = 0 then 3 else 1) else d

/-- Units of a corner link's buffer in use: packets that die e holds from die `c`, of a channel and ring lane (R437). -/
def Rim.cornerUsed (x : Rim) (c ch : Nat) (rl : Bool) : Nat :=
  let l := (idxs 16 (fun _ => true)).flatMap (fun n => (x.port n).q) ++ x.held
  (l.filter (fun o => o.via == some (c, rl) && o.p.h.ch == ch)).foldl (fun n o => n + frameUnits o.p.bytes.length) 0

/-- The path to the Warden has room: 16 words of depth, of which a longer packet takes all (Table 3.2, R80). -/
def Rim.mgmtRoom (x : Rim) (q : Packet) : Bool :=
  x.mgmt.isEmpty || decide (x.mgmt.foldl (fun n p => n + p.bytes.length / 4) (q.bytes.length / 4) ≤ 16)

def State.modPort (s : State) (d n : Nat) (g : RimPort → RimPort) : State := s.modRim d (·.modPort n g)

/-- A packet of an accepted frame at port n of die d is passed on (R439, R454, R462, R507), unless it must wait: for its bridge's
or a corner link's credit, for the path to the Warden, or behind an answer. DEDUCED (log entry 52). -/
def State.rimTake (s : State) (d n : Nat) (rl : Bool) (q : Packet) : Option State :=
  let x := s.rim d
  let p := x.port n
  let r := bridgeRouter d (bridgeNo d q.h.dy q.h.dx)
  let st := p.check x.topo q.h
  if st ≠ 0 then
    if p.host then
      some (if answered q.h.ch then
        s.modPort d n (fun p => RimPort.drain { p with q := p.q ++ [{ p := answerTo x.topo r true q (!wantsResp q.h.op) st 0#32 }] })
      else s)
    else some (s.rimAnswer d r q st)
  else if isOwn x.topo q.h.dplate then
    if q.h.op = opMgmt then
      (if !x.keyOk q.h.pkey then some (s.setRim d x.countKey)
       else if x.mgmtRoom q then some (s.setRim d { x with mgmt := x.mgmt ++ [q] })
       else none)
    else if x.ans.any (·.1 == r) || (x.keyOk q.h.pkey && !s.canInject r .bridge q.h.ch) then none
    else some (s.rimEnter d q)
  else
    let e := chooseDie x.topo q.h.dplate
    let r := outRouter e q.h
    if (s.rim e).ans.any (·.1 == r) then none
    else if e = d then some (s.rimDispatch d r { p := q })
    else
      let c := cornerPrev d e
      if (s.rim e).rst || (s.rim c).rst then some (s.rimAnswer d r q 6)
      else if (s.rim e).cornerUsed c q.h.ch rl + frameUnits q.bytes.length > 512 then none
      else some (s.rimDispatch e r { p := q, rl := rl && e == oppDie d, via := some (c, rl) })

/-- One packet of the receive buffers, in order within its port's lane and within its bucket (R441): it leaves and frees its
credits, or waits. -/
def State.rimOne (d : Nat) (a : State × List RxPkt × List Nat) (e : RxPkt) : State × List RxPkt × List Nat :=
  let ks := [8 * e.port + crKey e.p.h.ch e.rl, 128 + 4 * bucketOf e.p.h + e.p.h.ch]
  if ks.any a.2.2.contains then (a.1, a.2.1 ++ [e], ks ++ a.2.2)
  else
    match a.1.rimTake d e.port e.rl e.p with
    | some s => (s.modPort d e.port (·.freeRx (crKey e.p.h.ch e.rl) e.units), a.2.1, a.2.2)
    | none => (a.1, a.2.1 ++ [e], ks ++ a.2.2)

/-- Die d passes on what its receive buffers hold (R437, R439). DESIGN CHOICE (log entry 64). -/
def State.rimPump (s : State) (d : Nat) : State :=
  let s := s.rimSayAll d
  let l := (s.rim d).rx
  if l.isEmpty then s
  else
    match l.foldl (State.rimOne d) (s.modRim d (fun x => { x with rx := [] }), [], []) with
    | (s, kept, _) => s.modRim d (fun x => { x with rx := kept })

/-- The counters under which a data frame may be encrypted: the next one for the expected frame, a later one for a frame ahead,
an earlier one for a duplicate; frames lost before a start from SEQ 0 have used some. DESIGN CHOICE (log entry 48). -/
def RimPort.ctrs (p : RimPort) (f : DataFrame) : List Nat :=
  let c := sget 0 p.iv (2 * f.ksel + 1)
  let k := (f.seq + 65536 - p.exp) % 65536
  if k ≥ 32768 then (List.range (65536 - k)).map (fun i => c - 1 - i)
  else (List.range (k + (if p.got then 1 else 1490))).map (fun i => c + i)

/-- The plaintext of a data frame and the counter it was found under; none when its tag fails (R468). -/
def RimPort.plain (p : RimPort) (f : DataFrame) : Option (Nat × Bytes) :=
  if f.enc then
    (p.ctrs f).findSome? (fun c => (openWith (sget [] p.keys (2 * f.ksel + 1)) c f.hdr f.text f.tag).map (fun t => (c, t)))
  else some (0, f.text)

/-- What a data frame holds once R431 and R468 let it through at this port. DEDUCED (log entry 46). -/
def RimPort.good (p : RimPort) (f : DataFrame) : Option (Nat × Bytes) :=
  if f.enc != p.enc || (f.bulk && !(p.host && f.ch == 0)) then none
  else
    match p.plain f with
    | some (c, t) => if f.bulk && !bulkGood t then none else some (c, t)
    | none => none

/-- The receiving side accepts the frame it expected (R433, R434). DEDUCED (log entry 46). DESIGN CHOICE (log entry 48). -/
def RimPort.accept (p : RimPort) (f : DataFrame) (c : Nat) : RimPort :=
  { (p.emit (ctlFrame 0x8 p.exp 0 0 0)) with
    exp := (p.exp + 1) % 65536, got := true, nakFor := none
    iv := if f.enc then sput p.iv (2 * f.ksel + 1) (c + 1) else p.iv }

/-- The packets of an accepted frame enter the receive buffer of their lane (R437); a frame without a whole packet frees its
units at once. -/
def Rim.buffer (x : Rim) (n : Nat) (f : DataFrame) (ps : List Packet) : Rim :=
  if ps.isEmpty then x.modPort n (·.freeRx (crKey f.ch f.rl) (frameUnits f.text.length))
  else { x with rx := x.rx ++ (rxSplit (frameUnits f.text.length) ps).map (fun e => ⟨n, f.rl, e.2, e.1⟩) }

/-- The piggybacked acknowledgement of a good frame. -/
def State.rimPiggy (s : State) (d n : Nat) (f : DataFrame) : State :=
  match f.ack with
  | some a => (s.modPort d n (·.acked a)).movedDone d
  | none => s

/-- NAK with the expected number, unless one for it left within 1.5 µs (R433); now is TIME, in units of 10 ns. -/
def RimPort.nak (p : RimPort) (now : Nat) : RimPort :=
  let recent : Bool := match p.nakFor with
    | some (e, t) => e == p.exp && decide (now < t + 150)
    | none => false
  if recent then p else { (p.emit (ctlFrame 0x9 p.exp 0 0 0)) with nakFor := some (p.exp, now) }

/-- A good data frame at an UP port (R433). -/
def State.rimFrame (s : State) (d n : Nat) (f : DataFrame) (c : Nat) (t : Bytes) : State :=
  let p := (s.rim d).port n
  if f.seq = p.exp then
    ((((s.modPort d n (·.accept f c)).rimPiggy d n f).modRim d (·.buffer n f (f.packets t)))).rimPump d
  else if (f.seq + 65536 - p.exp) % 65536 ≥ 32768 then
    (s.modPort d n (·.emit (ctlFrame 0x8 ((p.exp + 65535) % 65536) 0 0 0))).rimPiggy d n f
  else (s.modPort d n (·.nak s.time.toNat)).rimPiggy d n f

/-- RIM_DATA (R431, R433, R468): every frame is checked whole before its number is looked at. DEDUCED (log entry 46). -/
def State.rimData (s : State) (d n : Nat) (b : Bytes) : State :=
  let x := s.rim d
  let p := x.port n
  if x.rst || !p.en then s
  else
    match (parseData b).bind (fun f => (p.good f).map (fun v => (f, v))) with
    | none => s.modPort d n (·.crcFail)
    | some (f, c, t) => if p.up then s.rimFrame d n f c t else s

/-- A control frame at an enabled port: a bad frame is discarded and counted (R431), and a good one acts where `ok` holds. -/
def State.rimCtl {α : Type} (s : State) (d n : Nat) (parse : Option α) (ok : RimPort → Bool) (go : α → State) : State :=
  let x := s.rim d
  if x.rst || !(x.port n).en then s
  else
    match parse with
    | some v => if ok (x.port n) then go v else s
    | none => s.modPort d n (·.crcFail)

/-- RIM_ACK (R435). -/
def State.rimAck (s : State) (d n : Nat) (b : Bytes) : State :=
  s.rimCtl d n (parseAck b) (·.up) (fun a => (s.modPort d n (·.acked a)).movedDone d)

/-- RIM_NAK (R435). -/
def State.rimNak (s : State) (d n : Nat) (b : Bytes) : State :=
  s.rimCtl d n (parseNak b) (·.up) (fun e =>
    s.modPort d n (fun p => p.resend (p.rep.filter (fun f => !covers ((e + 65535) % 65536) f.seq))))

/-- RIM_CREDIT (R437). -/
def State.rimCredit (s : State) (d n : Nat) (b : Bytes) : State :=
  s.rimCtl d n (parseCredit b) (·.up) (fun v =>
    s.modPort d n (fun p =>
      RimPort.drain { p with txFree := [0, 1, 2, 3].foldl (fun m ch => sput m (crKey ch v.2) (v.1.getD ch 0)) p.txFree }))

/-- CREDIT_SEND (R437): what can leave the receive buffers has left, and a changed count is sent. DESIGN CHOICE (log entry 64). -/
def State.creditSend (s : State) (d n : Nat) : State :=
  let x := s.rim d
  if x.rst || !(x.port n).up then s else (s.rimPump d).modPort d n (·.sendCredit)

/-- LINK_ID (R436, R451). -/
def State.rimLinkId (s : State) (d n : Nat) (b : Bytes) : State :=
  s.rimCtl d n (parseLinkId b) (fun p => p.st == 1 || p.up) (fun v => s.linkIdIn d n v.1 v.2.1 v.2.2.2)

/-- REPLAY_TIMER (R435, R436). DESIGN CHOICE (log entry 17). -/
def State.replayTimer (s : State) (d n : Nat) : State :=
  let x := s.rim d
  let p := x.port n
  if x.rst || !p.up || p.rep.isEmpty then s
  else if p.count ≥ 8 then
    s.setRim d (x.setPort n { (p.emit (x.linkId d n)) with st := 1, train := .keep, pretr := satInc p.pretr 0xFFFFFFFF })
  else s.setRim d (x.setPort n (p.resend p.rep))

/-- RETRAIN_TIMEOUT (R436). -/
def State.retrainTimeout (s : State) (d n : Nat) : State :=
  let x := s.rim d
  if x.rst || (x.port n).st != 1 || x.loss == .noSignal then s else s.portDown d n 3 2

/-- FAILOVER_REQ: LASTRX of the port whose peer the request names (R444). -/
def State.foReqIn (s : State) (d n : Nat) (b : Bytes) : State :=
  s.rimCtl d n (parseFoReq b) (·.up) (fun m =>
    let x := s.rim d
    let k := ((idxs 16 (fun k => match (x.port k).peer with
      | some (_, j) => j == m
      | none => false)).head?).getD m
    let q := x.port k
    s.modPort d n (·.emit (ctlFrame 0xD m (if q.got then (q.exp + 65535) % 65536 else 0) (b2n q.got) 0)))

/-- FAILOVER_RSP (R444). -/
def State.foRspIn (s : State) (d n : Nat) (b : Bytes) : State :=
  s.rimCtl d n (parseFoRsp b) (·.up) (fun v => s.foRsp d v.1 v.2)

/-- FAILOVER_REQ_REPEAT (R444). -/
def State.foRepeat (s : State) (d : Nat) : State :=
  let x := s.rim d
  match x.fo, x.upPorts with
  | e :: _, low :: _ => if e.run && !x.rst then s.modPort d low (·.emit (ctlFrame 0xC e.port 0 0 0)) else s
  | _, _ => s

/-- SIGNAL_LOSS (R449). DEDUCED (log entry 47). -/
def State.signalLoss (s : State) (d n : Nat) : State :=
  if (s.rim d).rst then s
  else
    let s := s.modPort d n (fun p => { p with sig := false })
    let x := s.rim d
    if x.loss == .ok && !x.upPorts.isEmpty && x.upPorts.all (fun k => !(x.port k).sig) then s.neighbourLoss d else s

/-- SIGNAL_RETURN (R450). -/
def State.signalReturn (s : State) (d : Nat) : State :=
  let x := s.rim d
  if x.rst then s
  else
    let go : Bool := x.loss == .noSignal
    let x' := (List.range 16).foldl (fun x n => x.modPort n (fun p =>
      let p := { p with sig := true }
      if go && p.fabric && p.st == 1 then { (p.emit (x.linkId d n)) with pretr := satInc p.pretr 0xFFFFFFFF } else p)) x
    s.setRim d { x' with loss := if go then .training else x.loss }

/-- NEIGHBOUR_WAIT_TIMEOUT (R450). -/
def State.neighbourTimeout (s : State) (d : Nat) : State :=
  let x := s.rim d
  if !x.rst && (x.loss == .noSignal || x.loss == .training) then s.ringBreak d else s

/-! ### From a bridge -/

def validOp (op : Nat) : Bool :=
  [0x01, 0x02, 0x03, 0x04, 0x05, 0x06, 0x07, 0x08, 0x09, 0x0A, 0x0B, 0x0C, 0x0D, 0x0E, 0x0F, 0x10, 0x14, 0x15, 0x18, 0x1C,
   0x1D].contains op

/-- The Plates of a RIMN_SPAN entry (R458). DESIGN CHOICE (log entry 50). -/
def spanPlates (w : W32) : List Nat :=
  let run (lo hi : Nat) : List Nat := (List.range ((hi + 32 - lo) % 32 + 1)).map (fun i => (lo + i) % 32)
  (run (bits w 14 10) (bits w 19 15)).flatMap (fun py => (run (bits w 4 0) (bits w 9 5)).map (fun px => 32 * py + px))

/-- The Plates of a RIMN_SPAN entry on this torus: a wrapping span passes over positions beyond its size.
DESIGN CHOICE (log entry 50). -/
def spanOn (t : W32) (w : W32) : List Nat := (spanPlates w).filter (onTorus t)

/-- PRELEASE at Rim N: a copy to the root field's origin router on every Plate of the span, this one included (R457).
DESIGN CHOICE (log entry 50). -/
def State.rimFanOut (s : State) (q : Packet) : State :=
  let x := s.rim 0
  let w := sget 0#32 x.span (barId q.h)
  let h := { q.h with dx := q.h.sx, dy := q.h.sy }
  if !bit w 31 then s.setRim 0 (x.setStat 1)
  else
    let me := bits x.topo 9 0
    let l := spanOn x.topo w
    (if l.contains me then l else me :: l).foldl (fun s pl =>
      let c : Packet := { h := { h with dplate := if pl = me then ownPlate x.topo else pl }, back := .ctl }
      if pl = me then s.rimSay 0 (bridgeRouter 0 (bridgeNo 0 h.dy h.dx)) c
      else if !x.keyOk h.pkey then s.modRim 0 (·.countKey)
      else s.rimDispatch (chooseDie x.topo pl) (outRouter 0 h) { p := c }) s

/-- RIM_BRIDGE_PACKET: die d takes the front packet of bridge k (R454, R455, R457, R438), behind the answers that wait there (R85). -/
def State.rimBridge (s : State) (d k ch : Nat) : State :=
  let r := bridgeRouter d k
  match s.front r .bridge ch with
  | none => s
  | some q =>
    let x := s.rim d
    if x.rst || bridgeDie (s.fld (fieldOf r)).topo q.h != d then s
    else if x.ans.any (·.1 == r) then s.rimSayAll d
    else
      let s := s.popFront r .bridge ch
      if !validOp q.h.op || (0x400 ≤ q.h.dplate && q.h.dplate ≤ 0x7FE) then s.rimAnswer d r q 7
      else if isOwn x.topo q.h.dplate then
        (if q.h.op = opBar ∧ barKind q.h = 5 ∧ d = 0 then s.rimFanOut q else s)
      else if !bit x.topo 31 then (s.modRim d (fun x => x.countUndeliv.setStat 0)).rimAnswer d r q 6
      else if !x.keyOk q.h.pkey then (s.modRim d (·.countKey)).rimAnswer d r q 5
      else s.rimDispatch d r { p := q }

/-! ### Registers (Table 11.7) -/

def portupWord (x : Rim) : W32 := BitVec.ofNat 32 ((List.range 16).foldl (fun n i => n + b2n (x.port i).up * 2 ^ i) 0)

/-- The value of a Rim register; an offset that names none reads as zero. -/
def Rim.peek (x : Rim) (d off : Nat) : W32 :=
  let n := (off - 0x100) / 0x20
  let p := x.port n
  if off = 0x0 then x.topo
  else if off = 0x4 then x.stat
  else if off = 0x8 then portupWord x
  else if off = 0xC then BitVec.ofNat 32 x.keydrop
  else if off = 0x10 then BitVec.ofNat 32 x.undeliv
  else if 0x20 ≤ off ∧ off < 0x40 then sget 0#32 x.bkt ((off - 0x20) / 4)
  else if 0x40 ≤ off ∧ off < 0x60 then sget 0#32 x.bktSh ((off - 0x40) / 4)
  else if 0x100 ≤ off ∧ off < 0x300 then
    (match off / 4 % 8 with
     | 0 => p.pcfg
     | 1 => BitVec.ofNat 32 ((if p.got then (p.exp + 65535) % 65536 else 0) * 65536 + p.reason * 16 + p.st)
     | 2 => BitVec.ofNat 32 (p.replays * 65536 + p.crcErr)
     | 3 => BitVec.ofNat 32 p.pretr
     | _ => 0#32)
  else if 0x1000 ≤ off ∧ off < 0x1200 then sget 0#32 x.keymap ((off - 0x1000) / 4)
  else if 0x1200 ≤ off ∧ off < 0x1400 then sget 0#32 x.keymapSh ((off - 0x1200) / 4)
  else if d = 0 ∧ 0x10000 ≤ off ∧ off < 0x14000 then sget 0#32 x.span ((off - 0x10000) / 4)
  else 0#32

/-- What a read clears (RC). -/
def Rim.readClear (x : Rim) (off : Nat) : Rim :=
  let n := (off - 0x100) / 0x20
  if off = 0xC then { x with keydrop := 0 }
  else if off = 0x10 then { x with undeliv := 0 }
  else if 0x100 ≤ off ∧ off < 0x300 ∧ off / 4 % 8 = 2 then x.modPort n (fun p => { p with replays := 0, crcErr := 0 })
  else if 0x100 ≤ off ∧ off < 0x300 ∧ off / 4 % 8 = 3 then x.modPort n (fun p => { p with pretr := 0 })
  else x

/-- R469: who reads Rim registers. -/
def rimReader : Party → Bool
  | .wardenFw | .pressS | .pressM | .hostWin => true
  | _ => false

/-- A read of a Rim register (R469). -/
def State.rimRead (s : State) (d : Nat) (p : Party) (off : Nat) : State × W32 :=
  let off := off / 4 * 4
  let x := s.rim d
  if x.rst || !rimReader p then (s, 0#32) else (s.setRim d (x.readClear off), x.peek d off)

/-- A new topology copy to the live field controllers (R426). DESIGN CHOICE (log entry 51). -/
def State.sendTopo (s : State) (v : W32) : State :=
  (List.range 64).foldl (fun s f =>
    if bit s.wdn.dead f || (s.fld f).rst then s else s.modFld f (fun c => { c with topo := v })) s

/-- RIMx_TOPO (R425, R426). -/
def State.wrTopo (s : State) (d : Nat) (p : Party) (v : W32) : State :=
  let x := s.rim d
  if p != .wardenFw || bit x.topo 31 || !onTorus v (bits v 9 0) then s.setRim d x.refuse
  else
    let v := v &&& 0x83FF03FF#32
    let s := s.setRim d { x with topo := v }
    if d = 0 then s.sendTopo v else s

/-- R470: a value of RIMx_PCFGn that is refused. -/
def Rim.pcfgBad (x : Rim) (d n : Nat) (v : W32) : Bool :=
  let cur := (x.port n).pcfg
  let hid := bits v 31 22
  (bit cur 0 && !(v == setBit cur 0 false || v == setBit cur 3 (!bit cur 3)))
    || (bit v 1 && (decide (n < 12) || onTorus x.topo hid || hid % 4 != d || hid / 4 % 4 != n - 12 || bits v 21 10 == 0))

/-- A port starts (R450, R460): it trains from SEQ 0. -/
def State.portStart (s : State) (d n : Nat) : State :=
  s.modRim d (fun x =>
    let p := x.port n
    let x := (x.freshPort n).setPort n { (p.fresh.emit (x.linkId d n)) with st := 1, reason := 0, train := .fresh }
    if !p.host && x.loss == .broken then { x with loss := .training } else x)

/-- RIMx_PCFGn (R447, R460, R470, R565). -/
def State.wrPcfg (s : State) (d n : Nat) (p : Party) (v : W32) : State :=
  let x := s.rim d
  let v := v &&& 0xFFFFFC0F#32
  let cur := x.port n
  if p != .wardenFw || x.pcfgBad d n v then s.setRim d x.refuse
  else if cur.en && !bit v 0 then
    let s := if cur.st = 1 ∨ cur.st = 2 then s.portDown d n 0 0 else s.modPort d n (fun p => { p with st := 0, reason := 0 })
    s.modPort d n (fun p => { p with pcfg := v, st := 0, reason := 0 })
  else
    let s := s.modPort d n (fun p => { p with pcfg := v })
    if !cur.en && bit v 0 then s.portStart d n else s

/-- Offsets that name a register of die d (Table 11.7); a write to any other is ignored (R684). -/
def rimNamed (d off : Nat) : Bool :=
  off ≤ 0x10 || (0x20 ≤ off && off < 0x60) || (0x100 ≤ off && off < 0x300 && off / 4 % 8 < 4)
    || (0x1000 ≤ off && off < 0x1400) || (d == 0 && 0x10000 ≤ off && off < 0x14000)

/-- A write of a Rim register (Table 11.7). DESIGN CHOICE (log entry 61). -/
def State.rimWrite (s : State) (d : Nat) (p : Party) (off : Nat) (v : W32) : State :=
  let off := off / 4 * 4
  let x := s.rim d
  if x.rst then s
  else if off = 0x0 then s.wrTopo d p v
  else if 0x100 ≤ off ∧ off < 0x300 ∧ off / 4 % 8 = 0 then s.wrPcfg d ((off - 0x100) / 0x20) p v
  else if !rimNamed d off then s
  else if p != .wardenFw then s.setRim d x.refuse
  else if off = 0x4 then s.setRim d { x with stat := x.stat &&& ~~~(v &&& 0x7F#32) }
  else if 0x40 ≤ off ∧ off < 0x60 then s.setRim d { x with bktSh := sput x.bktSh ((off - 0x40) / 4) v }
  else if 0x1200 ≤ off ∧ off < 0x1400 then s.setRim d { x with keymapSh := sput x.keymapSh ((off - 0x1200) / 4) v }
  else if d = 0 ∧ 0x10000 ≤ off ∧ off < 0x14000 then
    s.setRim d { x with span := sput x.span ((off - 0x10000) / 4) (v &&& 0x800FFFFF#32) }
  else s

end Sys2Proof.Machine
end

