-- ==== Sys2Proof/Machine/PressOps.lean ====
section
/-! DEFINITION. A Press cluster's registers, scratch, gate and cores: the shared operations of chapter 12 (12.1 to 12.3,
12.5, 12.6). -/

namespace Sys2Proof.Machine

/-! ### Cores -/

def Press.core (x : Press) (k : Nat) : PCore := sget {} x.cores k
def Press.setCore (x : Press) (k : Nat) (c : PCore) : Press := { x with cores := sput x.cores k c }
def State.core (s : State) (c k : Nat) : PCore := (s.prs c).core k
def State.setCore (s : State) (c k : Nat) (x : PCore) : State := s.modPrs c (·.setCore k x)
def State.modCore (s : State) (c k : Nat) (g : PCore → PCore) : State := s.setCore c k (g (s.core c k))

/-- s0 reads as zero and discards writes (R170, R489). -/
def PCore.x (q : PCore) (n : Nat) : W64 := if n = 0 then 0#64 else sget 0#64 q.xregs n
def PCore.setX (q : PCore) (n : Nat) (v : W64) : PCore := if n = 0 then q else { q with xregs := sput q.xregs n v }
def PCore.ctlReg (q : PCore) (n : Nat) : W64 := sget 0#64 q.ctl n
def PCore.setCtl (q : PCore) (n : Nat) (v : W64) : PCore := { q with ctl := sput q.ctl n v }

/-- A core runs (R498, R138): its cluster is released and its HOLD bit is 0. -/
def Press.runs (x : Press) (k : Nat) : Bool := !x.rst && !bit x.hold k

/-- The router of cluster c's gate. -/
def gateRouter (c : Nat) : Nat := gateOf (fieldOfCluster c)

/-! ### Scratch (R485, R488) -/

def Press.scratchSize (x : Press) : Nat := x.ways * 0x80000

/-- Some 8-byte word of [a, a + n) is uncorrectable (R576). DESIGN CHOICE (log entry 6). -/
def Press.scratchUe (x : Press) (a n : Nat) : Bool := x.scratchBad.any (fun b => decide (a < b + 8 ∧ b < a + n))

/-- A write of scratch; whole 8-byte words get new check bits. -/
def Press.scratchPut (x : Press) (a : Nat) (b : Bytes) : Press :=
  { x with scratch := mwrite x.scratch a b,
           scratchBad := x.scratchBad.filter (fun w => !(decide (a ≤ w ∧ w + 8 ≤ a + b.length))) }

/-- L3LOCK_APPLY: the number of locked ways changes (R488). Lines of ways that become scratch go with them.
DESIGN CHOICE (log entry 53). -/
def Press.applyWays (x : Press) : Press :=
  match x.waysNew with
  | none => x
  | some n =>
    if x.tags.isEmpty && x.inq.isEmpty && (idxs 4 (fun k => (x.core k).blk.isSome)).isEmpty then
      let sz := n * 0x80000
      { x with ways := n, waysNew := none, l3 := [], scratch := mclr x.scratch sz 0x800000,
               scratchBad := x.scratchBad.filter (· < sz) }
    else x

/-! ### Cached lines (R486, R576) -/

/-- A line enters a cache of `cap` lines; a full one gives up the line that `v` points to. DESIGN CHOICE (log entry 53). -/
def cachePut (cap v : Nat) (l : Sparse CLine) (line : Nat) (b : Bytes) : Sparse CLine :=
  if shas l line || decide (l.length < cap) then sput l line { b := b }
  else
    match l.drop (v % l.length) with
    | (n, _) :: _ => if cap = 0 then l else sput (sdel l n) line { b := b }
    | [] => l

/-- Lines that L2 holds, 1 MiB, and that the unlocked ways of L3 hold, 512 KiB each (12.3). -/
def l2Lines : Nat := 0x4000
def Press.l3Lines (x : Press) : Nat := (16 - x.ways) * 0x2000

/-- A good copy of a line; one whose check is uncorrectable is discarded (R576). -/
def cacheGet (l : Sparse CLine) (line : Nat) : Option Bytes :=
  if shas l line && !(sget {} l line).ue then some (sget {} l line).b else none
def cacheDrop (l : Sparse CLine) (line : Nat) : Sparse CLine := if (sget {} l line).ue then sdel l line else l

/-! ### PRS_ registers (Table 12.8) -/

/-- A party at a cluster's registers: Press software counts only when it is the cluster's own. -/
structure PrsWho where
  p : Party
  own : Bool := true

def Press.refuse (x : Press) : Press := { x with gstat := setBit x.gstat 2 true }
def PrsWho.mWrite (w : PrsWho) : Bool := w.p == .wardenFw || (w.p == .pressM && w.own)
/-- DESIGN CHOICE (log entry 54). -/
def PrsWho.reads (w : PrsWho) : Bool := w.p == .wardenFw || w.p == .pressM || w.p == .pressS || w.p == .hostWin

def Press.ckeyOf (x : Press) (k : Nat) : W32 := sget 0x00010000#32 x.ckey k
def Press.dbOf (x : Press) (k : Nat) : W32 := sget 0#32 x.db k
def Press.fwinOf (x : Press) (n : Nat) : W64 := sget 0#64 x.fwin n
def Press.keyOk (x : Press) (key : Nat) : Bool := key == 0 || bit (sget 0#32 x.gkeymap (key / 32)) (key % 32)

/-- The value of a PRS_ register; an offset that names none reads as zero. DESIGN CHOICE (log entry 54). -/
def Press.peek (x : Press) (c off : Nat) : W32 :=
  if off = 0x0 then BitVec.ofNat 32 (fieldOfCluster c * 16 + c)
  else if off = 0x4 then x.hold
  else if off = 0x8 then x.bootvec
  else if off = 0x10 then BitVec.ofNat 32 (x.waysNew.getD x.ways)
  else if off = 0x14 then BitVec.ofNat 32 (x.gov * 65536 + x.clkEff * 256 + x.clkTgt)
  else if off = 0x18 then x.gstat
  else if 0x20 ≤ off ∧ off < 0x30 then x.ckeyOf ((off - 0x20) / 4)
  else if 0x100 ≤ off ∧ off < 0x180 then
    BitVec.ofNat 32 ((x.fwinOf ((off - 0x100) / 8)).toNat / (if off / 4 % 2 = 1 then 2 ^ 32 else 1))
  else if 0x200 ≤ off ∧ off < 0x400 then sget 0#32 x.gkeymap ((off - 0x200) / 4)
  else if 0x400 ≤ off ∧ off < 0x410 then x.dbOf ((off - 0x400) / 4)
  else if off = 0x420 then x.ipi
  else 0#32

/-- A core is reset by HOLD: its pending table, latch and TLB are cleared and its gate tags are freed (R498, R612).
DESIGN CHOICE (log entry 53). -/
def Press.holdCore (x : Press) (k : Nat) : Press :=
  let mine := (x.tags.filter (fun e => e.2.core == k)).map (·.1)
  { (x.setCore k { l2 := (x.core k).l2 }) with
    tags := x.tags.filter (fun e => e.2.core != k), idle := x.idle ++ mine, hold := setBit x.hold k true }

/-- A core starts at Machine level at PRS_BOOTVEC (R498). -/
def Press.startCore (x : Press) (k : Nat) : Press :=
  { (x.setCore k { l2 := (x.core k).l2, pc := BitVec.ofNat 64 x.bootvec.toNat }) with hold := setBit x.hold k false }

/-- PRS_CORECTL. -/
def Press.wrHold (x : Press) (v : W32) : Press :=
  (List.range 4).foldl (fun x k =>
    if bit v k && !bit x.hold k then x.holdCore k
    else if !bit v k && bit x.hold k then x.startCore k
    else x) x

/-- PRS_FWINn (R481). -/
def Press.wrFwin (x : Press) (n : Nat) (v : W64) : Press :=
  let v := setBits v 23 0 0
  if bits v 63 60 ≥ 8 then x.refuse else { x with fwin := sput x.fwin n v }

/-- PRS_CKEYn (R499): MKEY is Warden firmware's, and SKEY 0x000 is refused; a field that is refused keeps its value, and the
other is taken (R13). DEDUCED (log entry 55). -/
def Press.wrCkey (x : Press) (w : PrsWho) (n : Nat) (v : W32) : Press :=
  let old := x.ckeyOf n
  let noS := bits v 27 16 == 0
  let noM := w.p != .wardenFw && bits v 11 0 != bits old 11 0
  let s := if noS then bits old 27 16 else bits v 27 16
  let m := if noM then bits old 11 0 else bits v 11 0
  let x := { x with ckey := sput x.ckey n (BitVec.ofNat 32 (s * 65536 + m)) }
  if noS || noM then x.refuse else x

def Press.wrL3Lock (x : Press) (v : W32) : Press :=
  if bits v 4 0 > 16 then x.refuse else { x with waysNew := some (bits v 4 0) }

def Press.wrClk (x : Press) (v : W32) : Press :=
  let t := bits v 4 0
  if t < 8 ∨ t > 24 then x.refuse else { x with clkTgt := t }

/-- CLUSTER_CLK_DONE: the cluster runs at min(TGT, GOV) (R497). -/
def Press.clkDone (x : Press) : Press := { x with clkEff := min x.clkTgt x.gov }

/-- Offsets that name a PRS_ register (Table 12.8); a write to any other is ignored (R684). -/
def prsNamed (off : Nat) : Bool :=
  off ≤ 0x8 || (0x10 ≤ off && off < 0x1C) || (0x20 ≤ off && off < 0x30) || (0x100 ≤ off && off < 0x180)
    || (0x200 ≤ off && off < 0x424)

/-- A write of a PRS_ register (R499, Table 12.8). -/
def Press.write (x : Press) (w : PrsWho) (off : Nat) (v : W32) : Press :=
  if 0x400 ≤ off ∧ off < 0x410 then { x with db := sput x.db ((off - 0x400) / 4) (x.dbOf ((off - 0x400) / 4) ||| v) }
  else if !prsNamed off then x
  else if !w.mWrite then x.refuse
  else if off = 0x4 then x.wrHold v
  else if off = 0x8 then { x with bootvec := v &&& 0x007FFFFC#32 }
  else if off = 0x10 then x.wrL3Lock v
  else if off = 0x14 then x.wrClk v
  else if off = 0x18 then { x with gstat := x.gstat &&& ~~~(v &&& 0x7#32) }
  else if 0x20 ≤ off ∧ off < 0x30 then x.wrCkey w ((off - 0x20) / 4) v
  else if 0x100 ≤ off ∧ off < 0x180 then
    (let n := (off - 0x100) / 8
     x.wrFwin n (if off / 4 % 2 = 1 then setBits (x.fwinOf n) 63 32 v.toNat else setBits (x.fwinOf n) 31 0 v.toNat))
  else if 0x200 ≤ off ∧ off < 0x400 then
    (if w.p == .wardenFw then { x with gkeymap := sput x.gkeymap ((off - 0x200) / 4) v } else x.refuse)
  else if 0x410 ≤ off ∧ off < 0x420 then
    { x with db := sput x.db ((off - 0x410) / 4) (x.dbOf ((off - 0x410) / 4) &&& ~~~v) }
  else if off = 0x420 then { x with ipi := v &&& 0xF#32 }
  else x

/-- A write by a party, which does nothing in a cluster held in reset. -/
def State.prsWrite (s : State) (c : Nat) (w : PrsWho) (off : Nat) (v : W32) : State :=
  if (s.prs c).rst then s else s.modPrs c (fun x => x.write w (off / 4 * 4) v)

/-! ### The gate (R472 to R477, R375) -/

/-- FLD_KEY_DROP of the gate's field (R375, R381, R582). -/
def State.gateKeyDrop (s : State) (c : Nat) : State :=
  s.modFld (fieldOfCluster c) (fun f =>
    Field.raise { f with keyDrop := satInc f.keyDrop 0xFFFFFFFF, meshStat := setBit f.meshStat 1 true } 6)

/-- What the gate stamps (R472). -/
def State.gateHdr (s : State) (c k : Nat) : Hdr :=
  let r := gateRouter c
  let ck := (s.prs c).ckeyOf k
  { sx := colOf r, sy := rowOf r, splate := ownPlate (s.fld (fieldOfCluster c)).topo, srckind := true,
    pkey := if (s.core c k).lvl = .m then bits ck 11 0 else bits ck 27 16 }

/-- The free tags of a gate, lowest first (R477, R612). -/
def Press.freeTags (x : Press) : List Nat := idxs 64 (fun g => !shas x.tags g && !x.idle.contains g)

/-- The posted C0 packets of core k that are not yet acknowledged (R479, R496). -/
def Press.openC0 (x : Press) (k : Nat) : List Nat :=
  (x.tags.filter (fun e => e.2.core == k && e.2.ch == 0 && e.2.word.isNone && !e.2.dead)).map (·.1)

/-- The gate injects a packet under tag g. -/
def State.gateSend (s : State) (c k g : Nat) (word : Option Nat) (ga : W64) (pk : Packet) : State :=
  (s.modPrs c (fun x => { x with tags := sput x.tags g { core := k, word := word, ch := pk.h.ch, ga := ga } })).inject
    (gateRouter c) .gate { pk with h := { pk.h with tag := g }, back := .gate }

/-- GATE_INBOUND (R476, R375). A request that is refused waits while its answer would find no C1 credit (R85). -/
def State.gateInbound (s : State) (c ch : Nat) : State :=
  let r := gateRouter c
  if !answered ch || (s.prs c).rst then s
  else
    match s.front r .gate ch with
    | none => s
    | some q =>
      if (s.prs c).keyOk q.h.pkey then (s.popFront r .gate ch).modPrs c (fun x => { x with inq := x.inq ++ [q] })
      else if s.canInject r .gate 1 then ((s.popFront r .gate ch).gateKeyDrop c).reply r .gate true q 5 0#32
      else s

/-- Whose request an admitted packet is (Table 12.1, R499). DESIGN CHOICE (log entry 61). -/
def State.prsWho (s : State) (c : Nat) (h : Hdr) : PrsWho :=
  { p := srcParty (s.fld (fieldOfCluster c)).topo h, own := routerOf h.sy h.sx == gateRouter c }

/-- Take the front admitted packet when it carries opcode `op`, and its answer finds a C1 credit (R85). -/
def State.takePrs (s : State) (c op : Nat) (go : Packet → State → State) : State :=
  let x := s.prs c
  match x.inq with
  | q :: rest => if q.h.op = op ∧ !x.rst ∧ s.canInject (gateRouter c) .gate 1 then go q (s.setPrs c { x with inq := rest }) else s
  | [] => s

/-- RD_PRS (R480, R488, R499). -/
def State.takeRdPrs (s : State) (c : Nat) : State :=
  s.takePrs c 0x04 (fun q s =>
    let off := 4 * bits q.h.payload 26 0
    let x := s.prs c
    let ans (st : Nat) (v : W32) := s.reply (gateRouter c) .gate true q st v
    if off < 0x800000 then
      (if off + 4 > x.scratchSize then ans 7 0#32
       else if x.scratchUe off 4 then ans 3 0#32
       else ans 0 (mread32 x.scratch off))
    else ans 0 (if (s.prsWho c q.h).reads then x.peek c (off - 0x800000) else 0#32))

/-- WR_PRS (R480, R488, R499). -/
def State.takeWrPrs (s : State) (c : Nat) : State :=
  s.takePrs c 0x0B (fun q s =>
    let off := q.h.off
    let x := s.prs c
    if off < 0x800000 then
      (if off + 4 * q.ws.length > x.scratchSize then s.reply (gateRouter c) .gate true q 7 0#32
       else (s.setPrs c (x.scratchPut off (ofWords q.ws))).reply (gateRouter c) .gate true q 0 0#32)
    else
      (s.setPrs c (x.write (s.prsWho c q.h) (off - 0x800000) (q.word 0))).reply (gateRouter c) .gate true q 0 0#32)

/-- GATE_TAG_IDLE (R612). -/
def State.gateTagIdle (s : State) (c g : Nat) : State :=
  s.modPrs c (fun x => { x with idle := x.idle.filter (· != g) })

/-! ### Barriers at the gate (R479) -/

/-- Arrivals of core k whose posted stores are acknowledged leave, while C3 has credit. -/
def State.gateArrivals (s : State) (c k : Nat) : Nat → State
  | 0 => s
  | n + 1 =>
    let q := s.core c k
    match q.arrivals with
    | [] => s
    | i :: rest =>
      let e := sget {} q.pend i
      if e.waits.isEmpty && s.canInject (gateRouter c) .gate 3 then
        let s := s.setCore c k { q with arrivals := rest, pend := sput q.pend i { e with sent := true } }
        let s := s.inject (gateRouter c) .gate
          { barPacket (s.gateHdr c k) (fieldOfCluster c) (barPayload false false 0 0 e.id) with back := .gate }
        s.gateArrivals c k n
      else s

/-- RELEASE_T at a gate: applied to the matching entry of each core (R479, R404). -/
def State.gateRelease (s : State) (c : Nat) : State :=
  let x := s.prs c
  match (s.fld (fieldOfCluster c)).relLog[x.relSeen]? with
  | none => s
  | some rel =>
    let x := { x with relSeen := x.relSeen + 1 }
    s.setPrs c (if x.rst || rel.miss.contains (localIdx (gateOf (fieldOfCluster c))) then x else
      [0, 1, 2, 3].foldl (fun x k => x.setCore k { x.core k with pend := relMark (x.core k).pend rel }) x)

/-! ### Interrupts (R492, R584) -/

/-- M_IPEND of core k: software, timer, doorbell, field event. DESIGN CHOICE (log entry 60). -/
def State.ipend (s : State) (c k : Nat) : Nat :=
  let x := s.prs c
  let w := s.wdn
  b2n (bit x.ipi k) + 2 * b2n (decide (((s.core c k).ctlReg 0x80A).toNat ≤ s.time.toNat)) + 4 * b2n (x.dbOf k != 0#32)
    + 8 * b2n ((w.evtPend != 0#64 || w.evtRim != 0#32) && bit w.evtCl 4 && bits w.evtCl 3 0 == c)

end Sys2Proof.Machine
end

