-- ==== Sys2Proof/Machine/PressMmu.lean ====
section
/-! DEFINITION. Translation, traps and control registers of a Press core (12.4). -/

namespace Sys2Proof.Machine

/-! ### Levels and traps (R490, R491) -/

def Lvl.code : Lvl → Nat
  | .u => 0 | .s => 1 | .m => 2
def Lvl.ofCode : Nat → Lvl
  | 0 => .u | 1 => .s | _ => .m

/-- First control register number of the level that takes a trap. -/
def lvlBase : Lvl → Nat
  | .m => 0x800
  | _ => 0x400

/-- A trap, to S when it is passed and the core is below M, else to M (R491). -/
def PCore.trap (q : PCore) (int : Bool) (code detail : Nat) (addr rpc : W64) : PCore :=
  let pass := bit (q.ctlReg 0x807) (if int then 32 + code else code) && q.lvl != .m
  let l : Lvl := if pass then .s else .m
  let b := lvlBase l
  let cls := if int then 2 else if q.lvl = l then 1 else 0
  let ien := b2n (bit (q.ctlReg b) 0)
  let q' := ((((q.setCtl (b + 2) rpc).setCtl (b + 4) (BitVec.ofNat 64 (b2n int * 65536 + detail % 256 * 256 + code))).setCtl
    (b + 5) addr).setCtl (b + 3) (BitVec.ofNat 64 (ien * 4 + q.lvl.code))).setCtl b 0#64
  { q' with lvl := l, pc := q.ctlReg (b + 1) + BitVec.ofNat 64 (0x40 * cls), fence := none, blk := none }

/-- TRET at the core's level (R491). DEDUCED (log entry 57). -/
def PCore.tret (q : PCore) : PCore :=
  let b := lvlBase q.lvl
  let t := q.ctlReg (b + 3)
  { (q.setCtl b (BitVec.ofNat 64 (b2n (bit t 2)))) with lvl := Lvl.ofCode (bits t 1 0), pc := q.ctlReg (b + 2) }

/-! ### Control registers (Table 12.5) -/

/-- The passed interrupts. -/
def PCore.passed (q : PCore) : Nat := bits (q.ctlReg 0x807) 47 32

/-- The bits a write keeps, for each register that Table 12.5 lists as writable. DEDUCED (log entry 56). -/
def ctlMask (n : Nat) : Option W64 :=
  match n with
  | 0x800 | 0x400 => some 1#64
  | 0x801 | 0x401 => some 0xFFFFFFFFFFFFFF00#64
  | 0x802 | 0x402 | 0x805 | 0x405 | 0x806 | 0x406 | 0x80A => some 0xFFFFFFFFFFFFFFFF#64
  | 0x803 | 0x403 => some 0x7#64
  | 0x804 | 0x404 => some 0x1FFFF#64
  | 0x807 => some 0x0000FFFF0000FFFF#64
  | 0x808 | 0x408 => some 0xFFFF#64
  | 0x40A => some 0x8FFF000FFFFFFFFF#64
  | _ => none

/-- The lowest level that a number's class admits (R490). -/
def ctlLevel (n : Nat) : Nat := if n / 256 = 0 then 0 else if n / 256 = 4 then 1 else 2

/-- PCRR: the value, or none for an illegal instruction (R490). -/
def State.ctlRead (s : State) (c k n : Nat) : Option W64 :=
  let q := s.core c k
  if q.lvl.code < ctlLevel n then none
  else if n = 0 then some s.time
  else if n = 1 then some (if c = mgmtUnit then Config.mgmtCoreId else BitVec.ofNat 64 (c * 4 + k))
  else if n = 0x809 then some (BitVec.ofNat 64 (s.ipend c k))
  else if n = 0x409 then some (BitVec.ofNat 64 (s.ipend c k &&& q.passed))
  else if n = 0x408 then some (BitVec.ofNat 64 ((q.ctlReg 0x808).toNat &&& q.passed))
  else if (ctlMask n).isSome then some (q.ctlReg n)
  else none

/-- PCRW: the core after it, or none for an illegal instruction (R490). A reserved level keeps the field (R13).
DEDUCED (log entry 56). -/
def PCore.ctlWrite (q : PCore) (n : Nat) (v : W64) : Option PCore :=
  if q.lvl.code < ctlLevel n then none
  else
    match ctlMask n with
    | none => none
    | some m =>
      let v := v &&& m
      if n = 0x408 then
        let old := (q.ctlReg 0x808).toNat
        some (q.setCtl 0x808 (BitVec.ofNat 64 ((old - (old &&& q.passed)) + (v.toNat &&& q.passed))))
      else if (n = 0x803 ∨ n = 0x403) ∧ bits v 1 0 = 3 then some (q.setCtl n (setBits v 1 0 (bits (q.ctlReg n) 1 0)))
      else some (q.setCtl n v)

/-- The interrupt that core k takes next, highest number first (R492). DESIGN CHOICE (log entry 59). -/
def State.irqOf (s : State) (c k : Nat) : Option Nat :=
  let q := s.core c k
  let on := s.ipend c k &&& (q.ctlReg 0x808).toNat
  let takes (i : Nat) : Bool :=
    on.testBit i &&
      (if q.passed.testBit i then
         (match q.lvl with
          | .u => true
          | .s => bit (q.ctlReg 0x400) 0
          | .m => false)
       else
         (match q.lvl with
          | .m => bit (q.ctlReg 0x800) 0
          | _ => true))
  [3, 2, 1, 0].find? takes

/-- INTERRUPT_TAKE (R492). DESIGN CHOICE (log entry 59). -/
def State.takeIrq (s : State) (c k : Nat) : State :=
  let q := s.core c k
  if (s.prs c).runs k && q.blk.isNone then
    match s.irqOf c k with
    | some i => s.setCore c k (q.trap true i 0 0#64 q.pc)
    | none => s
  else s

/-! ### Physical addresses (Table 12.2, R480, R481) -/

/-- What a physical address names: scratch, a PRS_ register, or a window access with its kind and GA. -/
inductive Target where
  | scratch (a : Nat)
  | reg (off : Nat)
  | win (kind : Nat) (ga : Ga)
  | none
  deriving DecidableEq, Repr

/-- The GA of a window: kinds 6 and 7 go to space 0x0. -/
def winTarget (kind : Nat) (g : Ga) : Target := .win kind { g with space := if kind < 6 then kind else 0 }

/-- The management pair's unit: 16 MiB of SRAM, and no window (R500). DESIGN CHOICE (log entry 65). -/
def Press.isMgmt (x : Press) : Bool := x.ways == 32

def Press.target (x : Press) (pa n : Nat) : Target :=
  if x.isMgmt then (if pa + n ≤ x.scratchSize then .scratch pa else .none)
  else if pa + n ≤ 0x800000 then (if pa + n ≤ x.scratchSize then .scratch pa else .none)
  else if 0x800000 ≤ pa ∧ pa + n ≤ 0x810000 then .reg (pa - 0x800000)
  else if 0x1000000000 ≤ pa ∧ pa < 0x1010000000 then
    let w := x.fwinOf ((pa - 0x1000000000) / 0x1000000)
    winTarget (bits w 63 60) { gaOf w with off := bits w 28 0 + pa % 0x1000000 }
  else if 0x800000000000 ≤ pa ∧ pa < 0x1000000000000 then
    winTarget (pa / 2 ^ 44 % 8) { space := 0, plate := 0x7FF, y := pa / 2 ^ 34 % 1024, x := pa / 2 ^ 24 % 1024, off := pa % 0x1000000 }
  else .none

/-! ### Translation (R493 to R495) -/

/-- Fetch, load, store: the page-fault codes 4, 5, 6. -/
inductive Acc where
  | fetch | load | store
  deriving DecidableEq, Repr
def Acc.code : Acc → Nat
  | .fetch => 4 | .load => 5 | .store => 6

def entPpn (e : W64) : Nat := bits e 47 12

/-- R494: an entry that raises a page fault, at walk level l (1 to 4). -/
def entBad (e : W64) (l : Nat) : Bool :=
  let leaf := bit e 1
  !bit e 0 || (bits e 11 7 != 0 || bits e 63 48 != 0)
    || (leaf && (l == 1 || (bit e 2 && bit e 4) || (bit e 6 && (bit e 2 || bit e 4))
         || (bit e 6 && !(decide (entPpn e * 4096 ≥ 0x800000000000) && entPpn e * 4096 / 2 ^ 44 % 8 == 0))
         || (l == 2 && entPpn e % 0x40000 != 0) || (l == 3 && entPpn e % 0x200 != 0)))
    || (!leaf && (l == 4 || bits e 6 2 != 0))

/-- Bytes mapped by a leaf at level l. -/
def leafSize (l : Nat) : Nat := if l = 2 then 0x40000000 else if l = 3 then 0x200000 else 0x1000

/-- The walk from level l over tables in scratch: the leaf and its level, or the trap's code and DETAIL (R493). -/
def Press.walk (x : Press) (va : Nat) (acc : Acc) : Nat → Nat → Nat → Except (Nat × Nat) (W64 × Nat)
  | 0, _, _ => .error (acc.code, 0)
  | n + 1, l, base =>
    let a := base * 4096 + 8 * (va / 2 ^ (48 - 9 * l) % 512)
    if a + 8 > x.scratchSize then .error (3, 0x10)
    else if x.scratchUe a 8 then .error (3, 3)
    else
      let e := mread64 x.scratch a
      if entBad e l then .error (acc.code, 0)
      else if bit e 1 then .ok (e, l)
      else x.walk va acc n (l + 1) (entPpn e)

/-- What the level may do with a page (R494). -/
def entDenies (e : W64) (lvl : Lvl) (acc : Acc) : Bool :=
  (lvl == .u && !bit e 3) || (lvl == .s && acc == .fetch && bit e 3) || (acc == .fetch && !bit e 4)
    || (acc == .store && !bit e 2)

def Tlb.hits (t : Tlb) (va xid : Nat) : Bool :=
  decide (t.va ≤ va ∧ va < t.va + t.size) && (bit t.ent 5 || t.xid == xid)

/-- R493: a virtual address at the core's level; the core may gain a cached translation (R495). The result is the
physical address and whether its page is cached read-only, or a trap. DESIGN CHOICE (log entry 53). -/
def State.translate (s : State) (c k : Nat) (va : W64) (acc : Acc) : State × Except (Nat × Nat) (Nat × Bool) :=
  let q := s.core c k
  let x := s.prs c
  let root := q.ctlReg 0x40A
  if q.lvl = .m ∨ bit root 63 = false then
    (if va.toNat ≥ 2 ^ 48 then (s, .error (3, 0x10)) else (s, .ok (va.toNat, false)))
  else if va.toNat ≥ 2 ^ 48 then (s, .error (acc.code, 0))
  else
    let v := va.toNat
    let xid := bits root 59 48
    let use (s : State) (t : Tlb) : State × Except (Nat × Nat) (Nat × Bool) :=
      if entDenies t.ent q.lvl acc then (s, .error (acc.code, 0))
      else (s, .ok (entPpn t.ent * 4096 + (v - t.va), bit t.ent 6))
    match q.tlb.find? (fun t => t.hits v xid) with
    | some t => use s t
    | none =>
      match x.walk v acc 4 1 (bits root 35 0) with
      | .error e => (s, .error e)
      | .ok (e, l) =>
        let t : Tlb := { va := v / leafSize l * leafSize l, size := leafSize l, xid := xid, ent := e }
        use (s.setCore c k { q with tlb := q.tlb ++ [t] }) t

/-- XLINV (R495). -/
def PCore.xlinv (q : PCore) (all : Bool) (va : Nat) : PCore :=
  { q with tlb := if all then [] else q.tlb.filter (fun t => !decide (t.va ≤ va ∧ va < t.va + t.size)) }

end Sys2Proof.Machine
end

