-- ==== Sys2Proof/Machine/Lattice.lean ====
section
/-! DEFINITION. Vector element-wise and conversion instructions, Lattice commands, and LVM (chapters 7 and 8). -/

namespace Sys2Proof.Machine

/-! ### Vector instructions (7.6) -/

/-- One element of an element-wise operation: exact, then narrowed (R280). -/
def elemOp (f : Nat) (sat : Bool) (g : Num → Num → Num) (x y : Nat) : Nat :=
  narrow f sat (g (decNum f (elemOf f x)) (decNum f (elemOf f y)))

def vbinBody (g : Bool → Num → Num → Num) : LBody := fun f _ npc t => withVV t f (fun t a b =>
  .ok (t.setVl f.d (List.zipWith (elemOp f.fmt f.sat (g (bit t.compat 0))) a b)) npc)

def bodyVadd : LBody := vbinBody (fun _ a b => a.add b)
def bodyVsub : LBody := vbinBody (fun _ a b => a.add b.neg)
def bodyVmul : LBody := vbinBody (fun _ a b => a.mul b)
def bodyVmin : LBody := vbinBody (fun z a b => Num.sel false z a b)
def bodyVmax : LBody := vbinBody (fun z a b => Num.sel true z a b)

/-- VMOV (R281). -/
def bodyVmov : LBody := fun f _ npc t => withV t f (fun t a => .ok (t.setVl f.d a) npc)

/-- VSPLAT (R281). -/
def bodyVsplat : LBody := fun f _ npc t => withA t f (fun t a =>
  .ok (t.setVl f.d (List.replicate 16 (elemOf f.fmt a.toNat))) npc)

/-- VEXT (R281). -/
def bodyVext : LBody := fun f _ npc t => withV t f (fun t a => .ok (t.setS f.d (BitVec.ofNat 32 (a.getD f.b 0))) npc)

/-- VINS (R281). -/
def bodyVins : LBody := fun f _ npc t => withA t f (fun t a =>
  .ok (t.setVl f.d ((t.vlanes f.d).set f.b (elemOf f.fmt a.toNat))) npc)

/-- VCVT (R282). -/
def bodyVcvt : LBody := fun f _ npc t => withV t f (fun t a =>
  .ok (t.setVl f.d (a.map (fun x => narrow f.fmt f.sat (decNum f.b (elemOf f.b x))))) npc)

/-- SCVTF (R283). -/
def bodyScvtf : LBody := fun f _ npc t => withA t f (fun t a =>
  .ok (t.setS f.d (toF32 (decNum f.fmt (elemOf f.fmt a.toNat)))) npc)

/-- SCVTN (R283). -/
def bodyScvtn : LBody := fun f _ npc t => withA t f (fun t a =>
  .ok (t.setS f.d (BitVec.ofNat 32 (narrow f.fmt f.sat (f32 a)))) npc)

/-! ### Issue of Lattice commands (R285 to R288) -/

/-- Hand a command to the Lattice queue of 4, or stall while it is full (R285). -/
def latIssue (t0 t : Tile) (c : LCmd) (npc : W32) : LRes :=
  if t.latq.length ≥ 4 then .wait t0 false else .ok { t with latq := t.latq ++ [c] } npc

def bodyLmac : LBody := fun f _ npc t0 => withVV t0 f (fun t a b => latIssue t0 t (.lmac f.fmt f.d a b) npc)

/-- LMACS: the scalar multiplies every lane (R293, R294). -/
def bodyLmacs : LBody := fun f _ npc t0 =>
  match t0.srcS f.qa f.a with
  | .empty => .wait t0 true
  | .bad q => queueUe t0 q
  | .got t1 a =>
    match t1.srcV f.qb f.b with
    | .empty => .wait t0 true
    | .bad q => queueUe t0 q
    | .got t b => latIssue t0 t (.lmac f.fmt f.d (List.replicate 16 (elemOf f.fmt a.toNat)) b) npc

def bodyLzero : LBody := fun f _ npc t => latIssue t t (.lzero f.d) npc
def bodyLmov : LBody := fun f _ npc t => latIssue t t (.lmov f.d f.a) npc
def bodyLadd : LBody := fun f _ npc t => latIssue t t (.ladd f.fmt f.d f.a) npc
def bodyLmaxa : LBody := fun f _ npc t => latIssue t t (.lsel true f.fmt f.d f.a) npc
def bodyLmina : LBody := fun f _ npc t => latIssue t t (.lsel false f.fmt f.d f.a) npc
def bodyLwid : LBody := fun f _ npc t0 => withV t0 f (fun t a => latIssue t0 t (.lwid f.fmt f.d a) npc)
def bodyLcvt : LBody := fun f _ npc t =>
  latIssue t t (.lcvt f.fmt f.sat (f.fmt == 0) f.d f.a (sInt 5 f.b)) npc
def bodyLcvtq : LBody := fun f _ npc t => latIssue t t (.lcvt 0 false false f.d f.a (sInt 5 f.b)) npc
def bodyLpush : LBody := fun f _ npc t => latIssue t t (.lpush f.d f.a (sInt 5 f.b)) npc

/-- FMT of a unit's active read command (R301). -/
def SUnit.readFmt (u : SUnit) : Option Nat :=
  match u.act with
  | some d => if Desc.dir d then none else some (Desc.fmt d)
  | none => none

/-- LVM at issue: the wait of R301 and the check of R270. -/
def bodyLvm : LBody := fun f _ npc t =>
  match (t.unit f.b).readFmt, (t.unit f.fmt).readFmt with
  | some a, some w =>
    if a ≠ w ∨ a > 4 then .fault t ⟨5, a * 16 + w, 0#64⟩
    else latIssue t t (.lvm a f.d (t.sreg f.a).toNat f.b f.fmt) npc
  | _, _ => .wait t false

/-! ### Execution in the Lattice (R287, R293, R299, R300) -/

/-- The vector that LPUSH hands to a write command: lanes converted to its FMT (R299). -/
def pushLanes (d : Desc) (sc : Int) (l : List Nat) : List Nat :=
  if d.fmt = 5 then l else l.map (narrowLane d.fmt d.sat (d.fmt == 0) sc)

/-- A write command with room for one more vector (R297, R300, Table 3.3). -/
def SUnit.pushRoom (u : SUnit) : Option Desc :=
  match u.act with
  | some d => if Desc.dir d && decide (u.taken < Desc.total d) && decide (u.res.length < 8) then some d else none
  | none => none

/-- The Lattice executes a command; none while it must wait (R300). DESIGN CHOICE (log entry 14). -/
def Tile.latExec (t : Tile) (c : LCmd) : Option Tile :=
  match c with
  | .lmac f ad xs ws =>
    some (t.setAl ad (List.zipWith (fun acc p => macLane f acc p.1 p.2) (t.alanes ad) (xs.zip ws)))
  | .lzero ad => some (t.setAl ad (List.replicate 16 0))
  | .lmov ad aa => some (t.setAl ad (t.alanes aa))
  | .ladd f ad aa =>
    some (t.setAl ad (List.zipWith (fun x y =>
      if f = 0 then (x + y) % 2 ^ 32 else narrow 5 false ((decNum 5 x).add (decNum 5 y))) (t.alanes ad) (t.alanes aa)))
  | .lsel mx f ad aa =>
    some (t.setAl ad (List.zipWith (fun x y =>
      if f = 0 then (if (sInt 32 x < sInt 32 y) == mx then y else x)
      else narrow 5 false (Num.sel mx (bit t.compat 0) (decNum 5 x) (decNum 5 y))) (t.alanes ad) (t.alanes aa)))
  | .lwid f ad xs => some (t.setAl ad (xs.map (widen f)))
  | .lcvt f sat int wd aa sc => some (t.setVl wd ((t.alanes aa).map (narrowLane f sat int sc)))
  | .lpush n aa sc =>
    let u := t.unit n
    match u.pushRoom with
    | some d => some (t.setUnit n { u with taken := u.taken + 1, res := u.res ++ [pushLanes d sc (t.alanes aa)] })
    | none => none
  | .lvm f ad count ua uw =>
    some (if count = 0 then t else { t with latRun := some { f := f, ad := ad, left := count, ua := ua, uw := uw } })

/-- LATTICE_CMD_START (R287). DESIGN CHOICE (log entry 14). -/
def Tile.latStart (t : Tile) : Tile :=
  if t.latRun.isSome then t
  else
    match t.latq with
    | [] => t
    | c :: rest =>
      match t.latExec c with
      | some t => { t with latq := rest }
      | none => t

/-! ### LVM blocks (R302 to R306, R317 to R322, R331, R332, R687) -/

/-- Skip the next vector or slot of unit W without reading it, unless it was read already (R317, R318); a WORD32 vector is
taken as two images (R306). -/
def SUnit.skipImage (u : SUnit) (d : Desc) : SUnit :=
  if !u.buf.isEmpty then
    match u.takeImage with
    | some (_, u) => u
    | none => u
  else if d.fmt = 5 ∧ u.sub = 0 then { u with sub := 1 }
  else { u with idx := u.idx + 1, taken := u.taken + 1, pos := u.pos + 1#32, sub := 0 }

/-- Whether unit W can skip: a linear or a stipple-in command with an item left, the finished one replaced first. A
structured group is not skipped (R322). DEDUCED (log entry 77). -/
def Tile.skipReady (t : Tile) (u : Nat) : Option (Tile × Desc) :=
  let x := t.unit u
  let t := if x.cmdDone && x.wait.isSome then t.setUnit u x.endCmd else t
  let x := t.unit u
  match x.act with
  | some d =>
    if !Desc.dir d && !x.paused && decide (Desc.mode d < 2) && decide (x.taken < Desc.total d) then some (t, d) else none
  | none => none

/-- Unit W supplies its next item to the block in progress, or skips it where unit A's header has no bit (R302, R317,
R332). -/
def Tile.takeW (t : Tile) (u : Nat) (b : LvmPart) : Blk? LvmPart :=
  let skip := match b.hdr with
    | some h => !h.testBit b.pos
    | none => false
  match (if skip then t.skipReady u else none) with
  | some (t, d) =>
    .got (t.setUnit u ((t.unit u).skipImage d)) { b with pos := b.pos + 1, modes := b.modes ++ [Desc.mode d] }
  | none =>
    match t.ready u with
    | .wait => .wait
    | .bad t x => .bad t x
    | .got t (d, .group g) =>
      .got (t.setUnit u (t.unit u).takeItem)
        { b with pos := b.pos + 4, parts := b.parts ++ [.group b.pos (elemSize (Desc.fmt d)) g], modes := b.modes ++ [3] }
    | .got t (d, _) =>
      match (t.unit u).takeImage with
      | none => .wait
      | some (l, x) =>
        .got (t.setUnit u x)
          { b with pos := b.pos + 1, parts := b.parts ++ [.vec b.pos l], modes := b.modes ++ [Desc.mode d] }

/-- Unit W supplies what it can of the block's 16 positions: the tile, the block, and the fault that stopped it. -/
def Tile.gatherW (t : Tile) (u : Nat) : Nat → LvmPart → Tile × LvmPart × Option FaultRec
  | 0, b => (t, b, none)
  | n + 1, b =>
    if b.pos ≥ 16 then (t, b, none)
    else
      match t.takeW u b with
      | .wait => (t, b, none)
      | .bad t x => (t, b, some x)
      | .got t b => t.gatherW u n b

/-- The activations of a block: 16 lanes, and the header bits when unit A runs stipple-in. -/
def Tile.gatherA (t : Tile) (u : Nat) : Blk? LvmPart :=
  match t.ready u with
  | .wait => .wait
  | .bad t x => .bad t x
  | .got t (_, i) =>
    match (t.unit u).takeImage with
    | none => .wait
    | some (l, x) =>
      .got (t.setUnit u x) { xs := l, hdr := match i with
        | .slot h _ => some (bits h 15 0)
        | _ => none }

/-- Apply one part to the accumulator lanes (R302, R317, R332). -/
def applyPart (f : Nat) (xs : List Nat) (acc : List Nat) : WPart → List Nat
  | .vec k l => List.zipWith (fun a w => macLane f a (elemOf f (xs.getD k 0)) (elemOf f w)) acc l
  | .group k es b =>
    acc.zipIdx.map (fun p =>
      match groupLane es b p.2 with
      | (i0, i1, v0, v1) =>
        macLane f (macLane f p.1 (elemOf f (xs.getD (k + i0) 0)) (elemOf f v0))
          (elemOf f (xs.getD (k + i1) 0)) (elemOf f v1))

/-- All items of unit W came from commands of one mode (R687). DESIGN CHOICE (log entry 10). -/
def oneMode : List Nat → Bool
  | [] => true
  | m :: ms => ms.all (· == m)

/-- The block that is done goes into the accumulator; one fed by two modes leaves its lanes free (R687).
DESIGN CHOICE (log entry 10). -/
def State.lvmApply (s : State) (r : Nat) (v : LvmRun) (b : LvmPart) : State :=
  let t := s.tile r
  let run := if v.left ≤ 1 then none else some { v with left := v.left - 1, part := none }
  if oneMode b.modes then
    s.setTile r { t.setAl v.ad (b.parts.foldl (applyPart v.f b.xs) (t.alanes v.ad)) with latRun := run }
  else
    let free := (List.range 16).map (fun j => (Config.lvmMixed s.freeCtr j).toNat)
    { s.setTile r { t.setAl v.ad free with latRun := run } with freeCtr := s.freeCtr + 1 }

/-- LVM_BLOCK: the LVM takes what units A and W have for its block, and performs the block's MACs once it has all of it
(R302, R317, R331). A stream fault leaves the accumulator as the earlier blocks made it (R292).
DESIGN CHOICE (log entry 14). -/
def State.lvmBlock (s : State) (r : Nat) : State :=
  let t := s.tile r
  match t.latRun with
  | none => s
  | some v =>
    if t.rst then s
    else
      match (match v.part with
        | some b => Blk?.got t b
        | none => t.gatherA v.ua) with
      | .wait => s
      | .bad t x => (s.setTile r t).asyncFault r v.ua x
      | .got t b =>
        match t.gatherW v.uw 16 b with
        | (t, b, some x) => (s.setTile r { t with latRun := some { v with part := some b } }).asyncFault r v.uw x
        | (t, b, none) =>
          if b.pos < 16 then s.setTile r { t with latRun := some { v with part := some b } }
          else (s.setTile r t).lvmApply r v b

/-! ### STOP completes (R160, R194, R291) -/

/-- STOP_COMPLETE: with no remote instruction in flight, no packet half injected (R379) and the Lattice empty, the tile enters
STOPPED and its streams pause; a write unit that still holds vectors pauses once they are written. -/
def Tile.stopComplete (t : Tile) : Tile :=
  if t.state = .running ∧ t.stopping ∧ t.blk.isNone ∧ t.sendCh.isNone ∧ t.latq.isEmpty ∧ t.latRun.isNone then
    { (t.dropWait.allUnits (fun u =>
        if u.act.isNone then u
        else if u.res.isEmpty then { u with paused := true } else { u with pauseReq := true })) with
      state := .stopped, stopping := false, stepping := false }
  else t

end Sys2Proof.Machine
end

