-- ==== Sys2Proof/Machine/TileIsa.lean ====
section
/-! DEFINITION. Which body each Veluc-T mnemonic has (Tables 6.2 to 6.4, 7.3 to 7.6). -/

namespace Sys2Proof.Machine

/-- The body of a mnemonic on a tile. LIMM is no body of its own: the instruction after it runs (R210), and
the Veluc-H additions never decode on a tile. -/
def tileBody : Mn → Body
  | .add => localBody bodyAdd
  | .sub => localBody bodySub
  | .and => localBody bodyAnd
  | .or => localBody bodyOr
  | .xor => localBody bodyXor
  | .sll => localBody bodySll
  | .srl => localBody bodySrl
  | .sra => localBody bodySra
  | .slt => localBody bodySlt
  | .sltu => localBody bodySltu
  | .mul => localBody bodyMul
  | .mulh => localBody bodyMulh
  | .mulhu => localBody bodyMulhu
  | .min => localBody bodyMin
  | .max => localBody bodyMax
  | .minu => localBody bodyMinu
  | .maxu => localBody bodyMaxu
  | .clz => localBody bodyClz
  | .popc => localBody bodyPopc
  | .fadd => localBody bodyFadd
  | .fsub => localBody bodyFsub
  | .fmul => localBody bodyFmul
  | .fmin => localBody bodyFmin
  | .fmax => localBody bodyFmax
  | .feq => localBody bodyFeq
  | .flt => localBody bodyFlt
  | .fle => localBody bodyFle
  | .fcvtws => localBody bodyFcvtws
  | .fcvtsw => localBody bodyFcvtsw
  | .addi => localBody bodyAddi
  | .andi => localBody bodyAndi
  | .ori => localBody bodyOri
  | .xori => localBody bodyXori
  | .slti => localBody bodySlti
  | .sltiu => localBody bodySltiu
  | .lui => localBody bodyLui
  | .slli => localBody bodySlli
  | .srli => localBody bodySrli
  | .srai => localBody bodySrai
  | .lw => localBody bodyLw
  | .lh => localBody bodyLh
  | .lhu => localBody bodyLhu
  | .lb => localBody bodyLb
  | .lbu => localBody bodyLbu
  | .sw => localBody bodySw
  | .sh => localBody bodySh
  | .sb => localBody bodySb
  | .ldf => bodyLdf
  | .ste => bodySte
  | .crd => bodyCrd
  | .cwr => bodyCwr
  | .beq => localBody bodyBeq
  | .bne => localBody bodyBne
  | .blt => localBody bodyBlt
  | .bge => localBody bodyBge
  | .bltu => localBody bodyBltu
  | .bgeu => localBody bodyBgeu
  | .jal => localBody bodyJal
  | .jalr => localBody bodyJalr
  | .halt => bodyHalt
  | .brk => localBody bodyBrk
  | .rlw => bodyRlw
  | .rsw => bodyRsw
  | .rsh => bodyRsh
  | .rsb => bodyRsb
  | .rcopy => bodyRcopy
  | .rldf => bodyRldf
  | .rste => bodyRste
  | .sendq => bodySendq
  | .sendq2 => bodySendq2
  | .sendqm => bodySendqm
  | .remfence => bodyRemfence
  | .gaxy => localBody bodyGaxy
  | .qtry => localBody bodyQtry
  | .qcnt => localBody bodyQcnt
  | .barrive => bodyBarrive
  | .barwait => bodyBarwaitS
  | .bartest => localBody bodyBartest
  | .vldb => localBody bodyVldb
  | .vldh => localBody bodyVldh
  | .vstb => localBody bodyVstb
  | .vsth => localBody bodyVsth
  | .vadd => localBody bodyVadd
  | .vsub => localBody bodyVsub
  | .vmul => localBody bodyVmul
  | .vmin => localBody bodyVmin
  | .vmax => localBody bodyVmax
  | .vmov => localBody bodyVmov
  | .vsplat => localBody bodyVsplat
  | .vext => localBody bodyVext
  | .vins => localBody bodyVins
  | .vcvt => localBody bodyVcvt
  | .scvtf => localBody bodyScvtf
  | .scvtn => localBody bodyScvtn
  | .lmac => localBody bodyLmac
  | .lmacs => localBody bodyLmacs
  | .lzero => localBody bodyLzero
  | .lmov => localBody bodyLmov
  | .ladd => localBody bodyLadd
  | .lmaxa => localBody bodyLmaxa
  | .lmina => localBody bodyLmina
  | .lwid => localBody bodyLwid
  | .lcvt => localBody bodyLcvt
  | .lcvtq => localBody bodyLcvtq
  | .lvm => localBody bodyLvm
  | .sdgo => localBody bodySdgo
  | .sdwait => localBody bodySdwait
  | .vpop => bodyVpop
  | .lpush => localBody bodyLpush
  | .limm | .ld | .sd | .pcrr | .pcrw | .sysc | .tret | .idle | .pfence | .xlinv | .cinv | .cinvall | .atswp | .atadd =>
    fun r _ pc _ s => .fault s (illegalAt (s.tile r) pc) false

end Sys2Proof.Machine
end

