-- ==== Sys2Proof/Machine/PressIsa.lean ====
section
/-! DEFINITION. Veluc-H instructions on a Press core (12.2 to 12.4): arithmetic on 64 bits, accesses to scratch, registers
and windows, cached lines, barriers, control registers, and how one instruction runs. -/

namespace Sys2Proof.Machine

/-- The end of an instruction of a Press core: it completes at a pc, waits, is blocked on an answer, or traps with code,
DETAIL and address. -/
inductive PRes where
  | ok (s : State) (npc : W64)
  | wait (s : State)
  | blocked (s : State)
  | trap (s : State) (code detail : Nat) (addr : W64)

/-- Cluster, core, fields, own pc, next pc. -/
abbrev PBody := Nat → Nat → Fields → W64 → W64 → State → PRes

/-! ### Arithmetic (R489) -/

def sx32 (w : W32) : W64 := w.signExtend 64
/-- DEDUCED (log entry 57). -/
def zx32 (w : W32) : W64 := BitVec.ofNat 64 w.toNat
def lo32 (v : W64) : W32 := BitVec.ofNat 32 v.toNat

def pAlu (g : W64 → W64 → W64) : PBody := fun c k f _ npc s =>
  let q := s.core c k
  .ok (s.setCore c k (q.setX f.d (g (q.x f.a) (q.x f.b)))) npc
def pAlu1 (g : W64 → W64) : PBody := fun c k f _ npc s =>
  let q := s.core c k
  .ok (s.setCore c k (q.setX f.d (g (q.x f.a)))) npc
def pAlui (ext : W32 → W64) (g : W64 → W64 → W64) : PBody := fun c k f _ npc s =>
  let q := s.core c k
  .ok (s.setCore c k (q.setX f.d (g (q.x f.a) (ext f.imm)))) npc

def ofB64 (b : Bool) : W64 := if b then 1#64 else 0#64
def pSll (a b : W64) : W64 := a <<< (b.toNat % 64)
def pSrl (a b : W64) : W64 := a >>> (b.toNat % 64)
def pSra (a b : W64) : W64 := a.sshiftRight (b.toNat % 64)
def pMulh (a b : W64) : W64 := BitVec.ofInt 64 ((a.toInt * b.toInt) / 2 ^ 64)
def pMulhu (a b : W64) : W64 := BitVec.ofNat 64 ((a.toNat * b.toNat) / 2 ^ 64)
def pClz (a : W64) : W64 := BitVec.ofNat 64 (if a = 0#64 then 64 else 63 - a.toNat.log2)
def pPopc (a : W64) : W64 := BitVec.ofNat 64 (popc a.toNat 64)
/-- LUI sign-extends from bit 31. -/
def pLui (_ b : W64) : W64 := sx32 (lo32 (b <<< 16))
/-- Floating-point operations act on bits [31:0] and zero-extend their result. DEDUCED (log entry 57). -/
def pFp (g : W32 → W32 → W32) (a b : W64) : W64 := zx32 (g (lo32 a) (lo32 b))

/-! ### Traps of an access -/

/-- An access fault: CODE 0x03. DEDUCED (log entry 58). -/
def pAccFault (s : State) (detail : Nat) (va : W64) : PRes := .trap s 3 detail va

/-- Alignment, then translation (R482, R493). DEDUCED (log entry 58). -/
def withPa (c k : Nat) (va : W64) (n : Nat) (acc : Acc) (s : State) (go : State → Nat → Bool → PRes) : PRes :=
  if va.toNat % n ≠ 0 then .trap s 2 n va
  else
    match s.translate c k va acc with
    | (s, .error (code, detail)) => .trap s code detail va
    | (s, .ok (pa, ca)) => go s pa ca

/-! ### Window accesses (R474, R475, R477, R478, R482) -/

/-- A check of the gate before a packet leaves: 0, or the DETAIL of the access fault, with what the gate records. -/
def State.gateCheck (s : State) (c k : Nat) (kind : Nat) (g : Ga) (n : Nat) : State × Nat :=
  let q := s.core c k
  let h := s.gateHdr c k
  if q.lvl = .u ∧ kind ≠ 0 then (s, 0x11)
  else if g.bad n then (s.modPrs c (fun x => { x with gstat := setBit x.gstat 1 true }), 7)
  else if !(s.prs c).keyOk h.pkey then ((s.modPrs c (fun x => { x with gstat := setBit x.gstat 0 true })).gateKeyDrop c, 0x13)
  else (s, 0)

/-- The words of a blocked access go out, one packet each. -/
def State.gateReads (s : State) (c k : Nat) (g : Ga) (op : Nat) : List Nat → List Nat → State
  | [], _ => s
  | _, [] => s
  | i :: is, t :: ts =>
    let gi := { g with off := g.off + 4 * i }
    let pk := shortReq (s.gateHdr c k) (gateRouter c) gi op
    (s.gateSend c k t (some i) gi.word pk).gateReads c k g op is ts

/-- Block the core on the answers to `need` words from GA `g`; it stalls while the gate lacks tags or credit. -/
def pBlock (s : State) (c k : Nat) (b : PBlk) (g : Ga) (op : Nat) : PRes :=
  let tags := (s.prs c).freeTags
  if tags.length < b.need.length || !s.canInject (gateRouter c) .gate 0 then .wait s
  else .blocked ((s.modCore c k (fun q => { q with blk := some b })).gateReads c k g op b.need tags)

/-- A posted store leaves, or the core stalls (R477). -/
def pPost (s : State) (c k : Nat) (ga : W64) (pk : Packet) (npc : W64) : PRes :=
  match (s.prs c).freeTags with
  | [] => .wait s
  | t :: _ => if s.canInject (gateRouter c) .gate pk.h.ch then .ok (s.gateSend c k t none ga pk) npc else .wait s

/-- Sizes that a window load takes (Table 12.3). -/
def winLoadOk (kind n : Nat) : Bool := if kind = 0 then true else if kind < 7 then n == 4 else false
def winStoreOk (kind n : Nat) : Bool :=
  if kind = 0 then true else if kind < 7 then n == 4 else n == 4 || n == 8

def pWinLoad (c k : Nat) (f : Fields) (npc : W64) (s : State) (va : W64) (kind : Nat) (g : Ga) (n : Nat) : PRes :=
  if !winLoadOk kind n then pAccFault s 0x12 va
  else
    match s.gateCheck c k kind g n with
    | (s, 0) =>
      let op := if kind = 6 then opFeLd else opRd kind
      let base := { g with off := g.off / 4 * 4 }
      let b : PBlk := { kind := if kind = 6 then .feLd else .load, mn := f.mn, rd := f.d, npc := npc, va := va, ga := g.word,
                        pos := g.off % 4, need := if n = 8 then [0, 1] else [0],
                        pkt := shortReq (s.gateHdr c k) (gateRouter c) g op }
      pBlock s c k b base op
    | (s, d) => pAccFault s d va

/-- A store's packet (Table 12.3). -/
def storePkt (h : Hdr) (r : Nat) (kind : Nat) (g : Ga) (n : Nat) (v : W64) : Packet :=
  let words : List W32 := if n = 8 then [lo32 v, lo32 (v >>> 32)] else [lo32 v]
  if kind = 7 then
    let pk := longReq h r g opQmsg 2 words
    { pk with h := { pk.h with off := bits (BitVec.ofNat 29 g.off) 3 2 } }
  else if kind = 6 then longReq h r g opFeSt 0 words
  else if n = 1 then longReq h r g opWrB 0 [BitVec.ofNat 32 ((v.toNat % 256) <<< (8 * (g.off % 4)))]
  else if n = 2 then longReq h r g opWrH 0 [BitVec.ofNat 32 ((v.toNat % 65536) <<< (8 * (g.off % 4)))]
  else longReq h r g (opWr kind) 0 words

def pWinStore (c k : Nat) (f : Fields) (npc : W64) (s : State) (va : W64) (kind : Nat) (g : Ga) (n : Nat) (v : W64) : PRes :=
  if !winStoreOk kind n then pAccFault s 0x12 va
  else if kind = 7 ∧ (g.off / 16 ≠ 0 ∨ g.off % 4 ≠ 0) then
    (match s.gateCheck c k kind { g with off := 0x20000000 } n with
     | (s, d) => pAccFault s d va)
  else
    match s.gateCheck c k kind (if kind = 7 then { g with off := 0 } else g) n with
    | (s, 0) =>
      let pk := storePkt (s.gateHdr c k) (gateRouter c) kind g n v
      if kind = 6 then
        let b : PBlk := { kind := .feSt, mn := f.mn, rd := 0, npc := npc, va := va, ga := g.word, need := [0], pkt := pk }
        (match (s.prs c).freeTags with
         | [] => .wait s
         | t :: _ =>
           if s.canInject (gateRouter c) .gate 0 then
             .blocked ((s.modCore c k (fun q => { q with blk := some b })).gateSend c k t (some 0) g.word pk)
           else .wait s)
      else pPost s c k g.word pk npc
    | (s, d) => pAccFault s d va

/-! ### Cached lines (R486, R487) -/

/-- A line enters the core's L2. DESIGN CHOICE (log entry 53). -/
def State.fillL2 (s : State) (c k line : Nat) (b : Bytes) : State :=
  { (s.modCore c k (fun q => { q with l2 := cachePut l2Lines (Config.victim s.freeCtr) q.l2 line b })) with freeCtr := s.freeCtr + 1 }

/-- A line enters L3. DESIGN CHOICE (log entry 53). -/
def State.fillL3 (s : State) (c line : Nat) (b : Bytes) : State :=
  { (s.modPrs c (fun x => { x with l3 := cachePut x.l3Lines (Config.victim s.freeCtr) x.l3 line b })) with freeCtr := s.freeCtr + 1 }

/-- A load from a page that is cached read-only: L2, then L3, then a fill. A copy with an uncorrectable error is discarded on the
way (R576). DESIGN CHOICE (log entry 53). -/
def pCached (c k : Nat) (f : Fields) (npc : W64) (s : State) (va : W64) (pa n : Nat) (ext : Nat → W64) (g : Ga) : PRes :=
  let line := pa / 64
  let use (s : State) (b : Bytes) : PRes :=
    .ok (s.modCore c k (fun q => q.setX f.d (ext (leNat ((b.drop (pa % 64)).take n))))) npc
  match cacheGet (s.core c k).l2 line, cacheGet (s.prs c).l3 line with
  | some b, _ => use s b
  | none, some b => use (s.fillL2 c k line b) b
  | none, none =>
    let s := (s.modCore c k (fun q => { q with l2 := cacheDrop q.l2 line })).modPrs c
      (fun x => { x with l3 := cacheDrop x.l3 line })
    let base := { g with off := g.off / 64 * 64 }
    match s.gateCheck c k 0 base 64 with
    | (s, 0) =>
      let b : PBlk := { kind := .fill, mn := f.mn, rd := f.d, npc := npc, va := va, ga := g.word, pos := pa % 64, line := line,
                        need := List.range 16, pkt := { h := s.gateHdr c k } }
      pBlock s c k b base (opRd 0)
    | (s, d) => pAccFault s d va

/-- How a load's bytes extend (R489). -/
def ldExt : Mn → Nat → W64
  | .lw => fun v => sx32 (BitVec.ofNat 32 v)
  | .lh => fun v => (BitVec.ofNat 16 v).signExtend 64
  | .lb => fun v => (BitVec.ofNat 8 v).signExtend 64
  | _ => BitVec.ofNat 64

def pEff (q : PCore) (f : Fields) : W64 := q.x f.a + sx32 f.imm

def State.prsLevel (s : State) (c k : Nat) : PrsWho :=
  { p := match (s.core c k).lvl with
      | .m => .pressM
      | .s => .pressS
      | .u => .pressU }

/-- A load of n bytes. -/
def pLoad (n : Nat) : PBody := fun c k f _ npc s =>
  let va := pEff (s.core c k) f
  let ext := ldExt f.mn
  withPa c k va n .load s (fun s pa ca =>
    let x := s.prs c
    match x.target pa n with
    | .none => pAccFault s 0x10 va
    | .scratch a =>
      if x.scratchUe a n then pAccFault s 3 va
      else .ok (s.modCore c k (·.setX f.d (ext (leNat (mread x.scratch a n))))) npc
    | .reg off =>
      if n = 4 ∨ (n = 8 ∧ 0x100 ≤ off ∧ off < 0x180) then
        let w (o : Nat) : Nat := if (s.prsLevel c k).reads then (x.peek c o).toNat else 0
        .ok (s.modCore c k (·.setX f.d (ext (w off + (if n = 8 then w (off + 4) * 2 ^ 32 else 0))))) npc
      else pAccFault s 0x12 va
    | .win kind g => if ca then pCached c k f npc s va pa n ext g else pWinLoad c k f npc s va kind g n)

/-- A store of n bytes. -/
def pStore (n : Nat) : PBody := fun c k f _ npc s =>
  let q := s.core c k
  let va := pEff q f
  let v := q.x f.d
  withPa c k va n .store s (fun s pa _ =>
    let x := s.prs c
    match x.target pa n with
    | .none => pAccFault s 0x10 va
    | .scratch a =>
      if n < 8 && x.scratchUe a n then pAccFault s 3 va
      else .ok (s.setPrs c (x.scratchPut a (natLe n v.toNat))) npc
    | .reg off =>
      if n = 4 then .ok (s.prsWrite c (s.prsLevel c k) off (lo32 v)) npc
      else if n = 8 ∧ 0x100 ≤ off ∧ off < 0x180 then
        .ok (s.modPrs c (fun x => if (s.prsLevel c k).mWrite then x.wrFwin ((off - 0x100) / 8) v else x.refuse)) npc
      else pAccFault s 0x12 va
    | .win kind g => pWinStore c k f npc s va kind g n v)

/-- ATSWP and ATADD: one indivisible access to an 8-byte scratch word (R489). -/
def pAtomic (g : W64 → W64 → W64) : PBody := fun c k f _ npc s =>
  let q := s.core c k
  let va := q.x f.a
  withPa c k va 8 .store s (fun s pa _ =>
    let x := s.prs c
    match x.target pa 8 with
    | .scratch a =>
      if x.scratchUe a 8 then pAccFault s 3 va
      else
        let old := mread64 x.scratch a
        .ok ((s.setPrs c (x.scratchPut a (natLe 8 (g old (q.x f.b)).toNat))).modCore c k (·.setX f.d old)) npc
    | _ => pAccFault s 0x10 va)

/-! ### Control flow -/

def pBranch (g : W64 → W64 → Bool) : PBody := fun c k f pc npc s =>
  let q := s.core c k
  .ok s (if g (q.x f.d) (q.x f.a) then pc + sx32 f.imm <<< 2 else npc)
def pJal : PBody := fun c k f pc npc s => .ok (s.modCore c k (·.setX f.d npc)) (pc + sx32 f.imm <<< 2)
def pJalr : PBody := fun c k f _ npc s =>
  let q := s.core c k
  let tgt := q.x f.a + sx32 f.imm
  if bits tgt 1 0 ≠ 0 then .trap s 2 4 tgt else .ok (s.setCore c k (q.setX f.d npc)) tgt
def pBrk : PBody := fun _ _ f _ _ s => .trap s 0xC (bits f.imm 7 0) 0#64
def pSysc : PBody := fun c k f _ _ s => .trap s (7 + (s.core c k).lvl.code) f.d 0#64
def pIllegal : PBody := fun _ _ _ _ _ s => .trap s 1 0 0#64

/-- An instruction of a core with a gate (R479); the management pair has none. DESIGN CHOICE (log entry 65). -/
def withGate (g : PBody) : PBody := fun c k f pc npc s => if c = mgmtUnit then .trap s 1 0 0#64 else g c k f pc npc s

/-- An instruction whose lowest level is S. -/
def atS (g : PBody) : PBody := fun c k f pc npc s => if (s.core c k).lvl = .u then .trap s 1 0 0#64 else g c k f pc npc s

def pTret : PBody := fun c k _ _ _ s => .ok (s.modCore c k (·.tret)) ((s.core c k).tret).pc
def pIdle : PBody := fun c k _ _ npc s =>
  if s.ipend c k &&& ((s.core c k).ctlReg 0x808).toNat = 0 then .wait s else .ok s npc
def pPcrr : PBody := fun c k f _ npc s =>
  match s.ctlRead c k f.imm.toNat with
  | some v => .ok (s.modCore c k (·.setX f.d v)) npc
  | none => .trap s 1 0 0#64
def pPcrw : PBody := fun c k f _ npc s =>
  let q := s.core c k
  match q.ctlWrite f.imm.toNat (q.x f.a) with
  | some q => .ok (s.setCore c k q) npc
  | none => .trap s 1 0 0#64
def pXlinv : PBody := fun c k f _ npc s =>
  .ok (s.modCore c k (fun q => q.xlinv (f.a == 0) (q.x f.a).toNat)) npc

/-- CINV: the line that holds the address leaves the core's L2 and the L3 (R487). -/
def pCinv : PBody := fun c k f _ npc s =>
  let va := (s.core c k).x f.a
  match s.translate c k va .load with
  | (s, .error (code, detail)) => .trap s code detail va
  | (s, .ok (pa, _)) =>
    let s := s.modCore c k (fun q => { q with l2 := sdel q.l2 (pa / 64) })
    .ok (s.modPrs c (fun x => { x with l3 := sdel x.l3 (pa / 64) })) npc
def pCinvall : PBody := fun c k _ _ npc s =>
  let s := s.modCore c k (fun q => { q with l2 := [] })
  .ok (s.modPrs c (fun x => { x with l3 := [] })) npc

/-! ### Fences and barriers (R479, R496) -/

/-- The latched error traps: CODE 0x0A with the status and the GA. -/
def pLatched (s : State) (c k : Nat) (l : Nat × W64) : PRes :=
  .trap (s.modCore c k (fun q => { q with latch := none, latchMore := false })) 0xA l.1 l.2

def pPfence : PBody := fun c k _ _ npc s =>
  let q := s.core c k
  match q.latch with
  | some l => pLatched s c k l
  | none =>
    let wait := q.fence.getD ((s.prs c).openC0 k)
    if wait.isEmpty then .ok s npc else .wait (s.setCore c k { q with fence := some wait })

def PCore.pendOf (q : PCore) (i : Nat) : Option Nat :=
  (List.range 16).find? (fun n => (sget {} q.pend n).valid && (sget {} q.pend n).id == i)
def PCore.pendFree (q : PCore) : Option Nat := (List.range 16).find? (fun n => !(sget {} q.pend n).valid)
/-- The barrier id (R249): modulo 2^32. -/
def pBarId (q : PCore) (f : Fields) : Nat := (q.x f.a + zx32 f.imm).toNat % 2 ^ 32
/-- Barrier misuse: CODE 0x0B with the reason of Table 10.6. -/
def pBarFault (s : State) (reason : Nat) : PRes := .trap s 0xB reason 0#64

def pBarrive : PBody := fun c k f _ npc s =>
  let q := s.core c k
  let i := pBarId q f
  if i ≥ 16384 then pBarFault s 1
  else if (q.pendOf i).isSome then pBarFault s 2
  else
    match q.pendFree with
    | none => pBarFault s 3
    | some n =>
      let e : Pend := { valid := true, id := i, waits := (s.prs c).openC0 k }
      .ok ((s.setCore c k { q with pend := sput q.pend n e, arrivals := q.arrivals ++ [n] }).gateArrivals c k arriveFuel) npc

def pBarwait : PBody := fun c k f _ npc s =>
  let q := s.core c k
  let i := pBarId q f
  if i ≥ 16384 then pBarFault s 1
  else
    match q.pendOf i with
    | none => pBarFault s 4
    | some n =>
      match q.latch with
      | some l => pLatched s c k l
      | none =>
        if (sget {} q.pend n).released then .ok (s.setCore c k { q with pend := sput q.pend n {} }) npc else .wait s

def pBartest : PBody := fun c k f _ npc s =>
  let q := s.core c k
  let i := pBarId q f
  if i ≥ 16384 then pBarFault s 1
  else
    match q.pendOf i with
    | none => pBarFault s 4
    | some n =>
      if (sget {} q.pend n).released then .ok (s.setCore c k ({ q with pend := sput q.pend n {} }.setX f.d 1#64)) npc
      else .ok (s.setCore c k (q.setX f.d 0#64)) npc

/-! ### Which body each mnemonic has -/

def pressBody : Mn → PBody
  | .add => pAlu (· + ·)
  | .sub => pAlu (· - ·)
  | .and => pAlu (· &&& ·)
  | .or => pAlu (· ||| ·)
  | .xor => pAlu (· ^^^ ·)
  | .sll => pAlu pSll
  | .srl => pAlu pSrl
  | .sra => pAlu pSra
  | .slt => pAlu (fun a b => ofB64 (a.slt b))
  | .sltu => pAlu (fun a b => ofB64 (a.ult b))
  | .mul => pAlu (· * ·)
  | .mulh => pAlu pMulh
  | .mulhu => pAlu pMulhu
  | .min => pAlu (fun a b => if b.slt a then b else a)
  | .max => pAlu (fun a b => if a.slt b then b else a)
  | .minu => pAlu (fun a b => if b.ult a then b else a)
  | .maxu => pAlu (fun a b => if a.ult b then b else a)
  | .clz => pAlu1 pClz
  | .popc => pAlu1 pPopc
  | .fadd => pAlu (pFp fAdd)
  | .fsub => pAlu (pFp fSub)
  | .fmul => pAlu (pFp fMul)
  | .fmin => pAlu (pFp (fSel false false))
  | .fmax => pAlu (pFp (fSel true false))
  | .feq => pAlu (pFp fEq)
  | .flt => pAlu (pFp fLt)
  | .fle => pAlu (pFp fLe)
  | .fcvtws => pAlu1 (fun a => zx32 (fCvtws (lo32 a)))
  | .fcvtsw => pAlu1 (fun a => zx32 (fCvtsw (lo32 a)))
  | .addi => pAlui sx32 (· + ·)
  | .andi => pAlui zx32 (· &&& ·)
  | .ori => pAlui zx32 (· ||| ·)
  | .xori => pAlui zx32 (· ^^^ ·)
  | .slti => pAlui sx32 (fun a b => ofB64 (a.slt b))
  | .sltiu => pAlui zx32 (fun a b => ofB64 (a.ult b))
  | .lui => pAlui zx32 pLui
  | .slli => pAlui zx32 pSll
  | .srli => pAlui zx32 pSrl
  | .srai => pAlui zx32 pSra
  | .lw => pLoad 4
  | .lh => pLoad 2
  | .lhu => pLoad 2
  | .lb => pLoad 1
  | .lbu => pLoad 1
  | .ld => pLoad 8
  | .sw => pStore 4
  | .sh => pStore 2
  | .sb => pStore 1
  | .sd => pStore 8
  | .beq => pBranch (· == ·)
  | .bne => pBranch (fun a b => !(a == b))
  | .blt => pBranch BitVec.slt
  | .bge => pBranch (fun a b => !a.slt b)
  | .bltu => pBranch BitVec.ult
  | .bgeu => pBranch (fun a b => !a.ult b)
  | .jal => pJal
  | .jalr => pJalr
  | .brk => pBrk
  | .barrive => atS (withGate pBarrive)
  | .barwait => atS (withGate pBarwait)
  | .bartest => atS (withGate pBartest)
  | .pcrr => pPcrr
  | .pcrw => pPcrw
  | .sysc => pSysc
  | .tret => atS pTret
  | .idle => atS pIdle
  | .pfence => pPfence
  | .xlinv => atS pXlinv
  | .cinv => pCinv
  | .cinvall => atS pCinvall
  | .atswp => pAtomic (fun _ b => b)
  | .atadd => pAtomic (· + ·)
  | .limm | .ldf | .ste | .crd | .cwr | .halt | .rlw | .rsw | .rsh | .rsb | .rcopy | .rldf | .rste | .sendq | .sendq2
  | .sendqm | .remfence | .gaxy | .qtry | .qcnt | .vldb | .vldh | .vstb | .vsth | .vadd | .vsub | .vmul | .vmin | .vmax
  | .vmov | .vsplat | .vext | .vins | .vcvt | .scvtf | .scvtn | .lmac | .lmacs | .lzero | .lmov | .ladd | .lmaxa | .lmina
  | .lwid | .lcvt | .lcvtq | .lvm | .sdgo | .sdwait | .vpop | .lpush => pIllegal

/-! ### How one instruction runs -/

/-- What a Press fetch gives: the instruction, or the trap of the fetch (R489). -/
inductive PFetched where
  | instr (s : State) (f : Fields) (limm : Bool) (len : Nat)
  | bad (s : State) (code detail : Nat) (addr : W64)
  deriving DecidableEq

/-- One word at a virtual address, from scratch only (R489). -/
def State.pressWord (s : State) (c k : Nat) (va : W64) : State × Except (Nat × Nat) W32 :=
  if va.toNat % 4 ≠ 0 then (s, .error (2, 4))
  else
    match s.translate c k va .fetch with
    | (s, .error e) => (s, .error e)
    | (s, .ok (pa, _)) =>
      let x := s.prs c
      match x.target pa 4 with
      | .scratch a => if x.scratchUe a 4 then (s, .error (3, 3)) else (s, .ok (mread32 x.scratch a))
      | _ => (s, .error (3, 0x10))

def State.pressFetch (s : State) (c k : Nat) : PFetched :=
  let pc := (s.core c k).pc
  match s.pressWord c k pc with
  | (s, .error (code, d)) => .bad s code d pc
  | (s, .ok w) =>
    if !isLimm w then
      match decodePress w none with
      | some f => .instr s f false 4
      | none => .bad s 1 0 0#64
    else if bits w 25 16 ≠ 0 then .bad s 1 0 0#64
    else
      match s.pressWord c k (pc + 4#64) with
      | (s, .error (code, d)) => .bad s code d (pc + 4#64)
      | (s, .ok w2) =>
        match decodePress w2 (some (BitVec.ofNat 16 (bits w 15 0))) with
        | some f => .instr s f true 8
        | none => .bad s 1 0 0#64

/-- A trap of core k: answers still due to a failed access are for nobody. DEDUCED (log entry 58). An uncorrectable word of SRAM that
the management pair reads is recorded (R575). -/
def State.pressTrap (s : State) (c k code detail : Nat) (addr : W64) : State :=
  let s := if c = mgmtUnit ∧ code = 3 ∧ detail = 3 then s.modWdn (·.recordUe false addr.toNat) else s
  s.modPrs c (fun x =>
    let q := x.core k
    { (x.setCore k (q.trap false code detail addr q.pc)) with
      tags := x.tags.map (fun e => if e.2.core = k ∧ e.2.word.isSome then (e.1, { e.2 with dead := true }) else e) })

/-- The instruction completes. -/
def State.pressDone (s : State) (c k : Nat) (npc : W64) : State :=
  s.modCore c k (fun q => { q with pc := npc, fence := none, blk := none })

/-- Core k of cluster c executes the instruction at its pc, when that instruction is `mn`; a fault of the fetch is
taken whatever row was named. In every other case the command does not occur. DESIGN CHOICE (log entry 1). -/
def State.runPress (s : State) (c k : Nat) (mn : Mn) : State :=
  if !(s.prs c).runs k || (s.core c k).blk.isSome then s
  else
    match s.pressFetch c k with
    | .bad s code d a => s.pressTrap c k code d a
    | .instr s' f limm len =>
      if (if limm then mn = .limm else mn = f.mn) then
        let pc := (s'.core c k).pc
        match pressBody f.mn c k f pc (pc + BitVec.ofNat 64 len) s' with
        | .ok s npc => s.pressDone c k npc
        | .wait s => s
        | .blocked s => s
        | .trap s code d a => s.pressTrap c k code d a
      else s

/-- A hart executes its next instruction, when it is the row named; without the reference its clock is stopped (R134). -/
def State.runHart (s : State) (h : Hart) (mn : Mn) : State :=
  s.clocked
    (match h with
     | .tile t => s.runTile t.val mn tileBody
     | .press c k => s.runPress c.val k.val mn
     | .mgmt => if s.wdn.fwRuns then s.runPress mgmtUnit 0 mn else s)

/-! ### Answers at a gate (R477, R478, R483, R484, R486) -/

/-- The access of core k has its last answer. -/
def State.pressFinish (s : State) (c k : Nat) (b : PBlk) : State :=
  let bytes := ofWords ((List.range b.got.length).map (fun i => sget 0#32 b.got i))
  let n := match b.mn with
    | .ld => 8
    | .lw => 4
    | .lh | .lhu => 2
    | _ => 1
  let v := ldExt b.mn (leNat ((bytes.drop b.pos).take n))
  match b.kind with
  | .feSt => s.pressDone c k b.npc
  | .feLd | .load => (s.modCore c k (·.setX b.rd v)).pressDone c k b.npc
  | .fill =>
    (((s.fillL3 c b.line bytes).fillL2 c k b.line bytes).modCore c k (·.setX b.rd v)).pressDone c k b.npc

/-- A RESP for the blocked access of core k. -/
def State.pressResp (s : State) (c k : Nat) (b : PBlk) (i status : Nat) (data : W32) : State :=
  if status = 0 then
    let b := { b with need := b.need.filter (· != i), got := sput b.got i data }
    if b.need.isEmpty then s.pressFinish c k b else s.modCore c k (fun q => { q with blk := some b })
  else if status = 1 ∧ (b.kind = .feLd ∨ b.kind = .feSt) then
    (if b.naks ≥ 64 then s.pressTrap c k 3 1 b.va
     else s.modCore c k (fun q => { q with blk := some { b with naks := b.naks + 1, backoff := true } }))
  else s.pressTrap c k 3 status b.va

/-- RESP at a gate: an answer with a tag that is not in use is discarded (R612). -/
def State.gateTakeResp (s : State) (c : Nat) : State :=
  if (s.prs c).rst then s
  else
    s.take (gateRouter c) .gate 1 opResp (fun q s =>
      let x := s.prs c
      match x.tags.find? (fun e => e.1 == q.h.tag) with
      | none => s
      | some (_, t) =>
        let s := s.setPrs c { x with tags := sdel x.tags q.h.tag }
        match t.word, (s.core c t.core).blk with
        | some i, some b => if t.dead then s else s.pressResp c t.core b i q.h.status q.h.payload
        | _, _ => s)

/-- ACK at a gate: the tag is free, an error is latched, arrivals may leave (R477, R479, R496). -/
def State.gateTakeAck (s : State) (c : Nat) : State :=
  if (s.prs c).rst then s
  else
    s.take (gateRouter c) .gate 1 opAck (fun q s =>
      let x := s.prs c
      match x.tags.find? (fun e => e.1 == q.h.tag) with
      | none => s
      | some (g, t) =>
        let k := t.core
        let p := x.core k
        let p := { p with fence := p.fence.map (fun l => l.filter (· != g)),
                          pend := p.pend.map (fun e => (e.1, { e.2 with waits := e.2.waits.filter (· != g) })) }
        let p :=
          if q.h.status = 0 then p
          else if p.latch.isSome then { p with latchMore := true }
          else { p with latch := some (q.h.status, t.ga) }
        (s.setPrs c { (x.setCore k p) with tags := sdel x.tags g }).gateArrivals c k arriveFuel)

/-- GATE_FE_RETRY (R483): the access is sent again. -/
def State.gateRetry (s : State) (c k : Nat) : State :=
  match (s.core c k).blk, (s.prs c).freeTags with
  | some b, t :: _ =>
    if b.backoff && (s.prs c).runs k && s.canInject (gateRouter c) .gate 0 then
      (s.modCore c k (fun q => { q with blk := some { b with backoff := false } })).gateSend c k t (some 0) b.ga b.pkt
    else s
  | _, _ => s

end Sys2Proof.Machine
end

