-- ==== Sys2Proof/Machine/Proof.lean ====
section
/-! DEFINITION. The Proof Console: layers, commits, flips, timing generator and the PRF_ registers (chapter 17). -/

namespace Sys2Proof.Machine

/-! ### Shadow and active blocks (Table 17.5) -/

abbrev fbSize : Nat := 0x400000
abbrev fbBase : Nat := 0x800000

/-- The bits of the fields at word n of the block; a word without fields is reserved. -/
def prfMask (n : Nat) : W32 :=
  match n with
  | 0 => 0x77#32
  | 1 => 0x003FF000#32
  | 2 => 0x07FF07FF#32
  | 3 => 0xFFF#32
  | 4 => 0x1FFF1FFF#32
  | 8 => 0x007FFF01#32
  | 9 => 0x003FFFFC#32
  | 10 => 0x003FF000#32
  | 11 => 0x1FFF1FF8#32
  | 16 => 1#32
  | 17 => 0x003FC000#32
  | 18 => 0x1FFF1FFF#32
  | n => if 32 ≤ n ∧ n < 48 then 0xFFFFFFFF#32 else 0#32

/-- The fields of the Map, Text and Cursor layers, read from a block. -/
def blk (b : Sparse W32) (n : Nat) : W32 := sget 0#32 b n
def mapEn (b : Sparse W32) : Bool := bit (blk b 0) 0
def mapMode (b : Sparse W32) : Bool := bit (blk b 0) 1
def mapScale (b : Sparse W32) : Nat := bits (blk b 0) 6 4
def mapW (b : Sparse W32) : Nat := bits (blk b 2) 10 0
def mapH (b : Sparse W32) : Nat := bits (blk b 2) 26 16
def mapPitch (b : Sparse W32) : Nat := bits (blk b 3) 11 0
def mapBase (b : Sparse W32) : Nat := bits (blk b 1) 21 12 * 4096
def txtCols (b : Sparse W32) : Nat := bits (blk b 8) 15 8
def txtRows (b : Sparse W32) : Nat := bits (blk b 8) 22 16
def txtBase (b : Sparse W32) : Nat := bits (blk b 9) 21 2 * 4
def fontBase (b : Sparse W32) : Nat := bits (blk b 10) 21 12 * 4096
def curBase (b : Sparse W32) : Nat := bits (blk b 17) 21 14 * 16384

/-- R673: a shadow write that is refused. -/
def prfBad (n : Nat) (v : W32) : Bool :=
  match n with
  | 0 => decide (4 < bits v 6 4)
  | 2 => let w := bits v 10 0
         let h := bits v 26 16
         !(decide (1 ≤ w ∧ w ≤ 1024) && decide (1 ≤ h ∧ h ≤ 1024))
  | 3 => decide (bits v 11 0 % 8 ≠ 0)
  | 8 => let c := bits v 15 8
         let r := bits v 22 16
         !(decide (1 ≤ c ∧ c ≤ 240) && decide (1 ≤ r ∧ r ≤ 75))
  | _ => false

/-- A 13-bit two's complement value. -/
def s13 (x : Nat) : Int := (BitVec.ofNat 13 x).toInt

/-- What a shadow word holds after a write: a CUR_POS field below −63 keeps its value (R13). DESIGN CHOICE (log entry 34). -/
def prfMerge (n : Nat) (old v : W32) : W32 :=
  let w := v &&& prfMask n
  if n = 18 then
    let w := if s13 (bits v 12 0) < -63 then setBits w 12 0 (bits old 12 0) else w
    if s13 (bits v 28 16) < -63 then setBits w 28 16 (bits old 28 16) else w
  else w

/-- The end of the Map's buffer (R660). -/
def mapEnd (b : Sparse W32) (base : Nat) : Nat := base + mapPitch b * (mapH b - 1) + mapW b

/-- R660: the GO is refused. DESIGN CHOICE (log entry 34). -/
def goBad (b : Sparse W32) : Bool :=
  (mapEn b && decide (fbSize < mapEnd b (mapBase b)))
    || (bit (blk b 8) 0 && (decide (fbSize < txtBase b + 2 * txtCols b * txtRows b) || decide (fbSize < fontBase b + 4096)))
    || (bit (blk b 16) 0 && decide (fbSize < curBase b + 16384))
    || decide (mapPitch b < mapW b)
    || (mapScale b == 0 && (mapW b % 2 == 1 || mapH b % 2 == 1))

def Proof.flag (x : Proof) (n : Nat) : Proof := { x with stat := setBit x.stat n true }
def Proof.wref (x : Proof) : Proof := x.flag 0
def Proof.en (x : Proof) : Bool := bit x.ctl 0

/-! ### Commits and flips (17.3, 17.4) -/

/-- The pending commit is applied (R657, R658, R662, R665). -/
def Proof.applyCommit (x : Proof) : Proof :=
  let keep := mapMode x.active
  let act := if keep then sput x.shadow 1 (blk x.active 1) else x.shadow
  let x := { x with active := act, cframe := x.frame, pending := false }
  if x.req && !mapMode act then { x with req := false }.flag 3 else x

/-- R664: a pending request is signalled by the fence value that the pixel domain holds. DESIGN CHOICE (log entry 12). -/
def Proof.signalled (x : Proof) : Bool := decide ((x.fencePix + 65536 - x.fid) % 65536 < 32768)

/-- The pending request is taken if it is signalled and the active MODE is 1 (R664). -/
def Proof.takeFlip (x : Proof) : Proof :=
  if x.req && x.signalled && mapMode x.active then
    { x with active := sput x.active 1 (BitVec.ofNat 32 (x.flipBase * 4096)), req := false, mapFframe := x.frame }
  else x

/-- While EN is 0, commits and signalled flips do not wait for a latch point (R661, R665). DESIGN CHOICE (log entry 34). -/
def Proof.settle (x : Proof) : Proof :=
  if x.en then x
  else
    let x := { x with fencePix := x.fence }
    (if x.pending then x.applyCommit else x).takeFlip

/-- LATCH_POINT (R655, R657, R664): `go` and `fence` tell whether the pending GO and the last PRF_FENCE_SIG were seen at
or before it (R656); what was written before an earlier latch point has been seen. DESIGN CHOICE (log entry 12). -/
def Proof.latch (x : Proof) (go fence : Bool) : Proof :=
  if !x.en then x
  else
    let old := x.goOld
    let x := { x with frame := x.frame + 1#32, vblank := true, fencePix := if fence || x.fenceOld then x.fence else x.fencePix,
                      goOld := true, fenceOld := true }
    (if x.pending && (go || old) then x.applyCommit else x).takeFlip

/-- A write of PRF_COMMIT (R656, R659, R660). -/
def Proof.wrGo (x : Proof) (v : W32) : Proof :=
  if !bit v 0 || x.pending then x
  else if goBad x.shadow then x.wref
  else { x with pending := true, goOld := false }.settle

/-- A write of PRF_MAP_FLIP (R663). -/
def Proof.wrFlip (x : Proof) (v : W32) : Proof :=
  if fbSize < mapEnd x.active (bits v 25 16 * 4096) then x.wref
  else { x with req := true, flipBase := bits v 25 16, fid := bits v 15 0 }.settle

/-- A write of PRF_FENCE_SIG (R664). -/
def Proof.wrFence (x : Proof) (v : W32) : Proof :=
  { x with fence := bits v 15 0, fencePix := if x.fenceOld then x.fence else x.fencePix, fenceOld := false }.settle

/-- A write of shadow word n (R659, R673). DESIGN CHOICE (log entry 34). -/
def Proof.wrShadow (x : Proof) (n : Nat) (v : W32) : Proof :=
  if prfMask n = 0#32 then x
  else if x.pending then x.flag 2
  else if prfBad n v then x.wref
  else { x with shadow := sput x.shadow n (prfMerge n (blk x.shadow n) v) }

/-- A palette entry (R674). -/
def Proof.wrPal (x : Proof) (bank : Bool) (i : Nat) (v : W32) : Proof := { x with pal := sput x.pal (256 * b2n bank + i) v }

/-! ### The output (17.5) -/

/-- Lanes and lane rate in Mb/s (Table 17.4, R667). -/
def ctlLanes (ctl : W32) : Nat := 2 ^ bits ctl 2 1
def ctlRate (ctl : W32) : Nat := [1620, 2700, 5400, 8100].getD (bits ctl 5 4) 0

/-- R669: the timing is valid for a PRF_CTL value. -/
def Proof.timingOk (x : Proof) (ctl : W32) : Bool :=
  let hact := bits x.htim0 12 0
  let htot := bits x.htim0 28 16
  let vact := bits x.vtim0 12 0
  let vtot := bits x.vtim0 28 16
  let hs := bits x.htim1 12 0
  let he := bits x.htim1 28 16
  let vs := bits x.vtim1 12 0
  let ve := bits x.vtim1 28 16
  hact % 8 == 0 && decide (640 ≤ hact ∧ hact ≤ 1920) && decide (480 ≤ vact ∧ vact ≤ 1200)
    && decide (hact + 32 ≤ htot) && decide (vact + 3 ≤ vtot)
    && decide (hact ≤ hs ∧ hs < he ∧ he ≤ htot) && decide (vact ≤ vs ∧ vs < ve ∧ ve ≤ vtot)
    && decide (25000 ≤ x.pclk ∧ x.pclk ≤ 165000) && x.lock
    && decide (24 * x.pclk * 10 ≤ 8 * ctlLanes ctl * ctlRate ctl * 1000)

/-- A write of PRF_CTL (R669, R661): a reserved TPS or LANES keeps its value (R13). -/
def Proof.wrCtl (x : Proof) (v : W32) : Proof :=
  let c := v &&& 0x737#32
  let c := if 4 < bits v 10 8 then setBits c 10 8 (bits x.ctl 10 8) else c
  let c := if bits v 2 1 = 3 then setBits c 2 1 (bits x.ctl 2 1) else c
  if bit c 0 && !x.timingOk c then x.wref
  else { x with ctl := c, vblank := x.vblank && bit c 0 }.settle

/-- A write of PRF_PCLK (R670): the PLL has to lock again. DESIGN CHOICE (log entry 34). -/
def Proof.wrPclk (x : Proof) (v : W32) : Proof :=
  if x.en then x.wref else { x with pclk := bits v 17 0, lock := false, locking := true }

/-- PIXEL_PLL_LOCK (R670). -/
def Proof.pllLock (x : Proof) : Proof := if x.locking then { x with lock := true, locking := false } else x

/-- HPD_CHANGE (R671). -/
def Proof.hpdSet (x : Proof) (level : Bool) : Proof := if x.hpd = level then x else { x with hpd := level }.flag 5

/-- A write of PRF_AUX_CTL (R668): GO starts a transaction when none runs. DESIGN CHOICE (log entry 34). -/
def Proof.wrAux (x : Proof) (v : W32) : Proof :=
  { x with auxCtl := v &&& 0x8FFFFFFF#32, auxBusy := x.auxBusy || bit v 31,
           auxTimeout := x.auxTimeout && (x.auxBusy || !bit v 31) }

/-- AUX_DONE (R668). -/
def Proof.auxDone (x : Proof) (timeout : Bool) (code : Nat) (b : Bytes) : Proof :=
  if !x.auxBusy then x
  else if timeout then { x with auxBusy := false, auxTimeout := true }
  else { x with auxBusy := false, auxTimeout := false, auxCode := code, auxData := mwrite x.auxData 0 (b.take 16) }

/-! ### Layers (17.1, 17.2) -/

/-- Bytes that the Map fetches for output pixel (px, py): none where it does not cover the pixel (Table 17.2). -/
def mapAddrs (b : Sparse W32) (px py : Nat) : List Nat :=
  let mx := bits (blk b 4) 12 0
  let my := bits (blk b 4) 28 16
  let sc := mapScale b
  if !mapEn b || decide (px < mx) || decide (py < my) then []
  else
    let x := px - mx
    let y := py - my
    let at_ (cx cy : Nat) := mapBase b + mapPitch b * cy + cx
    if sc = 0 then
      if x < mapW b / 2 ∧ y < mapH b / 2 then
        [at_ (2 * x) (2 * y), at_ (2 * x + 1) (2 * y), at_ (2 * x) (2 * y + 1), at_ (2 * x + 1) (2 * y + 1)]
      else []
    else if x < sc * mapW b ∧ y < sc * mapH b then [at_ (x / sc) (y / sc)]
    else []

/-- A channel of a colour: 0 blue, 1 green, 2 red, 3 alpha. -/
def chan (c : W32) (n : Nat) : Nat := bits c (8 * n + 7) (8 * n)
def rgb (f : Nat → Nat) : W32 := BitVec.ofNat 32 (f 0 + 256 * f 1 + 65536 * f 2)

/-- R654: the average of four colours, or the one colour. -/
def mapColour (cs : List W32) : W32 :=
  match cs with
  | [c0, c1, c2, c3] => rgb (fun n => (chan c0 n + chan c1 n + chan c2 n + chan c3 n + 2) / 4)
  | c :: _ => rgb (chan c)
  | [] => 0#32

/-- R650: blend a source over a destination. -/
def blend (src dst : W32) : W32 :=
  let a := chan src 3
  rgb (fun n => (a * chan src n + (255 - a) * chan dst n + 127) / 255)

/-- The text cell and the place in it that cover a pixel: cell address, row and column of the glyph. -/
def txtCell (b : Sparse W32) (px py : Nat) : Option (Nat × Nat × Nat) :=
  let tx := bits (blk b 11) 12 3 * 8
  let ty := bits (blk b 11) 28 16
  if !bit (blk b 8) 0 || decide (px < tx) || decide (py < ty) then none
  else
    let x := px - tx
    let y := py - ty
    if x < 8 * txtCols b ∧ y < 16 * txtRows b then
      some (txtBase b + 2 * (txtCols b * (y / 16) + x / 8), y % 16, x % 8)
    else none

/-- The cursor pixel that covers an output pixel. -/
def curAddr (b : Sparse W32) (px py : Nat) : Option Nat :=
  let x := (px : Int) - s13 (bits (blk b 18) 12 0)
  let y := (py : Int) - s13 (bits (blk b 18) 28 16)
  if bit (blk b 16) 0 ∧ 0 ≤ x ∧ x < 64 ∧ 0 ≤ y ∧ y < 64 then some (curBase b + 256 * y.toNat + 4 * x.toNat) else none

/-- A pixel and the frame-buffer bytes fetched for it, from the byte reader `rd` (R650). -/
def Proof.pixel (x : Proof) (rd : Nat → W8) (px py : Nat) : W32 × List Nat :=
  let b := x.active
  let ma := mapAddrs b px py
  let pal (a : Nat) : W32 := sget 0#32 x.pal (256 * b2n (bit (blk b 0) 2) + (rd a).toNat)
  let c := if ma.isEmpty then rgb (chan x.bg) else mapColour (ma.map pal)
  let (c, ta) : W32 × List Nat :=
    match txtCell b px py with
    | none => (c, [])
    | some (a, gy, gx) =>
      let glyph := fontBase b + 16 * (rd a).toNat + gy
      let at_ := rd (a + 1)
      let idx := if bit (rd glyph) (7 - gx) then bits at_ 3 0 else bits at_ 7 4
      (blend (blk b (32 + idx)) c, [a, a + 1, glyph])
  match curAddr b px py with
  | none => (c, ma ++ ta)
  | some a =>
    (blend (BitVec.ofNat 32 (leNat [rd a, rd (a + 1), rd (a + 2), rd (a + 3)])) c, ma ++ ta ++ [a, a + 1, a + 2, a + 3])

/-- COMPOSE_LINE (R650, R651): line y of the active area is composed, and displayed while TPS is 0 (R668). -/
def State.composeLine (s : State) (y : Nat) : State :=
  let x := s.proof
  if !x.en || decide (bits x.vtim0 12 0 ≤ y) then s
  else
    let w := s.wdn
    let isBad (a : Nat) : Bool := w.eccAt (fbBase + a) == .ue
    let rd (a : Nat) : W8 := if isBad a then 0#8 else mget w.sram (fbBase + a)
    let px := (List.range (bits x.htim0 12 0)).map (fun i => x.pixel rd i y)
    let hit := if w.bad.isEmpty then [] else (px.flatMap (·.2)).filter isBad
    let x := { x with line := if bits x.ctl 10 8 = 0 then px.map (·.1) else [], lineNo := y, vblank := false }
    if hit.isEmpty then { s with proof := x }
    else { s with proof := x.flag 4, wdn := hit.foldl (fun w a => w.noteUe (fbBase + a)) w }

/-! ### PRF_ registers (17.6) -/

/-- Writers and readers of R648. -/
def prfParty (p : Party) : Bool := p == .wardenFw || p == .pressS || p == .pressM || hostParty p

/-- A read at a Warden offset of 0x1000 to 0x1FFF (R672). -/
def Proof.read (x : Proof) (off : Nat) : W32 :=
  let o := off - 0x1000
  if o = 0 then x.ctl
  else if o = 4 then
    BitVec.ofNat 32 (bits x.stat 5 0 + b2n x.hpd * 256 + b2n x.lock * 512 + b2n x.vblank * 1024)
  else if o = 8 then BitVec.ofNat 32 x.pclk
  else if o = 0x0C then x.htim0
  else if o = 0x10 then x.htim1
  else if o = 0x14 then x.vtim0
  else if o = 0x18 then x.vtim1
  else if o = 0x1C then x.frame
  else if o = 0x20 then BitVec.ofNat 32 (b2n x.pending * 2)
  else if o = 0x24 then x.cframe
  else if o = 0x28 then x.bg
  else if o = 0x30 then x.auxCtl
  else if o = 0x34 then BitVec.ofNat 32 (b2n x.auxBusy * 2 ^ 31 + b2n x.auxTimeout * 256 + x.auxCode)
  else if 0x40 ≤ o ∧ o < 0x50 then mread32 x.auxData (o / 4 * 4 - 0x40)
  else if o = 0x50 then BitVec.ofNat 32 (b2n x.req * 2 ^ 31 + x.flipBase * 65536 + x.fid)
  else if o = 0x54 then BitVec.ofNat 32 x.fence
  else if o = 0x58 then x.mapFframe
  else if 0x100 ≤ o ∧ o < 0x200 then blk x.shadow ((o - 0x100) / 4)
  else if 0x200 ≤ o ∧ o < 0x300 then blk x.active ((o - 0x200) / 4)
  else if 0x400 ≤ o ∧ o < 0xC00 then sget 0#32 x.pal ((o - 0x400) / 4)
  else 0#32

/-- A write at a Warden offset of 0x1000 to 0x1FFF from a party that may write. -/
def Proof.write (x : Proof) (off : Nat) (v : W32) : Proof :=
  let o := off - 0x1000
  let timing (y : Proof) : Proof := if x.en then x.wref else y
  if o = 0 then x.wrCtl v
  else if o = 4 then { x with stat := w1c x.stat v 0x3F#32 }
  else if o = 8 then x.wrPclk v
  else if o = 0x0C then timing { x with htim0 := v &&& 0x1FFF1FFF#32 }
  else if o = 0x10 then timing { x with htim1 := v &&& 0x9FFF1FFF#32 }
  else if o = 0x14 then timing { x with vtim0 := v &&& 0x1FFF1FFF#32 }
  else if o = 0x18 then timing { x with vtim1 := v &&& 0x9FFF1FFF#32 }
  else if o = 0x20 then x.wrGo v
  else if o = 0x28 then { x with bg := v &&& 0xFFFFFF#32 }
  else if o = 0x30 then x.wrAux v
  else if 0x40 ≤ o ∧ o < 0x50 then { x with auxData := mwrite32 x.auxData (o / 4 * 4 - 0x40) v }
  else if o = 0x50 then x.wrFlip v
  else if o = 0x54 then x.wrFence v
  else if 0x100 ≤ o ∧ o < 0x200 then x.wrShadow ((o - 0x100) / 4) v
  else if 0x400 ≤ o ∧ o < 0x800 then x.wrPal false ((o - 0x400) / 4) v
  else if 0x800 ≤ o ∧ o < 0xC00 then x.wrPal true ((o - 0x800) / 4) v
  else x

/-- A write by a party (R648). -/
def State.prfWrite (s : State) (p : Party) (g : Proof → Proof) : State :=
  { s with proof := if prfParty p then g s.proof else s.proof.wref }

end Sys2Proof.Machine
end

