-- ==== Sys2Proof/Machine/Warden.lean ====
section
/-! DEFINITION. The Warden: its space by party, the host interface, Stylus and I3C (12.7 to 12.9, 15.1, 16.3). -/

namespace Sys2Proof.Machine

/-! ### Warden space (Table 12.9) -/

/-- Offsets that Table 12.9 lists. -/
def wdnListed (off : Nat) : Bool :=
  decide (off < 0x3000) || decide (0x100000 ≤ off ∧ off < 0x100820) || decide (0x200000 ≤ off ∧ off < 0x210000)
    || decide (0x400000 ≤ off ∧ off < 0x500000) || decide (0x800000 ≤ off ∧ off < 0xC00000)
    || decide (0xF00000 ≤ off ∧ off < 0xF02000)

/-- Warden SRAM that Table 12.9 maps: the mailbox and the frame buffers. -/
def wdnSram (off : Nat) : Bool :=
  decide (0x400000 ≤ off ∧ off < 0x500000) || decide (0x800000 ≤ off ∧ off < 0xC00000)

/-- Software on a tile, which reads WDN_ID alone (R501). DEDUCED (log entry 18). -/
def tileParty : Party → Bool
  | .tileSelf | .tileSw => true
  | _ => false

/-- The Proof Console's registers and its frame buffers. -/
def prfOff (off : Nat) : Bool := decide (0x1000 ≤ off ∧ off < 0x2000) || decide (0x800000 ≤ off ∧ off < 0xC00000)

/-- Warden firmware, Press software at Machine level and host software. -/
def mainParty (p : Party) : Bool := p == .wardenFw || p == .pressM || hostParty p

/-- Word n of the Etch map (Tables 2.2, 2.3). -/
def State.etchWord (s : State) (n : Nat) : W32 :=
  if n = 0 then 1#32
  else if n = 1 then BitVec.ofNat 32 (bits s.serial 31 0)
  else if n = 2 then BitVec.ofNat 32 (bits s.serial 63 32)
  else if n = 3 then 64#32
  else if n < 8 then 0#32
  else (s.etchRec ((n - 8) / 8)).getD (n % 8) 0#32

/-- WDN_PWR_STAT (R107, R109). -/
def Warden.pwrStat (w : Warden) : W32 := BitVec.ofNat 32 (b2n w.overCap * 2 + b2n w.alert)

/-- A register half: bits 31:0 or 63:32 of a 64-bit value. -/
def half (w : W64) (hi : Bool) : W32 := BitVec.ofNat 32 (if hi then bits w 63 32 else bits w 31 0)

/-- The value of a WDN_ register below 0x1000 (Tables 4.8, 4.11 to 4.14, 12.11, 15.3). -/
def State.wdnReg (s : State) (off : Nat) : W32 :=
  let w := s.wdn
  if off = 0x0 then s.wdnId
  else if off = 0x10 then BitVec.ofNat 32 (b2n w.bootSrc)
  else if off = 0x14 then BitVec.ofNat 32 (b2n w.lstep)
  else if off = 0x200 then BitVec.ofNat 32 w.pwrCap
  else if off = 0x204 then w.pwrStat
  else if off = 0x208 then BitVec.ofNat 32 w.headroom
  else if off = 0x300 then BitVec.ofNat 32 (b2n w.go * 2)
  else if off = 0x304 then s.rstStat
  else if off = 0x308 then w.cause
  else if off = 0x318 ∨ off = 0x31C then half w.dead (off == 0x31C)
  else if off = 0x320 ∨ off = 0x324 then half w.unav (off == 0x324)
  else if 0x340 ≤ off ∧ off < 0x364 then
    BitVec.ofNat 32 (sget (gapReset ((off - 0x340) / 4)) w.gap ((off - 0x340) / 4))
  else if 0x400 ≤ off ∧ off < 0x480 then half (sget 0#64 w.keep ((off - 0x400) / 8)) (off / 4 % 2 == 1)
  else if off = 0x500 then w.hdb
  else if off = 0x600 ∨ off = 0x604 then half w.styUp (off == 0x604)
  else if off = 0x700 then w.hostStat
  else if 0x800 ≤ off ∧ off < 0x900 then
    (match off / 4 % 4 with
     | 0 => half (sget 0#64 w.hwin ((off - 0x800) / 16)) false
     | 1 => half (sget 0#64 w.hwin ((off - 0x800) / 16)) true
     | 2 => sget 0#32 w.hwkey ((off - 0x800) / 16)
     | _ => 0#32)
  else if off = 0x900 ∨ off = 0x904 then half w.evtPend (off == 0x904)
  else if off = 0x908 then w.evtCl
  else if off = 0x90C then w.err
  else if off = 0x910 then w.errAddr
  else if off = 0x918 then w.evtRim
  else if off = 0x920 then BitVec.ofNat 32 (w.epCount * 65536 + b2n w.ep.isSome)
  else 0#32

/-- Registers and memory of Warden space as a party other than a tile reads them, and what the word's check finds. -/
def State.wdnPeek (s : State) (p : Party) (off : Nat) : W32 :=
  let w := s.wdn
  if off < 0x1000 then
    (if 0x400 ≤ off ∧ off < 0x480 ∧ !mainParty p then 0#32 else s.wdnReg off)
  else if off < 0x2000 then (if prfParty p then s.proof.read off else 0#32)
  else if off < 0x3000 then s.island.read p off
  else if off < 0x200000 then (if prfParty p then s.etchWord ((off - 0x100000) / 4) else 0#32)
  else if off < 0x400000 then (if mainParty p then mread32 w.ground (off - 0x200000) else 0#32)
  else if off < 0x800000 then (if mainParty p then mread32 w.sram off else 0#32)
  else if off < 0xF00000 then (if prfParty p then mread32 w.sram off else 0#32)
  else if hostParty p then mread32 w.msixTab (off - 0xF00000)
  else 0#32

/-- A management core has read an uncorrectable word of SRAM: both cores trap with an access fault, DETAIL 0x03 (R575).
DESIGN CHOICE (log entry 65): TADDR holds the Warden offset. -/
def State.mgmtTrap (s : State) (off : Nat) : State :=
  s.modCore mgmtUnit 0 (fun q => q.trap false 3 3 (BitVec.ofNat 64 off) q.pc)

/-- The pair's unit once the boot ROM has loaded the image's body into SRAM: it starts at address 0 at Machine level (R500, R502).
DESIGN CHOICE (log entry 27). -/
def mgmtStart (img : Bytes) : Press :=
  { rst := false, hold := 0xE#32, ways := 32, scratch := mwrite [] 0 ((img.drop 256).take 0x1000000) }

/-- A 4-byte read of Warden space: the state, a status of Table 9.5, and the word (R501, R575, R129). DEDUCED (log entry 18). -/
def State.wdnRead (s : State) (p : Party) (off : Nat) : State × Nat × W32 :=
  let off := off / 4 * 4
  if !wdnListed off then (s, 7, 0#32)
  else if tileParty p then (s, 0, if off = 0 then s.wdnId else 0#32)
  else
    let v := s.wdnPeek p off
    match s.wdn.eccAt off with
    | .good => (s, 0, v)
    | .ce => (s.modWdn (·.noteCe), 0, v)
    | .ue => let s := s.modWdn (·.noteUe off)
             let s := if p == .wardenFw && wdnSram off && s.wdn.fwRuns then s.mgmtTrap off else s
             if wdnSram off then (s, 3, 0#32) else (s, 0, v)

/-! ### Writes of WDN_ registers (R513) -/

/-- A write of WDN_HWINn: GA bits [63:24] (R504). -/
def Warden.wrHwin (w : Warden) (p : Party) (n : Nat) (v : W64) : Warden :=
  if !(p == .wardenFw || hostParty p) || decide (8 ≤ bits v 63 60) then w.refuse
  else { w with hwin := sput w.hwin n (setBits v 23 0 0) }

/-- A write of one half of WDN_HWINn. -/
def Warden.wrHwin32 (w : Warden) (p : Party) (n : Nat) (hi : Bool) (v : W32) : Warden :=
  let old := sget 0#64 w.hwin n
  w.wrHwin p n (if hi then setBits old 63 32 v.toNat else setBits old 31 0 v.toNat)

/-- A write of WDN_HWKEYn (R504). -/
def Warden.wrHwkey (w : Warden) (p : Party) (n : Nat) (v : W32) : Warden :=
  if !(p == .wardenFw || hostParty p) || bits v 11 0 == 0 then w.refuse
  else { w with hwkey := sput w.hwkey n (v &&& 0xFFF#32) }

/-- A W1S write of WDN_HDB. -/
def Warden.wrHdb (w : Warden) (p : Party) (v : W32) : Warden :=
  if hostParty p || p == .pressM then { w with hdb := w1s w.hdb v } else w.refuse
/-- No part of either copy of the retirement log can be read (R49). -/
def Warden.logLost (w : Warden) : Bool := (List.range 256).all (fun n => w.slot (n / 4) (n % 4) == .bad)

/-- Slot n of a replacement log in the mailbox: 8 bytes at 8n, with field, p, s, a zero byte, the sequence number and the CRC-16
over the six bytes before it; ones throughout where the slot is erased. DESIGN CHOICE (log entry 78). -/
def Warden.mailSlot (w : Warden) (n : Nat) : LogSlot :=
  let b := mread w.sram (0x400000 + 8 * n) 8
  let at_ (i k : Nat) : Nat := leNat ((b.drop i).take k)
  if b.all (· == 0xFF#8) then .erased
  else if at_ 6 2 = crc16 (b.take 6) then .ok ⟨at_ 0 1, at_ 1 1, at_ 2 1, at_ 4 2⟩
  else .bad

/-- Warden firmware stores a replacement log in both copies (R49). -/
def Warden.loadLog (w : Warden) : Warden :=
  let l : Sparse LogSlot := (List.range 256).foldl (fun l n => sput l n (w.mailSlot n)) []
  { w with logA := l, logB := l }

/-- A write of WDN_HDB_CLR. Firmware that clears doorbell bit 1 has taken a message that holds a replacement log (R49):
DESIGN CHOICE (log entry 78). -/
def Warden.wrHdbClr (w : Warden) (p : Party) (v : W32) : Warden :=
  if p == .wardenFw then
    let w' := if bit v 1 && bit w.hdb 1 && w.logLost then w.loadLog else w
    { w' with hdb := w1c w.hdb v (~~~0#32) }
  else w.refuse
/-- A write of WDN_HMSI. -/
def Warden.wrHmsi (w : Warden) (p : Party) (v : W32) : Warden :=
  if p == .wardenFw then w.sendMsix (bits v 4 0) else w.refuse
/-- A write of WDN_BOOT. -/
def Warden.wrBoot (w : Warden) (p : Party) (v : W32) : Warden :=
  if p == .wardenFw || hostParty p then { w with bootSrc := bit v 0 } else w.refuse
/-- A W1C write of WDN_HOST_STAT. -/
def Warden.wrHostStat (w : Warden) (p : Party) (v : W32) : Warden :=
  if p == .wardenFw || hostParty p then { w with hostStat := w1c w.hostStat v 3#32 } else w.refuse

/-- A write of a RAS register (Table 15.3). -/
def Warden.wrRas (w : Warden) (p : Party) (off : Nat) (v : W32) : Warden :=
  if off = 0x914 ∨ off = 0x91C then w
  else if !mainParty p then w.refuse
  else if off = 0x900 ∨ off = 0x904 then { w with evtPend := w1cHalf w.evtPend (off == 0x904) v }
  else if off = 0x908 then { w with evtCl := v &&& 0x1F#32 }
  else if off = 0x90C then { w with err := w1c w.err v 7#32 }
  else if off = 0x918 then { w with evtRim := w1c w.evtRim v 0xF#32 }
  else w

/-- A 4-byte write of a WDN_ register below 0x1000. -/
def State.wdnRegWrite (s : State) (p : Party) (off : Nat) (v : W32) : State :=
  let w := s.wdn
  if off = 0x10 then s.setWdn (w.wrBoot p v)
  else if off = 0x200 then s.wrPwrCap p v
  else if off = 0x204 then s.setWdn (w.wrPwrStat p v)
  else if off = 0x208 then s.wrPwrCtl p v
  else if off = 0x300 then s.wrRstCtl p v
  else if off = 0x304 then s.setWdn (w.wrStat p v)
  else if off = 0x308 then s.setWdn (w.wrCause p v)
  else if off = 0x30C then s.wrRstField p v
  else if off = 0x310 then s.wrRstTile p v
  else if off = 0x318 ∨ off = 0x31C then s.wrFldDead p (off == 0x31C) v
  else if off = 0x320 ∨ off = 0x324 then s.wrFldUnav p (off == 0x324) v
  else if 0x340 ≤ off ∧ off < 0x364 then s.setWdn (w.wrGap p ((off - 0x340) / 4) v)
  else if 0x400 ≤ off ∧ off < 0x480 then s.setWdn (w.wrKeep32 p off v)
  else if off = 0x500 then s.setWdn (w.wrHdb p v)
  else if off = 0x504 then s.setWdn (w.wrHdbClr p v)
  else if off = 0x508 then s.setWdn (w.wrHmsi p v)
  else if off = 0x700 then s.setWdn (w.wrHostStat p v)
  else if 0x800 ≤ off ∧ off < 0x900 then
    (match off / 4 % 4 with
     | 0 => s.setWdn (w.wrHwin32 p ((off - 0x800) / 16) false v)
     | 1 => s.setWdn (w.wrHwin32 p ((off - 0x800) / 16) true v)
     | 2 => s.setWdn (w.wrHwkey p ((off - 0x800) / 16) v)
     | _ => s)
  else if 0x900 ≤ off ∧ off < 0x924 then s.setWdn (w.wrRas p off v)
  else s

/-- Bytes written to Warden SRAM: their 64-bit words are good again. DEDUCED (log entry 20). -/
def Warden.sramPut (w : Warden) (off : Nat) (b : Bytes) : Warden :=
  { w with sram := mwrite w.sram off b, bad := sclr w.bad (off / 8) ((off + b.length + 7) / 8) }

/-- A pending vector that is no longer masked is sent. PRESUMED (log entry 79). -/
def Warden.msixUnmask (w : Warden) (v : Nat) : Warden :=
  let p := mread32 w.msixTab 0x1000
  if bit p v && !w.msixMasked v then
    { w with msixTab := mwrite32 w.msixTab 0x1000 (setBit p v false), msix := w.msix ++ [v] }
  else w

/-- A write of the MSI-X table (R503); the pending-bit array is read-only. PRESUMED (log entry 79). -/
def Warden.wrMsix (w : Warden) (off : Nat) (b : Bytes) : Warden :=
  if 0x200 < off + b.length then w
  else (List.range 32).foldl Warden.msixUnmask { w with msixTab := mwrite w.msixTab off b }

/-- Bytes written to memory or to the MSI-X table at a Warden offset, by the rights of Table 12.9. -/
def State.wdnBytes (s : State) (p : Party) (off : Nat) (b : Bytes) : State :=
  if 0x400000 ≤ off ∧ off + b.length ≤ 0x500000 then (if mainParty p then s.modWdn (·.sramPut off b) else s)
  else if 0x800000 ≤ off ∧ off + b.length ≤ 0xC00000 then
    (if prfParty p then s.modWdn (·.sramPut off b) else { s with proof := s.proof.wref })
  else if 0xF00000 ≤ off ∧ off + b.length ≤ 0xF02000 then
    (if hostParty p then s.modWdn (·.wrMsix (off - 0xF00000) b) else s)
  else s

/-- A 4-byte write of Warden space, and a status of Table 9.5 (R501, R513). A write by software on a tile changes nothing; where
the register's own rule has a refused write set WDN_RST_STAT.REF, it does (R116, R126, R156, R513, R549). DEDUCED (log
entry 18). -/
def State.wdnWrite (s : State) (p : Party) (off : Nat) (v : W32) : State × Nat :=
  let off := off / 4 * 4
  if !wdnListed off then (s, 7)
  else if tileParty p && prfOff off then (s, 0)
  else if off < 0x1000 then (s.wdnRegWrite p off v, 0)
  else if off < 0x2000 then (s.prfWrite p (·.write off v), 0)
  else if off < 0x3000 then (s.sisWrite p off v, 0)
  else if off < 0x200000 then (s, 0)
  else if off < 0x400000 then (s.modWdn (·.wrKeep32 p off v), 0)
  else (s.wdnBytes p off (natLe 4 v.toNat), 0)

/-- An aligned 8-byte write: whole for keep registers, Ground and windows, else two 4-byte writes (R127). -/
def State.wdnWrite64 (s : State) (p : Party) (off : Nat) (v : W64) : State × Nat :=
  if (0x400 ≤ off ∧ off < 0x480) ∨ (0x200000 ≤ off ∧ off < 0x210000) then
    (s.modWdn (·.wrKeep p off v), 0)
  else if 0x800 ≤ off ∧ off < 0x900 ∧ off % 16 = 0 then
    (s.modWdn (·.wrHwin p ((off - 0x800) / 16) v), 0)
  else
    match s.wdnWrite p off (half v false) with
    | (s, a) =>
      match s.wdnWrite p (off + 4) (half v true) with
      | (s, b) => (s, max a b)

/-! ### Host accesses (R503, R504, R685, R120) -/

/-- n words read from Warden space: the state, whether one had an error status, and the words. -/
def State.wdnReads (s : State) (p : Party) (off : Nat) : Nat → State × Bool × List W32
  | 0 => (s, false, [])
  | n + 1 =>
    match s.wdnRead p off with
    | (s, st, v) =>
      match s.wdnReads p (off + 4) n with
      | (s, e, ws) => (s, e || st != 0, v :: ws)

/-- Words written to Warden space, in aligned 8-byte pairs where they come in pairs. -/
def State.wdnWrites (s : State) (p : Party) (off : Nat) : List W32 → State
  | a :: b :: rest =>
    if off % 8 = 0 then
      (s.wdnWrite64 p off (BitVec.ofNat 64 (a.toNat + b.toNat * 2 ^ 32))).1.wdnWrites p (off + 8) rest
    else (s.wdnWrite p off a).1.wdnWrites p (off + 4) (b :: rest)
  | [a] => (s.wdnWrite p off a).1
  | [] => s

/-- The bytes of a word that a read of n < 4 bytes at `off` returns. -/
def subWord (v : W32) (off n : Nat) : W32 :=
  if n < 4 then BitVec.ofNat 32 (v.toNat / 2 ^ (8 * (off % 4)) % 2 ^ (8 * n)) else v

/-- A read of Warden space by the host: its completion (R575), with the ERR bit for a window (R504). -/
def State.hostRead (s : State) (p : Party) (a : BusAccess) : State :=
  match s.wdnReads p (a.off / 4 * 4) (max 1 (a.size / 4)) with
  | (s, true, _) =>
    s.modWdn (fun w => if p == .hostWin then w.windowError 1 else w.complete .abort)
  | (s, false, ws) =>
    let ws := ws.map (fun v => subWord v a.off a.size)
    { s.modWdn (·.complete (.data ws)) with rdata := rdataOf ws }

/-- A write of Warden space by the host. -/
def State.hostWrite (s : State) (p : Party) (a : BusAccess) : State :=
  if a.size < 4 then s.wdnBytes p a.off (natLe a.size ((a.data.getD 0 0#32).toNat / 2 ^ (8 * (a.off % 4))))
  else s.wdnWrites p a.off (a.data.take (a.size / 4))

/-- The endpoint takes a request to Warden space: between the start of ZERO and the end of stage 2 it completes every request,
write or read, with Completer Abort (R120); while its own reset is asserted it takes none. DEDUCED (log entry 19). -/
def State.endpoint (s : State) (go : State → State) : State :=
  if s.wdn.zeroWin then s.modWdn (·.complete .abort)
  else if !s.wdn.periphUp then s
  else go s

/-- An access to Warden space by a named party: host software comes through the endpoint. -/
def State.wdnBy (s : State) (p : Party) (go : State → State) : State := if hostParty p then s.endpoint go else go s

/-- BAR0_ACCESS (R503). DEDUCED (log entry 19). -/
def State.bar0 (s : State) (a : BusAccess) : State :=
  s.endpoint (fun s => if a.wr then s.hostWrite .hostPcie a else s.hostRead .hostPcie a)

/-! ### Packets that the Warden has a field controller inject (R504, R509, Table 12.3) -/

/-- The field controller that injects for a GA, and its router: of the destination field, or field 0 (R509). -/
def meshField (topo : W32) (g : Ga) : Nat := if isOwn topo g.plate then fieldAt g.y g.x else 0

/-- The packets of one access (Table 12.3, R504); none for a form that the table does not give. A write TLP to space 0x0 is
one WR_MEM, which only needs a whole word's alignment. -/
def accessPackets (h : Hdr) (r : Nat) (g : Ga) (wr : Bool) (kind : AccKind) (size : Nat) (data : List W32) :
    Option (List Packet) :=
  let d0 := data.getD 0 0#32
  let read (i : Nat) : Packet := shortReq h r { g with off := g.off / 4 * 4 + 4 * i } (opRd g.space)
  let align := if g.space = 0 ∧ kind = .plain ∧ wr ∧ 4 ≤ size then 4 else min size 8
  if g.off % align ≠ 0 ∨ size = 0 then none
  else
    match kind with
    | .fe =>
      if size ≠ 4 ∨ g.space ≠ 0 then none
      else some [if wr then longReq h r g opFeSt 0 [d0] else shortReq h r g opFeLd]
    | .queue =>
      if !wr || !(size == 4 || size == 8) || decide (16 ≤ g.off) || g.space != 0 then none
      else
        let pk := longReq h r g opQmsg 2 (data.take (size / 4))
        some [{ pk with h := { pk.h with off := g.off / 4 } }]
    | .plain =>
      if g.space = 0 then
        if wr then
          (match size with
           | 1 => some [longReq h r g opWrB 0 [d0]]
           | 2 => some [longReq h r g opWrH 0 [d0]]
           | n => if n % 4 = 0 ∧ n ≤ 128 ∧ data.length = n / 4 then some [longReq h r g (opWr 0) 0 data] else none)
        else
          (match size with
           | 1 | 2 | 4 => some [read 0]
           | 8 => some [read 0, read 1]
           | _ => none)
      else if size ≠ 4 then none
      else some [if wr then longReq h r g (opWr g.space) 0 [d0] else read 0]

/-- Free tags of field f's injections. -/
def Warden.freeReqs (w : Warden) (f : Nat) : List Nat := idxs 64 (fun t => !shas w.req (64 * f + t))

/-- Put packets into field f's Stylus queue, each with a tag and a note of what waits for its answer. -/
def State.meshQueue (s : State) (f : Nat) (win : Option Nat) (rd : Bool) (n : Nat) : Nat → List Packet → List Nat → State
  | i, p :: ps, t :: ts =>
    let s := s.modWdn (fun w => { w with req := sput w.req (64 * f + t) ⟨win, rd, i, n⟩ })
    let s := s.modFld f (fun c =>
      { c with down := c.down ++ [.mesh { p with h := { p.h with tag := t }, back := .ctl }] })
    s.meshQueue f win rd n (i + 1) ps ts
  | _, _, _ => s

/-- What becomes of an access that the Warden relays. -/
inductive Relay where
  /-- no room on the link, or no tag: the access waits -/
  | wait
  /-- refused before a packet leaves, with a status -/
  | refused (st : Nat)
  | sent (s : State)

/-- Relay an access with key `key` through a field controller (R504, R509, R510, R512, R58). -/
def State.relayOut (s : State) (win : Option Nat) (key : Nat) (ga : W64) (q : BusAccess) (kind : AccKind) : Relay :=
  let topo := (s.rim 0).topo
  let g := gaOf ga
  let f := meshField topo g
  let r := originOf f
  let h : Hdr := { sx := colOf r, sy := rowOf r, splate := ownPlate topo, srckind := true, pkey := key }
  if g.bad (if kind = .queue then 4 else q.size) then .refused 7
  else
    match accessPackets h r g q.wr kind q.size q.data with
    | none => .refused 7
    | some ps =>
      let tags := s.wdn.freeReqs f
      if bit s.wdn.dead f then .refused 6
      else if (s.fld f).rst || decide (6 < styPlain (s.fld f).down + ps.length)
          || decide (tags.length < ps.length) then .wait
      else .sent (s.meshQueue f win (!q.wr) ps.length 0 ps tags)

/-- HOST_WINDOW_ACCESS (R504, R685, R57): window n is relayed with its GA and key; SPACE 6 and 7 are the full/empty and queue accesses of
R481 on space 0, and a window without a key relays nothing. DEDUCED (log entry 19). -/
def State.hostWindow (s : State) (n : Nat) (a : BusAccess) : State :=
  let w := s.wdn
  let ga := (sget 0#64 w.hwin n) ||| BitVec.ofNat 64 (a.off % 2 ^ 24)
  let g := gaOf ga
  let own := isOwn (s.rim 0).topo g.plate
  if g.space = 5 ∧ own then
    s.endpoint (fun s =>
      if g.bad a.size then (if a.wr then s else s.modWdn (·.windowError 1))
      else if a.wr then s.hostWrite .hostWin { a with off := g.off }
      else s.hostRead .hostWin { a with off := g.off })
  else if !w.periphUp then s
  else if g.space = 4 ∧ own ∧ !g.bad a.size ∧ a.size = 4 ∧ g.off % 4 = 0 then
    (if a.wr then s.rimWrite g.x .hostWin g.off (a.data.getD 0 0#32)
     else
       match s.rimRead g.x .hostWin g.off with
       | (s, v) => { s.modWdn (·.complete (.data [v])) with rdata := rdataOf [v] })
  else if !a.wr && shas w.hostRd n then s
  else
    let key := bits (sget 0#32 w.hwkey n) 11 0
    let other : Bool := g.space == 6 || g.space == 7
    let real := if other then setBits ga 63 60 0 else ga
    let kind : AccKind := if g.space = 6 then .fe else if g.space = 7 then .queue else .plain
    match (if key = 0 then Relay.refused 7 else s.relayOut (some n) key real a kind) with
    | .wait => s
    | .refused _ => if a.wr then s else s.modWdn (·.windowError 1)
    | .sent s =>
      if a.wr then s
      else s.modWdn (fun w => { w with hostRd := sput w.hostRd n { words := if a.size = 8 then 2 else 1 } })

/-- HOST_WINDOW_TIMEOUT (R504). DESIGN CHOICE (log entry 17). DEDUCED (log entry 19). -/
def State.windowTimeout (s : State) (n : Nat) : State :=
  if shas s.wdn.hostRd n then s.modWdn (fun w => (w.dropReads n).windowError 0) else s

/-! ### Stylus (12.8) -/

/-- MESH with nothing at hand: the command that stands next on field f's link has its packet injected at the origin router. -/
def State.meshInject (s : State) (f : Nat) : State :=
  let c := s.fld f
  if c.rst || bit s.wdn.dead f then s
  else
    match styNext c.down false with
    | some (.mesh q) =>
      if s.canInject (originOf f) .ctl q.h.ch then
        (s.modFld f (fun c => { c with down := styPop false c.down })).inject (originOf f) .ctl q
      else s
    | _ => s

/-- MESH: Warden firmware's own access through a field controller (R509), with key 0x000. DESIGN CHOICE (log entry 21). -/
def State.fwAccess (s : State) (f : Nat) (q : FwReq) : State :=
  if !s.wdn.fwRuns || meshField (s.rim 0).topo (gaOf q.ga) != f then s
  else
    match s.relayOut none 0 q.ga { wr := q.wr, off := 0, size := q.size, data := q.data } q.kind with
    | .wait => s
    | .refused st => s.modWdn (fun w => { w with fwAns := w.fwAns ++ [(st, 0#32)] })
    | .sent s => s

/-- MESH (R504, R509). DESIGN CHOICE (log entry 21). -/
def State.meshCmd (s : State) (f : Nat) (q : Option FwReq) : State :=
  match q with
  | none => s.meshInject f
  | some q => s.fwAccess f q

/-- ANSWER (R510): the C1 packet at the origin router goes up the link. DESIGN CHOICE (log entry 21). -/
def State.takeAnswer (s : State) (f : Nat) : State :=
  if (s.fld f).rst || bit s.wdn.dead f then s
  else
    match s.front (originOf f) .ctl 1 with
    | none => s
    | some q => (s.popFront (originOf f) .ctl 1).meshAnswer f q.h.tag q.h.status q.h.payload

/-- The opcodes of spaces 0x4 and 0x5. -/
def relayOp (op : Nat) : Bool := op == 0x05 || op == 0x06 || op == 0x0C || op == 0x0D

/-- A relayed request waits at field f's origin router, with its link up, an entry of the link's queue free for the answer, and
room for the answer at the router (R349, R484, R510, R85). -/
def State.styWaits (s : State) (f : Nat) : Bool :=
  !(s.fld f).rst && bit s.wdn.styUp f && decide (styPlain (s.fld f).down < 6) && s.canInject (originOf f) .ctl 1
    && (s.front (originOf f) .ctl 0).any (fun q => relayOp q.h.op)

/-- It is field f's turn: the Warden serves the 64 links round-robin (R511). -/
def State.styTurn (s : State) (f : Nat) : Bool :=
  s.styWaits f && (List.range 64).all (fun g => !s.styWaits g || decide (rrDist 64 s.wdn.rrSty f ≤ rrDist 64 s.wdn.rrSty g))

/-- A relayed request at field f's origin router (R349, R484, R511): served when the link's turn has come. -/
def State.relayed (s : State) (f op : Nat) (go : Packet → State → State × Nat × W32) : State :=
  if !s.styTurn f then s
  else
    s.take (originOf f) .ctl 0 op (fun q s =>
      match go q (s.modWdn (fun w => { w with rrSty := f })) with
      | (s, st, v) => s.reply (originOf f) .ctl true q st v)

/-- RD_WDN (R501). -/
def State.takeRdWdn (s : State) (f : Nat) : State :=
  s.relayed f 0x06 (fun q s => s.wdnRead (srcParty (s.fld f).topo q.h) (4 * bits q.h.payload 26 0))

/-- WR_WDN (R501, R513). -/
def State.takeWrWdn (s : State) (f : Nat) : State :=
  s.relayed f 0x0D (fun q s =>
    match s.wdnWrite (srcParty (s.fld f).topo q.h) q.h.off (q.word 0) with
    | (s, st) => (s, st, 0#32))

/-- RD_RIM (R469): bits [28:27] name the die. -/
def State.takeRdRim (s : State) (f : Nat) : State :=
  s.relayed f 0x05 (fun q s =>
    match s.rimRead (bits q.h.payload 28 27) (srcParty (s.fld f).topo q.h) (4 * bits q.h.payload 26 0) with
    | (s, v) => (s, 0, v))

/-- WR_RIM (R469): SEL names the die. -/
def State.takeWrRim (s : State) (f : Nat) : State :=
  s.relayed f 0x0C (fun q s => (s.rimWrite q.h.sel (srcParty (s.fld f).topo q.h) q.h.off (q.word 0), 0, 0#32))

/-- RELAY (R511): whichever request of spaces 0x4 and 0x5 stands first. -/
def State.relayAny (s : State) (f : Nat) : State :=
  match s.front (originOf f) .ctl 0 with
  | none => s
  | some q =>
    if q.h.op = 0x05 then s.takeRdRim f
    else if q.h.op = 0x06 then s.takeRdWdn f
    else if q.h.op = 0x0C then s.takeWrRim f
    else if q.h.op = 0x0D then s.takeWrWdn f
    else s

/-- REG (R510): Warden firmware reads or writes field controller space, once the commands before it on the link are delivered. -/
def State.regCmd (s : State) (f : Nat) (a : BusAccess) : State :=
  if (s.fld f).rst || bit s.wdn.dead f || styPlain (s.fld f).down != 0 then s
  else if a.wr then s.fldWrite s.sku f .wardenFw a.off (a.data.getD 0 0#32)
  else
    match (s.fld f).read a.off with
    | (c, v) => { s.setFld f c with rdata := rdataOf [v] }

/-- EVENT (R584). DESIGN CHOICE (log entry 36). -/
def State.takeEvent (s : State) (f : Nat) : State :=
  if bit s.wdn.dead f then s
  else
    match (s.fld f).up with
    | .event _ :: rest =>
      (s.modFld f (fun c => { c with up := rest })).modWdn (·.fieldEvent f)
    | _ => s

/-! ### Management cores (R500, R502, R558, R628) -/

/-- LOCKSTEP_MISMATCH (R500). -/
def State.lockstep (s : State) : State :=
  if s.wdn.coresUp && !s.wdn.lstep then s.modWdn (fun w => ({ w with lstep := true }.pushIbi 0x03 0).sendMsix 1) else s

/-- The image that the boot ROM loads, from the source that WDN_BOOT.SRC named at the release of the cores (R502, R628): none while
it waits. DESIGN CHOICE (log entry 27). -/
def Warden.bootImage (w : Warden) : Option Bytes :=
  if w.bootFrom then
    if bit w.hdb 0 then
      some (mread w.sram 0x400000 (256 + min (leNat (mread w.sram 0x400008 4)) 0xFFF00))
    else none
  else w.bootSel.map (fun n => sget [] w.imgs (8 * n))

/-- BOOT_ROM_START (R502, R555, R558): the island verifies the image as TYPE 0, and it is loaded into Warden SRAM.
DESIGN CHOICE (log entry 27). -/
def State.bootRom (s : State) : State :=
  let w := s.wdn
  if !w.coresUp || w.booted || w.lstep then s
  else
    match w.bootImage with
    | none => s
    | some img =>
      match s.island.st with
      | .operational =>
        if s.island.busy.isSome then s
        else
          (match { s.island with chal := none }.verify 0 img with
           | (r, i) =>
             let s := { s with island := i }
             if r = resOk then
               (s.setPrs mgmtUnit (mgmtStart img)).modWdn (fun w => { w with booted := true, ready := true }.pushIbi 0x06 0)
             else s.modWdn (·.pushIbi 0x05 0))
      | .softErr | .hardErr => s.modWdn (·.pushIbi 0x05 0)
      | _ => s

/-- BOOTSEL_TIMEOUT (R628). DESIGN CHOICE (log entry 27). -/
def State.bootselTimeout (s : State) : State :=
  if s.wdn.coresUp && s.wdn.bootSel.isNone then s.modWdn (fun w => { w with bootSel := some 0 }) else s

/-! ### I3C (16.3) -/

/-- The target has its dynamic address from Krovas's ENTDAA by its first transfer (R505). DESIGN CHOICE (log entry 79): the spec gives
neither the value nor the moment. -/
def Warden.addressed (w : Warden) : Warden := { w with dynAddr := w.dynAddr.orElse (fun _ => some Config.entdaa) }
/-- A read's bytes go to Krovas. -/
def State.i3cRead (s : State) (b : Bytes) : State := s.modWdn (fun w => { w.addressed with i3c := b, nack := false })
/-- A write is taken, or NACKed. -/
def State.i3cNack (s : State) : State := s.modWdn (fun w => { w with nack := true })
/-- Warden firmware serves a transfer, which is NACKed while it does not run (R626). -/
def State.i3cFw (s : State) (go : State → State) : State :=
  if s.wdn.fwRuns then go (s.modWdn (fun w => { w.addressed with nack := false })) else s.i3cNack

/-- Warden hardware answers on I3C (R626): after stage 2, while its clock runs. -/
def Warden.answers (w : Warden) : Bool := w.periphUp && w.refOk

/-- GET_STATE (Table 16.5c). -/
def State.getState (s : State) : State :=
  let w := s.wdn
  let t := s.topoNow
  if !w.answers then s.i3cNack
  else s.i3cRead (natLe 4 s.wdnId.toNat ++ natLe 1 (s.stageNow + 8 * b2n w.waitGo)
    ++ natLe 1 (s.island.st.code + 16 * b2n s.island.dbg) ++ natLe 1 (b2n w.ready + 2 * b2n (bit t 31) + 4 * b2n w.lstep)
    ++ natLe 1 0 ++ natLe 2 (bits t 9 0) ++ natLe 2 0 ++ natLe 4 w.hb)

/-- MGMT_RD: the next relayed frame, or LEN 0. -/
def State.mgmtRd (s : State) : State :=
  s.i3cFw (fun s =>
    match s.wdn.mgmtIn with
    | [] => s.i3cRead [0#8, 0#8]
    | (_, b) :: rest => (s.i3cRead (natLe 2 b.length ++ b)).modWdn (fun w => { w with mgmtIn := rest }))

/-- A management packet of the Warden (R507) leaves by the die of R438, under that die's key map (R454).
DESIGN CHOICE (log entry 28). -/
def State.mgmtSend (s : State) (plate : Nat) (ws : List W32) : State :=
  let t := s.topoNow
  let d := chooseDie t plate
  let q : Packet := { h := { dx := 0, dy := 0, dplate := plate, long := true, sx := 0, sy := 0, splate := ownPlate t,
                             srckind := true, pkey := 0, op := opMgmt, ch := 3, len := ws.length - 1 }, ws := ws }
  if isOwn t plate then s
  else if !(s.rim d).keyOk 0 then s.modRim d (·.countKey)
  else s.rimDispatch d 0 { p := q }

/-- The packets of a frame (R507): the first holds up to 32 of its words, and each later one up to 31 behind a word 0 of its own;
word 0 has the frame's TYPE and the length in bytes of what its packet carries. DESIGN CHOICE (log entry 28). -/
def mgmtChunks (ty : Nat) : Nat → List W32 → List (List W32)
  | 0, _ => []
  | n + 1, ws =>
    if ws.isEmpty then []
    else (BitVec.ofNat 32 (ty + 65536 * (4 * (ws.take 31).length + 4)) :: ws.take 31) :: mgmtChunks ty n (ws.drop 31)

/-- A frame of `n` bytes as packets: one that fits a packet goes as it is. -/
def mgmtPackets (n : Nat) (ws : List W32) : List (List W32) :=
  if n ≤ 128 then [ws] else mgmtChunks (bits (ws.getD 0 0#32) 15 0) 9 (ws.drop 1)

/-- MGMT_WR: a frame for Plate `dest`, or for FM_PLATE when it answers no frame. DESIGN CHOICE (log entry 28). -/
def State.mgmtWr (s : State) (b : Bytes) (dest : Option Nat) : State :=
  s.i3cFw (fun s =>
    let n := leNat (b.take 2)
    if b.length ≠ 2 + n ∨ 1024 < n then s.i3cNack
    else
      match dest.orElse (fun _ => s.wdn.topoRec.map (·.2)) with
      | none => s
      | some fm => (mgmtPackets n (toWords ((n + 3) / 4) (b.drop 2))).foldl (fun s ws => s.mgmtSend fm ws) s)

/-- TOPO (R624, R625): firmware keeps the record and, while IDV is 0, writes RIMx_TOPO on the four dies.
DESIGN CHOICE (log entry 28). -/
def State.i3cTopo (s : State) (b : Bytes) : State :=
  s.i3cFw (fun s =>
    if b.length ≠ 8 then s.i3cNack
    else
      let t : W32 := BitVec.ofNat 32 (leNat (b.take 4))
      let s := s.modWdn (fun w => { w with topoRec := some (t, leNat ((b.drop 4).take 2) % 1024) })
      [0, 1, 2, 3].foldl (fun s d => if bit (s.rim d).topo 31 then s else s.wrTopo d .wardenFw t) s)

/-- Bytes written into an image at an offset; what lies between is erased flash. PRESUMED (log entry 67). -/
def imgPut (old : Bytes) (off : Nat) (b : Bytes) : Bytes :=
  (old ++ List.replicate (off - old.length) Config.flashErased).take off ++ b ++ old.drop (off + b.length)

/-- STAGE_WR. -/
def State.stageWr (s : State) (b : Bytes) : State :=
  s.i3cFw (fun s =>
    let ty := leNat (b.take 1)
    let slot := leNat ((b.drop 1).take 1)
    let n := leNat ((b.drop 6).take 2)
    if b.length ≠ 8 + n ∨ 256 < n ∨ 4 < ty ∨ 1 < slot then s.i3cNack
    else
      s.modWdn (fun w =>
        { w with imgs := sput w.imgs (8 * slot + ty) (imgPut (sget [] w.imgs (8 * slot + ty)) (leNat ((b.drop 2).take 4)) (b.drop 8)),
                 chk := (0, 0xFF) }))

/-- The checks of STAGE_CHK, in order: the manifest, then each Warden-side image; the first failure ends them. -/
def stageCheck (imgs : Sparse Bytes) (slot : Nat) : List Nat → Island → Island × Nat × Nat
  | [], i => (i, 0, 0xFF)
  | ty :: l, i =>
    match i.verify ty (sget [] imgs (8 * slot + ty)) with
    | (r, i) => if r = resOk then stageCheck imgs slot l i else (i, r, ty)

/-- STAGE_CHK (R639): firmware runs the island's VERIFY on the slot. DESIGN CHOICE (log entry 28). -/
def State.stageChk (s : State) (b : Bytes) : State :=
  s.i3cFw (fun s =>
    let slot := leNat b
    if b.length ≠ 1 ∨ 1 < slot then s.i3cNack
    else
      let r : Island × Nat × Nat :=
        if s.island.st = .operational then stageCheck s.wdn.imgs slot [3, 0, 1, 2, 4] { s.island with chal := none }
        else ({ s.island with chal := none }, resState, 3)
      State.i3cRead { s with island := r.1, wdn := { s.wdn with chk := r.2 } }
        (natLe 2 r.2.1 ++ natLe 1 r.2.2 ++ natLe 1 1))

/-- TELEM_RD (Table 16.5c). -/
def State.telemRd (s : State) : State :=
  s.i3cFw (fun s =>
    let w := s.wdn
    s.i3cRead (natLe 4 w.pkgW ++ natLe 4 w.pwrStat.toNat ++ natLe 8 w.dead.toNat ++ natLe 8 w.unav.toNat
      ++ natLe 8 w.evtPend.toNat ++ natLe 4 w.evtRim.toNat
      ++ [0, 1, 2, 3].flatMap (fun d => natLe 2 (portupWord (s.rim d)).toNat)
      ++ [0, 1, 2, 3].flatMap (fun d => natLe 4 (s.rim d).stat.toNat)
      ++ (List.range 64).flatMap (fun f => natLe 2 (sget 0 w.fldW f))))

/-- SET_BOOTSEL (R628). -/
def State.setBootsel (s : State) (b : Bytes) : State :=
  if !s.wdn.answers || b.length != 1 then s.i3cNack
  else s.modWdn (fun w => { w with bootSel := some (leNat b % 2), nack := false })

/-- MGMT (R507, R622): a packet that a Rim die passed to the Warden; its frame has the length that word 0 gives. -/
def State.takeMgmt (s : State) (d : Nat) : State :=
  if !s.wdn.fwRuns then s
  else
    match (s.rim d).mgmt with
    | [] => s
    | q :: rest =>
      let s := s.modRim d (fun x => { x with mgmt := rest })
      let ty := bits (q.word 0) 15 0
      if q.h.long ∧ 0x100 ≤ ty ∧ ty ≤ 0x1FF then
        let n := bits (q.word 0) 31 16
        s.modWdn (fun w => { w with mgmtIn := w.mgmtIn ++ [(q.h.splate, (ofWords q.ws).take n)] }.pushIbi 0x01 0)
      else s.modWdn (fun w => { w with fwFrames := w.fwFrames ++ [q] })

end Sys2Proof.Machine
end

