-- ==== Sys2Proof/Machine/Epoch.lean ====
section
/-! DEFINITION. Epochs, column map commits and the retirement log (15.3, 2.4). -/

namespace Sys2Proof.Machine

/-- EPOCH_BEGIN (R591, Table 15.5 steps 1 and 2): the next root in order; the commit goes to every live field and to the
Rim dies that are not held in reset. DEDUCED (log entry 29). -/
def State.epochBegin (s : State) : State :=
  match s.wdn.ep, s.epochQ with
  | none, e :: rest =>
    let fs := idxs 64 (fun f => !bit s.wdn.dead f)
    let ds := idxs 4 (fun d => !(s.rim d).rst)
    { s with epochQ := rest, wdn := { s.wdn with ep := some e, epF := fs, epM := [], epD := ds } }
  | _, _ => s

/-- A field's seal at a commit (R590, R593). -/
def Field.commitSeal (c : Field) : Field :=
  if c.sealSh = c.sealAct then c else { c with sealAct := c.sealSh, sealdone := true }

/-- The commit reaches field f (Table 15.4, R591, R593): the seal, ECNT, and the column map where its shadow differs,
whose commit then runs. DEDUCED (log entry 29). -/
def State.epochField (s : State) (f : Nat) : State :=
  let w := s.wdn
  if !w.epF.contains f || (s.fld f).rst then s
  else
    let map := (s.fld f).colmapSh != (s.fld f).colmap
    let s := s.modFld f (fun c => { c.commitSeal with ecnt := (c.ecnt + 1) % 65536 })
    s.setWdn { w with epF := w.epF.filter (· != f), epM := if map then w.epM ++ [f] else w.epM }

/-- Buckets whose port the commit has changed on a die, with the port that each has left (R448). -/
def Rim.movedBkts (x y : Rim) : List (Nat × Nat) :=
  (idxs 64 (fun b => y.bktPort b != x.bktPort b)).map (fun b => (b, x.bktPort b))

/-- Buckets of a die that name a port that is not UP move under R443, in ascending order. -/
def Rim.offDown (x : Rim) : Nat → Rim
  | 0 => x
  | k + 1 =>
    let n := 15 - k
    if x.upPorts.isEmpty || x.upPorts.contains n then x.offDown k
    else
      let ups := x.upPorts
      let order := ups.filter (fun m => n < m) ++ ups.filter (fun m => m ≤ n)
      let bs := idxs 64 (fun b => x.bktPort b == n)
      ((List.range bs.length).foldl (fun x i => x.setBkt (bs.getD i 0) (order.getD (i % order.length) 0)) x).offDown k

/-- The packets of moved buckets that wait unframed on a port that is not UP leave its queue, in order. -/
def Rim.requeue (x : Rim) (mv : List (Nat × Nat)) : Rim :=
  let goes (n : Nat) (o : OutPkt) : Bool := !(x.port n).up && mv.contains (bucketOf o.p.h, n)
  let l := idxs 16 (fun n => (x.port n).fabric)
  let out := l.flatMap (fun n => (x.port n).q.filter (goes n))
  if out.isEmpty then x
  else
    { l.foldl (fun y n => y.modPort n (fun p => { p with q := p.q.filter (fun o => !goes n o) })) x with held := out ++ x.held }

/-- The commit of a die's bucket table (R448): a bucket that names a port that is not UP moves under R443, and one that has
moved waits for its earlier frames. -/
def Rim.commitBkt (x : Rim) : Rim :=
  if x.bktSh = x.bkt then x
  else
    let y := { x with bkt := x.bktSh }.offDown 16
    let mv := x.movedBkts y
    let y := y.requeue mv
    { y with moved := x.moved ++ mv.filter (fun m => y.stillMoving m && !x.moved.contains m) }

/-- The commit reaches Rim die d (Table 15.4, R448); a failover that runs or waits ends first (11.14). -/
def State.epochDie (s : State) (d : Nat) : State :=
  let w := s.wdn
  let x := s.rim d
  if !w.epD.contains d || x.rst || (x.bktSh != x.bkt && !x.fo.isEmpty) then s
  else
    let y := { x with keymap := x.keymapSh }.commitBkt
    let s := (s.setRim d y).setWdn { w with epD := w.epD.filter (· != d) }
    if x.bktSh = x.bkt then s else s.rimRelease d

/-- EPOCH_COMMIT (R590). DEDUCED (log entry 29). -/
def State.epochCommit (s : State) : CommitTgt → State
  | .field f => s.epochField f.val
  | .die d => s.epochDie d.val

/-! ### The column map (R53, R592 to R594) -/

/-- The column that retires and the spare that enters use, where a shadow map satisfies R53. -/
def retireOf (act sh : List W32) : Option (Nat × Nat) :=
  match idxs 100 (fun p => colCode act p != colCode sh p) with
  | [a, b] =>
    let gone (p : Nat) := colCode act p == 0 && colCode sh p == 2
    let comes (p : Nat) := colCode act p == 1 && colCode sh p == 0
    if gone a && comes b then some (a, b) else if gone b && comes a then some (b, a) else none
  | _ => none

/-- R594: the virtual columns of a field whose physical column changes are reset, and so is the spare `sp` that enters use: its
tiles take no release that was sent before. DEDUCED (log entry 30). -/
def State.retireReset (s : State) (f sp : Nat) (act sh : List W32) : State :=
  let vs := (List.range 96).filter (fun v => physCol act v != physCol sh v)
  let tiles := vs.flatMap (fun v => (List.range 96).map (fun y => routerOf (96 * (f / 8) + y) (96 * (f % 8) + v)))
  let s := tiles.foldl (fun s r => s.tileResetNow r) s
  let seen := (s.fld f).relLog.length
  (List.range 96).foldl (fun s y =>
    { s with tiles := sput s.tiles (physIdx f y sp) ((sget {} s.tiles (physIdx f y sp)).tileReset seen) }) s

/-- The commit of field f's column map is refused (R593). -/
def Field.colRefuse (c : Field) (why : Nat) : Field := Field.raise { c with colref := why, colmapSh := c.colmap } 8

/-- COLMAP_COMMIT (R592 to R594): decided now; a shadow written equal again is not committed (R590); the crossings reopen in either
case. DEDUCED (log entry 29). -/
def State.colmapCommit (s : State) (f : Nat) : State :=
  let c := s.fld f
  if !s.wdn.epM.contains f || c.rst then s
  else
    let s' : State :=
      if c.colmapSh == c.colmap then s
      else if !s.drained f then s.setFld f (c.colRefuse 2)
      else
        match retireOf c.colmap c.colmapSh with
        | none => s.setFld f (c.colRefuse 1)
        | some (_, sp) =>
          let s := s.retireReset f sp c.colmap c.colmapSh
          let s := s.modFld f (fun c => { c with colmap := c.colmapSh, coldone := true, colref := 0 })
          s.modWdn (fun w => { w with colSt := sput w.colSt f c.colmapSh })
    s'.modWdn (fun w => { w with epM := w.epM.filter (· != f) })

/-- EPOCH_COMPLETE (Table 15.5 steps 4 and 5): every acknowledgement is in; the root sends its release, unless its field
has been reset since (15.9). -/
def State.epochComplete (s : State) : State :=
  let w := s.wdn
  match w.ep with
  | none => s
  | some e =>
    if !(w.epF.isEmpty && w.epM.isEmpty && w.epD.isEmpty) then s
    else
      let s := s.setWdn { w with ep := none, epCount := (w.epCount + 1) % 65536 }
      if e.lost || (s.fld e.f).rst then s else s.epochRelease e.f e.id e.cut e.lastf

/-! ### The retirement log (R47) -/

/-- The first empty slot of field f's region, from slot n on. -/
def Warden.emptySlot (w : Warden) (f : Nat) : Nat → Nat → Option Nat
  | 0, _ => none
  | k + 1, n => if w.slot f n = .erased then some n else w.emptySlot f k (n + 1)

/-- Warden firmware writes a record into both copies, unless the region holds one with the same p and s.
DEDUCED (log entry 30). -/
def Warden.logRetire (w : Warden) (f p sp : Nat) : Warden :=
  let same (n : Nat) : Bool := match w.slot f n with
    | .ok r => r.p == p && r.s == sp
    | _ => false
  if (List.range 4).any same then w
  else
    match w.emptySlot f 4 0 with
    | none => w
    | some n =>
      let r : LogSlot := .ok ⟨f, p, sp, n⟩
      { w with logA := sput w.logA (4 * f + n) r, logB := sput w.logB (4 * f + n) r }

/-- The write of FLD_COLMAP_SHn that completes a legal retirement comes with its log record (R47). DEDUCED (log entry 30). -/
def State.noteRetire (s : State) (f : Nat) : State :=
  let c := s.fld f
  if c.rst then s
  else
    match retireOf c.colmap c.colmapSh with
    | some (a, b) => s.modWdn (fun w => w.logRetire f a b)
    | none => s

/-- A shadow column map word. -/
def inColmapSh (off : Nat) : Bool := decide (0x420 ≤ off ∧ off < 0x43C)

/-- FLD_COLMAP_SH_WRITE (R595). DEDUCED (log entry 30). -/
def State.colmapShWrite (s : State) (p : Party) (f n : Nat) (v : W32) : State :=
  if (s.fld f).rst then s
  else
    let s := s.modFld f (fun c => c.wrColmapSh p n v)
    if p == .wardenFw then s.noteRetire f else s

/-- WR_FLD, with the log record of a shadow column map write by Warden firmware. -/
def State.wrFldCmd (s : State) (f : Nat) : State :=
  let logs : Bool := match s.front (originOf f) .ctl 0 with
    | some q => decide (q.h.op = 0x0A) && s.canInject (originOf f) .ctl 1 && srcParty (s.fld f).topo q.h == .wardenFw && inColmapSh q.h.off
    | none => false
  let s := s.takeWrFld s.sku f
  if logs then s.noteRetire f else s

/-- REG (R510), with the same. -/
def State.regTake (s : State) (f : Nat) (a : BusAccess) : State :=
  let s := s.regCmd f a
  if a.wr && inColmapSh a.off && !bit s.wdn.dead f then s.noteRetire f else s

end Sys2Proof.Machine
end

