-- ==== Sys2Proof/Machine/Krovas.lean ====
section
/-! DEFINITION. The Krovas tray controller: masters, power, safety, bypass, telemetry and firmware sets (chapter 16). -/

namespace Sys2Proof.Machine

/-- Status codes (Table 16.3). -/
abbrev stOk : Nat := 0
abbrev stPrec : Nat := 1
abbrev stSafety : Nat := 2
abbrev stConflict : Nat := 3
abbrev stBusy : Nat := 4
abbrev stHold : Nat := 5
abbrev stBadarg : Nat := 6
abbrev stNotready : Nat := 7

def State.setKrv (s : State) (k : Krovas) : State := { s with krovas := k }
def State.modKrv (s : State) (g : Krovas → Krovas) : State := { s with krovas := g s.krovas }
def Krovas.note (k : Krovas) (e : KEvent) : Krovas := { k with log := k.log ++ [e] }

/-- Ticks of the 100 MHz reference in a second. -/
abbrev ticksPerS : Nat := 100000000

/-! ### Conditions -/

/-- A condition of Table 16.5 holds (R630). -/
def Krovas.unsafe_ (k : Krovas) : Bool := k.coolant || k.pkgHot || k.leak || k.overP || k.sisErr
/-- The Plate is hung (R631). -/
def Krovas.hung (k : Krovas) : Bool := k.lockstep || k.stall || k.noReady
/-- Krovas is in TRIAL or in fallback with the package on (R646). -/
def Krovas.inTrial (k : Krovas) : Bool := (k.trial || k.fallback) && k.pwr
/-- Commands other than reads are answered BUSY: in a trial or a fallback (R646), and during an orphan action (R632), which lasts
the 10 µs that TRAY_RST_N is low. DESIGN CHOICE (log entry 33). -/
def Krovas.busy (k : Krovas) : Bool := k.inTrial || decide (k.now < k.actTill)

/-! ### Answers (R619, R621, R622) -/

/-- The Redfish status of a code of Table 16.3. DESIGN CHOICE (log entry 31): OK is 200 where the answer has a body, and else 204. -/
def redfishStatus (body : Bool) (st : Nat) : Nat :=
  [if body then 200 else 204, 403, 409, 409, 503, 503, 400, 409].getD st 400

/-- An answer to the host. -/
def Krovas.sayHost (k : Krovas) (body : Bool) (a : KAns) : Krovas :=
  { k with hostOut := k.hostOut ++ [⟨a.tag, a.status, redfishStatus body a.status⟩] }
def Krovas.ansHost (k : Krovas) (body : Bool) (a : KAns) : Krovas := { k.sayHost body a with lastHost := some a }

/-- A response frame (Table 16.5a). -/
def respFrame (cmd : Nat) (a : KAns) : Bytes :=
  natLe 4 (0x0102 + 12 * 65536) ++ natLe 4 a.tag ++ natLe 4 (cmd % 256 + a.status * 256 + a.arg0 * 65536)

/-- A response to the Plate that sent the command. -/
def Krovas.sayFm (k : Krovas) (src cmd : Nat) (a : KAns) : Krovas :=
  { k with fmOut := k.fmOut ++ [a], frameOut := k.frameOut ++ [(src, respFrame cmd a)] }
def Krovas.ansFm (k : Krovas) (src cmd : Nat) (a : KAns) : Krovas := { k.sayFm src cmd a with lastFm := some a }

/-- The answer of a BYPASS_OUT that has waited: its result is stored when its tag is the last (R619). -/
def Krovas.ansWait (k : Krovas) (e : BypWait) (st : Nat) : Krovas :=
  if k.fmTag = some e.tag then k.ansFm e.src 3 ⟨e.tag, st, 0⟩ else k.sayFm e.src 3 ⟨e.tag, st, 0⟩

/-! ### Package power and bypass (R615, R630, R635) -/

/-- A BYPASS_OUT that can no longer be carried out is answered NOTREADY. DESIGN CHOICE (log entry 31). -/
def Krovas.cancelWait (k : Krovas) (mask : Nat) : Krovas :=
  (k.wait.filter (fun e => e.mask &&& mask != 0)).foldl (fun k e => k.ansWait e stNotready)
    { k with wait := k.wait.filter (fun e => e.mask &&& mask == 0) }

/-- BYP_DRV lines go low and their through state is forgotten (R635). -/
def Krovas.bypassIn (k : Krovas) (mask : Nat) : Krovas :=
  { k with drv := k.drv &&& ~~~(BitVec.ofNat 8 mask) }.cancelWait mask

/-- A staging whose images were being written fails when Warden firmware stops, and its bank returns to EMPTY (16.9). -/
def Krovas.failStaging (k : Krovas) (n : Nat) : Krovas :=
  if (k.bank n).st = .staging then (k.setBank n {}).note .stagingRefused else k

/-- What Krovas knows of the Warden ends with a TRAY reset or a power-off. DESIGN CHOICE (log entry 33). -/
def Krovas.forget (k : Krovas) : Krovas :=
  { (k.failStaging 0).failStaging 1 with ready := false, lockstep := false, stall := false, noReady := false, hbSeen := none }

/-- PKG_PWR_EN goes low: a POR of the package, and every bypass switch to bypass (Table 16.1, R630, R635). -/
def State.pkgOff (s : State) : State :=
  State.porAssert (s.modKrv (fun k => { (k.bypassIn 15).forget with pwr := false }))

/-- A TRAY reset through TRAY_RST_N, low for 10 µs (Table 16.1). -/
def State.pkgTray (s : State) : State := ((s.trayAssert 10000).trayRelease).modKrv (·.forget)

/-- Maintenance hold (R645). -/
def State.enterHold (s : State) : State :=
  s.pkgOff.modKrv (fun k => { k with hold := true, trial := false, fallback := false }.note .hold)

/-! ### Activation, trial, fallback (16.8) -/

/-- The body of a manifest image (Table 16.7). -/
def manifestBody (m : Bytes) : Bytes := m.drop 256
/-- A little-endian field of a byte string. -/
def fieldAtB (b : Bytes) (off n : Nat) : Nat := leNat ((b.drop off).take n)

/-- The manifest lists an image of a TYPE once, with its length and hash. -/
def manifestHas (m : Bytes) (ty : Nat) (img : Bytes) : Bool :=
  let b := manifestBody m
  match (List.range 5).filter (fun k => fieldAtB b (0x10 + 64 * k) 1 == ty) with
  | [k] => fieldAtB b (0x14 + 64 * k) 4 == img.length && (b.drop (0x18 + 64 * k)).take 48 == sha img
  | _ => false

/-- The Krovas boot ROM verifies the image of a bank (R638); a bank that no staging wrote holds the firmware that Krovas was made
with. DESIGN CHOICE (log entry 32). -/
def Bank.imageOk (b : Bank) : Bool := b.krovas.isEmpty || verifyImage Config.krovasRevoked Config.krovasMinSvn b.krovas == resOk
/-- No Krovas image verifies: the ROM serves only the UpdateService and staging (R645). -/
def Krovas.romOnly (k : Krovas) : Bool :=
  !([k.bank 0, k.bank 1].any (fun b => b.st != .empty && b.st != .staging && b.imageOk))

/-- The running bank fails its trial (R643): it is rejected, and the previous set starts, whose image the ROM verifies; a fallback
that fails ends in maintenance hold (R644). DESIGN CHOICE (log entry 32). -/
def State.trialFail (s : State) (reason : Nat) : State :=
  let k := s.krovas
  if k.trial then
    let n := k.run
    let s := s.pkgOff.modKrv (fun k =>
      { (k.setBank n { k.bank n with st := .rejected, reason := reason }).note (.rejected n reason) with
        run := 1 - n, trial := false, fallback := true })
    if (s.krovas.bank (1 - n)).imageOk then s.modKrv (fun k => { k with pwr := true }) else s.enterHold
  else if k.fallback then s.enterHold
  else s

/-- Steps 2 and 3 of Table 16.9 for bank n after bank `old`: 0, or the reason of Table 16.10. DESIGN CHOICE (log entry 32). -/
def Krovas.startCheck (k : Krovas) (old n : Nat) : Nat :=
  let b := k.bank n
  if !b.imageOk then 1
  else if !manifestHas b.manifest 5 b.krovas then 2
  else if (k.bank old).copySchema < b.migMin then 3
  else 0

/-- Migration (R642): a complete new copy, closed by its commit record. DESIGN CHOICE (log entry 32). -/
def Krovas.migrate (k : Krovas) (old n : Nat) : Krovas :=
  k.setBank n { k.bank n with copy := (k.bank old).copy, copySchema := (k.bank n).schema, committed := true }

/-- The package is powered on from off: a STAGED set is activated (R641, Table 16.9). A trial resumes at step 4, and one whose
settings copy has no commit record at step 2 (R642). -/
def State.powerOn (s : State) : State :=
  let k := s.krovas
  let fresh : Bool := (k.bank (1 - k.run)).st == .staged && !k.trial && !k.fallback
  let k := if fresh then
      { k.setBank (1 - k.run) { k.bank (1 - k.run) with st := .trial } with hold := false, trial := true, run := 1 - k.run }
    else k
  if k.trial && !(k.bank k.run).committed then
    match k.startCheck (1 - k.run) k.run with
    | 0 => s.setKrv { k.migrate (1 - k.run) k.run with pwr := true }
    | r => (s.setKrv k).trialFail r
  else s.setKrv { k with pwr := true }

/-- READY is seen and HBCOUNT advances (Table 16.9, steps 6 and 7). -/
def Krovas.trialPass (k : Krovas) : Krovas :=
  if k.trial then { k.setBank k.run { k.bank k.run with st := .active } with trial := false }
  else { k with fallback := false }
/-- HBCOUNT as Krovas reads it: where it has advanced since READY, a trial or a fallback has passed, and a stall is over (R631). -/
def Krovas.readHb (k : Krovas) (hb : Nat) : Krovas :=
  if !k.ready then k
  else if k.hbSeen.any (· != hb) then { k.trialPass with hbSeen := some hb, stall := false }
  else { k with hbSeen := some hb }

/-! ### Commands of the masters (R619) -/

/-- A command of the host: a repeated tag returns the stored result; else it is carried out and answered, with a body where it
reads. With no Krovas image that verifies the ROM takes a staging alone (R645). DESIGN CHOICE (log entry 31). -/
def State.hostCmd (s : State) (tag : Nat) (body stage : Bool) (run : State → State × Nat) : State :=
  let k := s.krovas
  if !k.standby || (k.romOnly && !stage) then s
  else
    let fresh : State := match run s with
      | (s, st) => s.modKrv (·.ansHost body ⟨tag, st, 0⟩)
    match k.lastHost with
    | some a => if a.tag = tag then s.modKrv (·.ansHost body a) else fresh
    | none => fresh

/-- A command that the host owns: BUSY in a trial or an orphan action (R632, R646), HOLD in maintenance hold (R645). -/
def State.hostOwn (s : State) (run : State → State × Nat) : State × Nat :=
  if s.krovas.busy then (s, stBusy) else if s.krovas.hold then (s, stHold) else run s

/-- A frame comes from another Plate than FM_PLATE of the stored record (R623). -/
def Krovas.foreign (k : Krovas) (src : Nat) : Bool :=
  match k.settings.topo with
  | some (_, fm) => fm != src
  | none => false

/-- A command of the fabric manager from Plate `src` with code `cmd` (R619, R623): `read` tells one that trial and hold let through.
`run` answers a status and ARG0, or none while the command waits. DESIGN CHOICE (log entry 31). -/
def State.fmCmd (s : State) (src cmd tag : Nat) (read : Bool) (run : State → State × Option (Nat × Nat)) : State :=
  let k := s.krovas
  if !k.standby || k.romOnly then s
  else if k.foreign src then s.modKrv (·.sayFm src cmd ⟨tag, stPrec, 0⟩)
  else if k.wait.any (fun e => e.tag == tag) then s
  else
    let ans (s : State) (st arg : Nat) : State := s.modKrv (fun k => { k.ansFm src cmd ⟨tag, st, arg⟩ with fmTag := some tag })
    let fresh : State :=
      if !read && k.busy then ans s stBusy 0
      else if !read && k.hold then ans s stHold 0
      else
        match run s with
        | (s, some (st, arg)) => ans s st arg
        | (s, none) => s.modKrv (fun k => { k with fmTag := some tag, lastFm := none })
    match k.lastFm with
    | some a => if a.tag = tag then s.modKrv (·.ansFm src cmd a) else fresh
    | none => fresh

/-! ### Power commands (R616, R618, R621) -/

/-- The last power command of the other master that asks for the other state, within 5 s (R618).
DESIGN CHOICE (log entry 31). -/
def Krovas.conflict (k : Krovas) (m : Master2) (on : Bool) : Option PwCmd :=
  match (match m with
    | .host => k.pwFm
    | .fm => k.pwHost) with
  | some c => if c.on ≠ on ∧ k.now < c.at_ + 5 * ticksPerS then some c else none
  | none => none

/-- A master's power command replaces its earlier one (R618). -/
def Krovas.setPw (k : Krovas) (m : Master2) (on : Bool) (tag : Nat) : Krovas :=
  match m with
  | .host => { k with pwHost := some ⟨on, tag, k.now⟩ }
  | .fm => { k with pwFm := some ⟨on, tag, k.now⟩ }

/-- A host power command that asks for on: conflicts resolve to off. -/
def State.hostOnCmd (s : State) (tag : Nat) (run : State → State × Nat) : State × Nat :=
  let k := s.krovas
  match k.conflict .host true with
  | some _ => ((if k.pwr then s.pkgOff else s).modKrv (·.setPw .host true tag), stConflict)
  | none => run (s.modKrv (·.setPw .host true tag))

/-- ON, or a ResetType that ComputerSystem.Reset does not accept (R621). -/
def State.redfishOn (s : State) (tag : Nat) (ty : ResetType) : State :=
  s.hostCmd tag false false (fun s => s.hostOwn (fun s =>
    if ty = .other then (s, stBadarg)
    else if s.krovas.unsafe_ then (s, stSafety)
    else s.hostOnCmd tag (fun s => (if s.krovas.pwr then s else s.powerOn, stOk))))

/-- FORCE_OFF. -/
def State.forceOff (s : State) (tag : Nat) : State :=
  s.hostCmd tag false false (fun s => s.hostOwn (fun s =>
    let s := s.modKrv (·.setPw .host false tag)
    (if s.krovas.pwr then s.pkgOff else s, stOk)))

/-- POWER_CYCLE (R641); with a newly STAGED set it leaves maintenance hold (R645). -/
def State.powerCycle (s : State) (tag : Nat) : State :=
  s.hostCmd tag false false (fun s =>
    let k := s.krovas
    let staged := (k.bank (1 - k.run)).st == .staged
    if k.busy then (s, stBusy)
    else if k.hold && !staged then (s, stHold)
    else if k.unsafe_ then (s, stSafety)
    else s.hostOnCmd tag (fun s => ((if s.krovas.pwr then s.pkgOff else s).powerOn, stOk)))

/-- FORCE_RESTART (R621). DESIGN CHOICE (log entry 33). -/
def State.forceRestart (s : State) (tag : Nat) : State :=
  s.hostCmd tag false false (fun s => s.hostOwn (fun s =>
    if !s.krovas.pwr then (s, stNotready) else s.hostOnCmd tag (fun s => (s.pkgTray, stOk))))

/-- CONFLICT_OFF for a host command that was answered before (R618); its stored result follows when its tag is the last (R619). -/
def Krovas.overrule (k : Krovas) (c : PwCmd) : Krovas :=
  let a : KAns := ⟨c.tag, stConflict, 0⟩
  if k.lastHost.any (fun l => l.tag == c.tag) then k.ansHost false a else k.sayHost false a

/-- POWER_OFF of the fabric manager (R616, R618). -/
def State.fmPowerOff (s : State) (src tag : Nat) : State :=
  s.fmCmd src 5 tag false (fun s =>
    let k := s.krovas
    let k' := match k.conflict .fm false with
      | some c => k.overrule c
      | none => k
    let s := s.setKrv (k'.setPw .fm false tag)
    (if k.pwr then s.pkgOff else s, some (stOk, 0)))

/-! ### Reads and settings (R620, Table 16.4) -/

/-- The number of an event in the log. -/
def KEvent.code : KEvent → Nat
  | .islandState st => 0x100 + st
  | .sisErr low => 0x200 + b2n low
  | .lockstep => 0x300
  | .overCap => 0x400
  | .bootFail ty => 0x500 + ty
  | .ready => 0x600
  | .bypPos d thru => 0x700 + 2 * d + b2n thru
  | .bypFail d => 0x800 + d
  | .powerOff => 0x900
  | .orphan => 0xA00
  | .stagingRefused => 0xB00
  | .rejected bank reason => 0xC00 + 16 * bank + reason
  | .hold => 0xD00

def BankSt.code : BankSt → Nat
  | .empty => 0 | .staging => 1 | .staged => 2 | .trial => 3 | .active => 4 | .rejected => 5

/-- What GET_STATE and TELEM_RD give now. -/
def State.hwTel (s : State) : HwTel := { stage := s.stageNow, ready := s.wdn.ready, hb := s.wdn.hb }
def State.fwTel (s : State) : FwTel :=
  let w := s.wdn
  { portUp := [0, 1, 2, 3].map (fun d => portupWord (s.rim d)), rimStat := [0, 1, 2, 3].map (fun d => (s.rim d).stat),
    evtRim := w.evtRim, pkgW := w.pkgW, pwrStat := w.pwrStat, fldW := (List.range 64).map (fun f => sget 0 w.fldW f),
    dead := w.dead, unav := w.unav, evtPend := w.evtPend }

/-- A reading: live while the Warden answers, else the last one with its age (R637). -/
def reading {α : Type} (live : Bool) (cur none_ : α) (now : Nat) : Option (Nat × α) → Reading α
  | some (t, v) => if live then ⟨cur, false, 0⟩ else ⟨v, true, now - t⟩
  | none => if live then ⟨cur, false, 0⟩ else ⟨none_, true, now⟩

def State.hwReading (s : State) : Reading HwTel :=
  reading (s.krovas.pwr && s.wdn.answers) s.hwTel {} s.krovas.now s.krovas.seenHw
def State.fwReading (s : State) : Reading FwTel :=
  reading (s.krovas.pwr && s.wdn.fwRuns) s.fwTel {} s.krovas.now s.krovas.seenFw

/-- Krovas keeps what it reads of the Warden (R637). -/
def State.keepReadings (s : State) : State :=
  let k := s.krovas
  let k := { k with seenHw := if k.pwr && s.wdn.answers then some (k.now, s.hwTel) else k.seenHw,
                    seenFw := if k.pwr && s.wdn.fwRuns then some (k.now, s.fwTel) else k.seenFw }
  s.setKrv (if k.pwr && s.wdn.answers then k.readHb s.wdn.hb else k)

/-- A temperature as a word. -/
def tempWord (t : Int) : W32 := BitVec.ofInt 32 t

/-- The words of a Redfish read: DESIGN CHOICE (log entry 31) for their order. Telemetry is the items of Table 16.6, top to bottom. -/
def State.readWords (s : State) (item : ReadItem) : List W32 :=
  let k := s.krovas
  let w32 (n : Nat) : W32 := BitVec.ofNat 32 n
  match item with
  | .state =>
    [w32 (b2n k.pwr + 2 * b2n k.ready + 4 * b2n k.hung + 8 * b2n k.hold + 16 * b2n k.trial + 32 * b2n k.fallback),
     w32 ((k.bank 0).st.code + 16 * (k.bank 1).st.code), w32 (k.bank k.run).setVer]
  | .telemetry =>
    let h := s.hwReading
    let f := s.fwReading
    let pair (v : W64) : List W32 := [half v false, half v true]
    [tempWord k.inletT, tempWord k.coolantT, tempWord k.pkgT, w32 k.trayW, w32 (b2n k.alertLow),
     w32 (b2n f.stale), w32 f.age, w32 f.val.pkgW, f.val.pwrStat] ++ f.val.fldW.map w32 ++
    [w32 (k.islandSt + 256 * b2n k.sisErr), w32 (b2n h.stale), w32 h.age, w32 (h.val.stage + 256 * b2n h.val.ready), w32 h.val.hb] ++
    f.val.portUp ++ f.val.rimStat ++ [f.val.evtRim] ++ pair f.val.dead ++ pair f.val.unav ++ pair f.val.evtPend ++
    [w32 (k.drv.toNat + 256 * k.pos.toNat + 65536 * k.failed.toNat), w32 ((k.bank 0).st.code + 16 * (k.bank 1).st.code),
     w32 (k.bank k.run).setVer]
  | .log => k.log.map (fun e => w32 e.code)
  | .settings =>
    let c := k.settings
    [w32 c.orphanT, w32 c.hbT, w32 c.trialT, w32 c.trayPmax, w32 c.policy] ++
      (match c.topo with
       | some (t, fm) => [t, w32 fm]
       | none => [])

/-- REDFISH_READ: reads are served in every state of Krovas. -/
def State.redfishRead (s : State) (tag : Nat) (item : ReadItem) : State :=
  s.hostCmd tag true false (fun s => (s.keepReadings.modKrv (fun k => { k with readOut := s.readWords item }), stOk))

/-- A topology record as RIMx_TOPO takes it (R425). -/
def topoOk (v : W32) : Bool := bit v 31 && onTorus v (bits v 9 0)

/-- DESIGN CHOICE (log entry 33). -/
def Krovas.modSettings (k : Krovas) (g : Settings → Settings) : Krovas :=
  k.setBank k.run { k.bank k.run with copy := g (k.bank k.run).copy }

/-- SETTINGS_WRITE (Table 16.4). DESIGN CHOICE (log entry 33). -/
def State.settingsWrite (s : State) (tag : Nat) (which : Setting) (v : W32) : State :=
  s.hostCmd tag false false (fun s => s.hostOwn (fun s =>
    let k := s.krovas
    let n := v.toNat
    let put (ok : Bool) (g : Settings → Settings) : State × Nat :=
      if ok then (s.modKrv (·.modSettings g), stOk) else (s, stBadarg)
    match which with
    | .orphanT => put (decide (1 ≤ n ∧ n ≤ 120)) (fun c => { c with orphanT := n })
    | .hbT => put (decide (10 ≤ n ∧ n ≤ 300)) (fun c => { c with hbT := n })
    | .trialT => put (decide (1 ≤ n ∧ n ≤ 30)) (fun c => { c with trialT := n })
    | .trayPmax => put (decide (2500 ≤ n ∧ n ≤ 11 * Config.skuCap s.sku)) (fun c => { c with trayPmax := n })
    | .policy => put (decide (n ≤ 2)) (fun c => { c with policy := n })
    | .topology =>
      if k.settings.topo.isSome then (s, stPrec)
      else put (topoOk v) (fun c => { c with topo := some (v, k.fmPend) })
    | .fmPlate =>
      if k.settings.topo.isSome then (s, stPrec)
      else if n ≤ 1023 then (s.setKrv { k with fmPend := n }, stOk)
      else (s, stBadarg)))

/-! ### Staging (R638 to R640) -/

/-- The island's part of R639. With the package off in maintenance hold, its verdict is taken from its fuses alone.
DESIGN CHOICE (log entry 32). -/
def State.setVerify (s : State) (slot : Nat) : Island × Nat :=
  if s.wdn.fwRuns then
    (if s.island.st = .operational then
       (match stageCheck s.wdn.imgs slot [3, 0, 1, 2, 4] { s.island with chal := none } with
        | (i, r, _) => (i, r))
     else ({ s.island with chal := none }, resState))
  else
    match stageCheck s.wdn.imgs slot [3, 0, 1, 2, 4] s.island with
    | (_, r, _) => (s.island, r)

/-- FIRMWARE_PUSH (R639, R640): staged into the bank and slot that the running set does not use. -/
def State.firmwarePush (s : State) (tag : Nat) (fs : FwSet) : State :=
  s.hostCmd tag false true (fun s =>
    let k := s.krovas
    let n := 1 - k.run
    if k.busy then (s, stBusy)
    else if !s.wdn.fwRuns && !k.hold then (s, stNotready)
    else
      let imgs := sput (sput (sput (sput (sput s.wdn.imgs (8 * n) fs.warden) (8 * n + 1) fs.rim) (8 * n + 2) fs.press)
        (8 * n + 3) fs.manifest) (8 * n + 4) fs.island
      let s := s.modWdn (fun w => { w with imgs := imgs })
      let v := s.setVerify n
      let b := manifestBody fs.manifest
      let good := v.2 == resOk && verifyImage Config.krovasRevoked Config.krovasMinSvn fs.krovas == resOk
        && fieldAtB b 8 2 == 5 && manifestHas fs.manifest 0 fs.warden && manifestHas fs.manifest 1 fs.rim
        && manifestHas fs.manifest 2 fs.press && manifestHas fs.manifest 4 fs.island && manifestHas fs.manifest 5 fs.krovas
      let s := { s with island := v.1 }
      if good then
        (s.modKrv (fun k => k.setBank n { st := .staged, setVer := fieldAtB b 0 4, schema := fieldAtB b 4 2,
                                          migMin := fieldAtB b 6 2, krovas := fs.krovas, manifest := fs.manifest }), stOk)
      else (s.modKrv (fun k => (k.setBank n {}).note .stagingRefused), stBadarg))

/-! ### Fabric manager commands (R622 to R624, R634, R635, R637) -/

/-- HELLO. -/
def State.fmHello (s : State) (src tag : Nat) : State := s.fmCmd src 1 tag true (fun s => (s, some (stOk, 0)))

/-- BYPASS_IN (R635). -/
def State.fmBypassIn (s : State) (src tag mask : Nat) : State :=
  s.fmCmd src 2 tag false (fun s => (s.modKrv (·.bypassIn mask), some (stOk, 0)))

/-- BYPASS_OUT (R634): accepted with no condition, the package on and PLATE_RST_OUT deasserted; OK once the sense lines show
through. A condition is named first: tray safety stands above (R617). -/
def State.fmBypassOut (s : State) (src tag mask : Nat) : State :=
  s.fmCmd src 3 tag false (fun s =>
    let k := s.krovas
    if k.unsafe_ then (s, some (stSafety, 0))
    else if !k.pwr || s.wdn.rstOut then (s, some (stNotready, 0))
    else
      let k := { k with drv := k.drv ||| BitVec.ofNat 8 mask }
      if k.pos.toNat &&& mask = mask then (s.setKrv k, some (stOk, 0))
      else (s.setKrv { k with wait := k.wait ++ [⟨tag, mask, src⟩] }, none))

/-- The TOPO payload (Table 16.5c). -/
def topoBytes (t : W32) (fm : Nat) : Bytes := natLe 4 t.toNat ++ natLe 2 fm ++ natLe 2 0

/-- SET_TOPO (R624). -/
def State.fmSetTopo (s : State) (src tag : Nat) (t : W32) (fm : Nat) : State :=
  s.fmCmd src 4 tag false (fun s =>
    if !topoOk t then (s, some (stBadarg, 0))
    else
      let s := s.modKrv (·.modSettings (fun c => { c with topo := some (t, fm) }))
      if bit s.topoNow 31 then (s, some (stOk, 1))
      else (if s.krovas.pwr then s.i3cTopo (topoBytes t fm) else s, some (stOk, 0)))

/-- TELEM_SUB (R637). -/
def State.fmTelemSub (s : State) (src tag period : Nat) : State :=
  s.fmCmd src 6 tag true (fun s => (s.modKrv (fun k => { k with telPeriod := period, telTo := src }), some (stOk, 0)))

/-- A CMD that Table 16.5a does not list, or an argument out of its range. -/
def State.fmBad (s : State) (src cmd tag : Nat) : State := s.fmCmd src cmd tag false (fun s => (s, some (stBadarg, 0)))

/-- A command of the link class from the host (R616): PRECEDENCE, but for the topology record while none is stored. -/
def State.hostLink (s : State) (tag : Nat) : State := s.hostCmd tag false false (fun s => s.hostOwn (fun s => (s, stPrec)))

/-- BYPASS_IN, BYPASS_OUT and SET_TOPO from either master (Table 16.2). -/
def State.bypassInCmd (s : State) (src : KSrc) (tag mask : Nat) : State :=
  match src with
  | .host => s.hostLink tag
  | .plate p => s.fmBypassIn p tag mask
def State.bypassOutCmd (s : State) (src : KSrc) (tag mask : Nat) : State :=
  match src with
  | .host => s.hostLink tag
  | .plate p => s.fmBypassOut p tag mask
def State.setTopoCmd (s : State) (src : KSrc) (tag : Nat) (t : W32) (fm : Nat) : State :=
  match src with
  | .host =>
    s.hostCmd tag false false (fun s => s.hostOwn (fun s =>
      if s.krovas.settings.topo.isSome then (s, stPrec)
      else if !topoOk t then (s, stBadarg)
      else (s.modKrv (·.modSettings (fun c => { c with topo := some (t, fm) })), stOk)))
  | .plate p => s.fmSetTopo p tag t fm

/-- A frame of TYPE 0x0101 as Krovas takes it from MGMT_RD: the command that Table 16.5a lays out (R622). A word that the frame does not
hold reads as zero. DESIGN CHOICE (log entry 28). -/
def State.fmFrame (s : State) (src : Nat) (b : Bytes) : State :=
  let ws := toWords (b.length / 4) b
  let w (n : Nat) : W32 := ws.getD n 0#32
  let tag := (w 1).toNat
  let cmd := bits (w 2) 7 0
  let arg := bits (w 2) 31 16
  if bits (w 0) 15 0 ≠ 0x0101 then s
  else if ws.length < 3 ∨ bits (w 2) 15 8 ≠ 0 then s.fmBad src cmd tag
  else
    match cmd with
    | 1 => s.fmHello src tag
    | 2 => if arg < 16 then s.fmBypassIn src tag arg else s.fmBad src cmd tag
    | 3 => if arg < 16 then s.fmBypassOut src tag arg else s.fmBad src cmd tag
    | 4 => if ws.length < 5 then s.fmBad src cmd tag else s.fmSetTopo src tag (w 3) (bits (w 4) 9 0)
    | 5 => s.fmPowerOff src tag
    | 6 => s.fmTelemSub src tag arg
    | _ => s.fmBad src cmd tag

/-- The items of Table 16.6 marked Both; those of a Warden that does not answer as last read (R637). -/
def State.telNow (s : State) : TelFrame :=
  let k := s.krovas
  let f := s.fwReading
  { inlet := k.inletT, coolant := k.coolantT, pkg := k.pkgT, trayW := k.trayW, alertLow := k.alertLow, islandSt := k.islandSt,
    sisErr := k.sisErr, hw := s.hwReading, rim := ⟨(f.val.portUp, f.val.rimStat, f.val.evtRim), f.stale, f.age⟩,
    bypPos := k.pos.toNat, bypFail := k.failed.toNat, banks := [(k.bank 0).st, (k.bank 1).st], setVer := (k.bank k.run).setVer }

/-- A telemetry frame as bytes. DESIGN CHOICE (log entry 28): Table 16.5a gives its first word, and Table 16.6 its items. -/
def telBytes (f : TelFrame) : Bytes :=
  let w32 (n : Nat) : W32 := BitVec.ofNat 32 n
  let items := [0#32, 0#32, tempWord f.inlet, tempWord f.coolant, tempWord f.pkg, w32 f.trayW, w32 (b2n f.alertLow),
      w32 (f.islandSt + 256 * b2n f.sisErr), w32 (f.hw.val.stage + 256 * b2n f.hw.val.ready + 65536 * b2n f.hw.stale), w32 f.hw.val.hb,
      w32 f.hw.age] ++ f.rim.val.1 ++ f.rim.val.2.1 ++ [f.rim.val.2.2, w32 (b2n f.rim.stale), w32 f.rim.age,
      w32 (f.bypPos + 256 * f.bypFail)] ++ f.banks.map (fun b => w32 b.code) ++ [w32 f.setVer]
  natLe 4 (0x0103 + 65536 * (4 * items.length + 4)) ++ ofWords items

/-- TELEMETRY_FRAME (R637). -/
def State.telemetryFrame (s : State) : State :=
  let k := s.krovas
  if !k.standby || k.telPeriod == 0 then s
  else
    let f := s.telNow
    s.keepReadings.modKrv (fun k => { k with telOut := k.telOut ++ [f], frameOut := k.frameOut ++ [(k.telTo, telBytes f)] })

/-! ### Transfers on I3C as Krovas makes them (R622, R626, R637) -/

/-- STAGE_WR: Krovas writes part of an image of the set that it stages, into the slot that the running set does not use (R639). -/
def State.krovasStageWr (s : State) (b : Bytes) : State :=
  let n := leNat ((b.drop 1).take 1)
  let t := s.stageWr b
  if t.wdn.nack || !s.krovas.standby || n == s.krovas.run then t else t.modKrv (fun k => k.setBank n { st := .staging })

def State.krovasGetState (s : State) : State := (if s.krovas.standby then s.keepReadings else s).getState
def State.krovasTelemRd (s : State) : State := (if s.krovas.standby then s.keepReadings else s).telemRd

/-- MGMT_RD: a command frame is carried out as it is read. DESIGN CHOICE (log entry 28): Krovas knows the SPLATE that it came under. -/
def State.krovasMgmtRd (s : State) : State :=
  match s.wdn.mgmtIn with
  | (src, b) :: _ => if s.wdn.fwRuns then s.mgmtRd.fmFrame src b else s.mgmtRd
  | [] => s.mgmtRd

/-- MGMT_WR: the frame that waits first goes back to the Plate it answers; any other frame goes to FM_PLATE. -/
def State.krovasMgmtWr (s : State) (b : Bytes) : State :=
  match s.krovas.frameOut with
  | (dest, f) :: rest =>
    if s.wdn.fwRuns && b.drop 2 == f then (s.modKrv (fun k => { k with frameOut := rest })).mgmtWr b (some dest) else s.mgmtWr b none
  | [] => s.mgmtWr b none

/-! ### Interrupts and safety (R629 to R633) -/

/-- KROVAS_IBI (R629); once Warden firmware is ready, Krovas passes it the stored topology record (R625). -/
def State.krovasIbi (s : State) : State :=
  if !s.krovas.standby || !s.krovas.pwr then s
  else
    match s.wdn.ibi with
    | [] => s
    | b :: rest =>
      let s := s.modWdn (fun w => { w with ibi := rest })
      let arg := b / 256
      match b % 256 with
      | 2 =>
        let s := s.modKrv (fun k => { k with islandSt := arg }.note (.islandState arg))
        if arg = 3 then s.trialFail 5 else s
      | 3 => s.modKrv (fun k => { k with lockstep := true }.note .lockstep)
      | 4 => s.modKrv (·.note .overCap)
      | 5 => (s.modKrv (·.note (.bootFail arg))).trialFail 4
      | 6 =>
        let s := s.modKrv (fun k => { k with ready := true, noReady := false, hbSeen := none }.note .ready)
        (match s.krovas.settings.topo with
         | some (t, fm) => s.i3cTopo (topoBytes t fm)
         | none => s)
      | _ => s

/-- A condition with the action "package off" holds or ends (R630). -/
def State.safetyOff (s : State) (holds : Bool) (g : Krovas → Krovas) : State :=
  if !s.krovas.standby then s
  else
    let s := s.modKrv g
    if holds && s.krovas.pwr then s.pkgOff.modKrv (·.note .powerOff) else s

/-- COOLANT_OVERTEMP: what the inlet and coolant sensors have read for 10 s (Table 16.5). -/
def State.coolantTrip (s : State) (inlet t : Int) : State :=
  s.safetyOff (decide (45 < t)) (fun k => { k with coolant := decide (45 < t), inletT := inlet, coolantT := t })

/-- PACKAGE_OVERTEMP: what the package thermal sensor reads. -/
def State.packageTrip (s : State) (t : Int) : State :=
  s.safetyOff (decide (110 < t)) (fun k => { k with pkgHot := decide (110 < t), pkgT := t })

def State.leakTrip (s : State) (h : Bool) : State := s.safetyOff h (fun k => { k with leak := h })

/-- TRAY_OVERPOWER: tray input power, in W, averaged over 1 ms. A condition that has ended holds PWR_ALERT_N low until
TRAY_POWER_NORMAL. -/
def State.trayOver (s : State) (w : Nat) : State :=
  if !s.krovas.standby then s
  else
    let s := s.modKrv (fun k => { k with trayW := w })
    if w ≤ s.krovas.settings.trayPmax then s.modKrv (fun k => { k with overP := false })
    else (s.modKrv (fun k => { k with overP := true, alertLow := true })).alertAssert

/-- TRAY_POWER_NORMAL: the power has been below TRAY_PMAX for 1 s. -/
def State.trayNormal (s : State) (w : Nat) : State :=
  if !s.krovas.standby then s
  else
    let s := s.modKrv (fun k => { k with trayW := w })
    if s.krovas.settings.trayPmax ≤ w then s
    else (s.modKrv (fun k => { k with overP := false, alertLow := false })).modWdn (fun w => { w with alertPin := false })

/-- SIS_ERR_N_CHANGE: reported only. -/
def State.sisErrChange (s : State) : State :=
  if !s.krovas.standby then s
  else
    let low := s.island.errLow
    s.modKrv (fun k => { k with sisErr := low }.note (.sisErr low))

/-- HEARTBEAT_STALL (R631): HBCOUNT is as it was read last. -/
def State.heartbeatStall (s : State) : State :=
  if s.krovas.standby && s.krovas.ready && !s.krovas.hbSeen.any (· != s.wdn.hb) then s.modKrv (fun k => { k with stall := true }) else s

/-- ORPHAN_TIMEOUT (R632, R633): both masters have been silent for ORPHAN_T. DESIGN CHOICE (log entry 33). -/
def State.orphanTimeout (s : State) : State :=
  let k := s.krovas
  if !k.standby || !k.pwr || !k.hung then s
  else
    let day := k.orphans.filter (fun t => decide (k.now < t + 86400 * ticksPerS))
    let s := s.setKrv ({ k.bypassIn 15 with orphans := day ++ [k.now], actTill := k.now + 1000 }.note .orphan)
    let s := s.pkgTray
    if 2 ≤ day.length then s.pkgOff.modKrv (·.note .powerOff) else s

/-- TRIAL_TIMEOUT (R631, R643, R644): READY has not been seen within TRIAL_T, or in a trial no advance of HBCOUNT after it. -/
def State.trialTimeout (s : State) : State :=
  let k := s.krovas
  if !k.standby || !k.pwr then s
  else if k.trial || k.fallback then s.trialFail 6
  else if k.ready then s
  else s.setKrv { k with noReady := true }

/-! ### Bypass and standby (R615, R634 to R636, R641) -/

/-- BYP_POS_CHANGE: a switch reaches the through position only while it is driven, standby is present and PLATE_RST_OUT is
deasserted (R615). -/
def State.bypPosChange (s : State) (d : Nat) (thru : Bool) : State :=
  let k := s.krovas
  if bit k.pos d = thru || (thru && !(k.standby && bit k.drv d && !s.wdn.rstOut)) then s
  else
    let k := { k with pos := setBit k.pos d thru }
    if !k.standby then s.setKrv k
    else
      let k := k.note (.bypPos d thru)
      let done := k.wait.filter (fun e => k.pos.toNat &&& e.mask == e.mask)
      let k := { k with wait := k.wait.filter (fun e => k.pos.toNat &&& e.mask != e.mask) }
      s.setKrv (done.foldl (fun k e => k.ansWait e stOk) k)

/-- BYPASS_MISMATCH (R636). DESIGN CHOICE (log entry 31). -/
def State.bypassMismatch (s : State) (d : Nat) : State :=
  let k := s.krovas
  if !k.standby || bit k.pos d == bit k.drv d then s
  else s.setKrv ({ k.bypassIn (2 ^ d) with failed := setBit k.failed d true }.note (.bypFail d))

/-- PLATE_RST_OUT_ASSERT (R635). -/
def State.plateRstOut (s : State) : State :=
  if s.krovas.standby && s.wdn.rstOut then s.modKrv (·.bypassIn 15) else s

/-- STANDBY_LOSS (R615): Krovas stops, every switch takes the bypass position, and PKG_PWR_EN falls.
DESIGN CHOICE (log entry 33). -/
def State.standbyLoss (s : State) : State :=
  let k := s.krovas
  if !k.standby then s
  else
    s.pkgOff.modKrv (fun k' =>
      { k' with standby := false, wasOn := k.pwr, pos := 0#8, wait := [], lastHost := none, lastFm := none,
                fmTag := none, pwHost := none, pwFm := none, telPeriod := 0, orphans := [], coolant := false, pkgHot := false, leak := false, overP := false,
                sisErr := false })

/-- STANDBY_RESTORE (R641, Table 16.4). -/
def State.standbyRestore (s : State) : State :=
  let k := s.krovas
  if k.standby then s
  else
    let s := s.setKrv { k with standby := true }
    let on := k.settings.policy == 1 || (k.settings.policy == 2 && k.wasOn)
    if on && !k.hold && !k.unsafe_ then s.powerOn else s

end Sys2Proof.Machine
end

