-- ==== Sys2Proof/Machine/Direct.lean ====
section
/-! DEFINITION. Register accesses by a named party, as the register rows of the table make them (R9, R13, R202, R469,
R499, R501, R513). -/

namespace Sys2Proof.Machine

/-! ### One register of one unit: nothing happens in a unit that is held in reset -/

def State.tileReg (s : State) (r : Nat) (g : Tile → Tile) : State := if (s.tile r).rst then s else s.modTile r g
def State.fldReg (s : State) (f : Nat) (g : Field → Field) : State := if (s.fld f).rst then s else s.modFld f g

/-- Active tiles of field f, and those that wait (R95). -/
def State.activeTiles (s : State) (f : Nat) : Nat × Nat :=
  let l := s.tiles.filter (fun e => e.1 / 9600 == f && e.2.state == .running)
  (l.length, (l.filter (fun e => e.2.waiting || e.2.blk.isSome || e.2.sendCh.isSome)).length)

/-- SH_WINDOW_CLOSE: the cycles that the window of field f still lacks pass, with the tiles as they stand, and it closes
(R97). DESIGN CHOICE (log entry 17): those cycles count in this window alone. -/
def State.shWindow (s : State) (f : Nat) : State :=
  s.fldReg f (fun c => c.shPass s.sku (shLimit c.shCtl - c.shWin.cyc) (s.activeTiles f).1 (s.activeTiles f).2)

/-- A write of tile control space. -/
def State.tileWr (s : State) (p : Party) (r off : Nat) (v : W32) : State := s.tileReg r (fun t => t.ctlWrite p off v)

/-- A read of tile control space; the value is shown in `rdata`. DESIGN CHOICE (log entry 15). -/
def State.tileRd (s : State) (p : Party) (r off : Nat) : State :=
  if (s.tile r).rst then s
  else
    match (s.tile r).ctlRead r p off with
    | (t, v) => { s.setTile r t with rdata := rdataOf [v] }

/-- A write of field controller space. -/
def State.fldWr (s : State) (p : Party) (f off : Nat) (v : W32) : State :=
  if (s.fld f).rst then s
  else if 0x420 ≤ off ∧ off < 0x43C then s.colmapShWrite p f ((off - 0x420) / 4) v
  else s.fldWrite s.sku f p off v

/-- A read of field controller space. DESIGN CHOICE (log entry 15). -/
def State.fldRd (s : State) (f off : Nat) : State :=
  if (s.fld f).rst then s
  else
    match (s.fld f).read off with
    | (c, v) => { s.setFld f c with rdata := rdataOf [v] }

/-- A barrier cut of one level: a write of FLD_BARCUT_GO while FLD_BARCUT_SEL names that level (R415). -/
def State.cutWr (s : State) (level : Nat) (p : Party) (f : Nat) (v : W32) : State :=
  if cutLevel (s.fld f).barcutSel = level then s.fldWr p f 0x804 v else s

/-- A write of a PRS_ register by a party; Press software counts as the cluster's own. -/
def State.prsWr (s : State) (p : Party) (c off : Nat) (v : W32) : State := s.prsWrite c { p := p } off v

/-- A 64-bit write of PRS_FWINn (R481). -/
def State.fwinWr (s : State) (p : Party) (c n : Nat) (v : W64) : State :=
  if (s.prs c).rst then s
  else s.modPrs c (fun x => if ({ p := p } : PrsWho).mWrite then x.wrFwin n v else x.refuse)

/-- HOLD of one core, the other three as they are (R498). DESIGN CHOICE (log entry 61). -/
def State.holdWr (s : State) (p : Party) (c k : Nat) (b : Bool) : State :=
  s.prsWr p c 4 (setBit (s.prs c).hold k b)

/-- A read of a Rim register. DESIGN CHOICE (log entry 15). -/
def State.rimRd (s : State) (p : Party) (d off : Nat) : State :=
  match s.rimRead d p off with
  | (s, v) => { s with rdata := rdataOf [v] }

/-- A write of a Warden register by a party. -/
def State.wdnWr (s : State) (p : Party) (off : Nat) (v : W32) : State := s.wdnBy p (fun s => s.wdnRegWrite p off v)

/-- A 64-bit write of a keep register or of Ground (R126, R127). -/
def State.keepWr (s : State) (p : Party) (off : Nat) (v : W64) : State :=
  s.wdnBy p (fun s => s.modWdn (fun w => w.wrKeep p off v))

/-- A write of WDN_HWINn, or of WDN_HWKEYn (R504). -/
def State.hwinWr (s : State) (p : Party) (n : Nat) (key : Bool) (v : W64) : State :=
  s.wdnBy p (fun s => s.modWdn (fun w => if key then w.wrHwkey p n (half v false) else w.wrHwin p n v))

/-- A write of the Proof Console by a party (R648, R501). -/
def State.prfWr (s : State) (p : Party) (g : Proof → Proof) : State :=
  s.wdnBy p (fun s => if tileParty p then s else s.prfWrite p g)

/-- Doorbells and interrupts (R490): TIME reaches the core's M_TCMP. DESIGN CHOICE (log entry 60). -/
def State.timerTo (s : State) (c k : Nat) : State :=
  let cmp := (s.core c k).ctlReg 0x80A
  if s.time.toNat < cmp.toNat then { s with time := cmp } else s

/-! ### Answers, releases and credits, by who takes them -/

/-- RESP at a tile or at a gate. -/
def State.takeRespAt (s : State) (k : Taker) : State :=
  match k with
  | .tile t => if (s.tile t.val).rst then s else s.tileTakeResp t.val
  | .gate c => s.gateTakeResp c.val

/-- ACK at a tile or at a gate. -/
def State.takeAckAt (s : State) (k : Taker) : State :=
  match k with
  | .tile t => if (s.tile t.val).rst then s else s.tileTakeAck t.val
  | .gate c => s.gateTakeAck c.val

/-- RELEASE_T at a tile or at a gate. -/
def State.takeReleaseAt (s : State) (k : Taker) : State :=
  match k with
  | .tile t => s.tileRelease t.val
  | .gate c => s.gateRelease c.val

/-- A credit comes back; at a gate's C3 lane it lets the cores' waiting arrivals leave (R479). -/
def State.creditArrive (s : State) (r : Nat) (p : RPort) (ch : Nat) (b ue : Bool) : State :=
  let s := s.creditReturn r p ch b ue
  if p = .gate ∧ ch = 3 ∧ hasGate (fieldOf r) then
    [0, 1, 2, 3].foldl (fun s k => s.gateArrivals (clusterOfField (fieldOf r)) k 16) s
  else s

/-! ### REGISTER_WRITE: a register named by its Global Address (R13, R57, R684) -/

/-- The low and the high word of a value. -/
def loHalf (v : W64) : W32 := half v false
def hiHalf (v : W64) : W32 := half v true

/-- A 4-byte write of the register at a GA of this Plate; a malformed GA names none. -/
def State.gaWrite (s : State) (p : Party) (g : Ga) (v : W32) : State :=
  if g.bad 4 || !isOwn s.topoNow g.plate then s
  else
    match g.space with
    | 1 => s.tileWr p (routerOf g.y g.x) g.off v
    | 2 => s.fldWr p (fieldAt (g.y) (g.x)) g.off v
    | 3 => if g.off < 0x800000 then s else s.prsWr p (clusterOfField (fieldAt g.y g.x)) (g.off - 0x800000) v
    | 4 => s.rimWrite g.x p g.off v
    | 5 => s.wdnBy p (fun s => (s.wdnWrite p g.off v).1)
    | _ => s

/-- REGISTER_WRITE: 4 bytes, or the 8 bytes of a 64-bit register. -/
def State.regWrite (s : State) (p : Party) (ga v : W64) (wide : Bool) : State :=
  let g := gaOf ga
  if !wide then s.gaWrite p g (loHalf v)
  else if g.off % 8 ≠ 0 then s
  else if g.space = 5 then
    (if g.bad 8 || !isOwn s.topoNow g.plate || !wdnListed g.off then s else s.wdnBy p (fun s => (s.wdnWrite64 p g.off v).1))
  else (s.gaWrite p g (loHalf v)).gaWrite p { g with off := g.off + 4 } (hiHalf v)

end Sys2Proof.Machine
end

