-- ==== Sys2Proof/Machine/CmdClock.lean ====
section
/-! DEFINITION. Clocks, Slack Harvesting and the power governor (chapter 3): one meaning per command. -/

namespace Sys2Proof.Machine

/-- FLD_CLK_TGT_WRITE (R94). A write of the runtime target operating point. -/
def execFldClkTgtWrite (p : Party) (f : FieldId) (v : W32) (s : State) : Host.Outcome State Fault Refusal :=
  .next (s.clocked (s.fldWr p f.val 0x100 v))

/-- OP_CHANGE_DONE (R92). An operating-point change completes and a pending new value is pursued. -/
def execOpChangeDone (f : FieldId) (s : State) : Host.Outcome State Fault Refusal :=
  .next (s.clocked (s.fldReg f.val (fun x => x.changeDone s.sku)))

/-- FLD_SH_CTL_WRITE (R102). A write of Slack Harvesting control, refused with reserved encodings, closing the
window when MODE or WINEXP changes. -/
def execFldShCtlWrite (p : Party) (f : FieldId) (v : W32) (s : State) : Host.Outcome State Fault Refusal :=
  .next (s.clocked (s.fldWr p f.val 0x110 v))

/-- FLD_SH_BAR_WRITE (R102). A write of the window barrier id, closing the current window without a decision. -/
def execFldShBarWrite (p : Party) (f : FieldId) (v : W32) (s : State) : Host.Outcome State Fault Refusal :=
  .next (s.clocked (s.fldWr p f.val 0x114 v))

/-- SH_WINDOW_CLOSE (R97). A Slack Harvesting window closes by cycle count or barrier release and its counts are
copied. -/
def execShWindowClose (f : FieldId) (s : State) : Host.Outcome State Fault Refusal :=
  .next (s.clocked (s.shWindow f.val))

/-- FLD_XDROP_READ (R86). A read of FLD_XDROP returns and clears the discard count. -/
def execFldXdropRead (_p : Party) (f : FieldId) (s : State) : Host.Outcome State Fault Refusal :=
  .next (s.clocked (s.fldRd f.val 0x140))

/-- POWER (R103). A field controller, a Rim die or a Press cluster reports its supply power to the Warden every 10 µs. -/
def execPower (f : PowerSrc) (w : Nat) (s : State) : Host.Outcome State Fault Refusal :=
  .next (s.clocked (s.powerReport f w))

/-- GOV_PERIOD (R105). Every 50 µs the governor compares power with the cap and lowers or raises ceilings. -/
def execGovPeriod (w : Nat) (s : State) : Host.Outcome State Fault Refusal :=
  .next (s.clocked (s.govPeriod w))

/-- CEIL (R108). A Stylus ceiling command sets FLD_CLK_CEIL, held for fields in reset. -/
def execCeil (f : FieldId) (s : State) : Host.Outcome State Fault Refusal :=
  .next (s.clocked (s.takeCeil f.val))

/-- WDN_PWR_CAP_WRITE (R104). A write of the package power cap, clamped to 2.5 kW and the SKU cap. -/
def execWdnPwrCapWrite (p : Party) (v : W32) (s : State) : Host.Outcome State Fault Refusal :=
  .next (s.clocked (s.wdnWr p 0x200 v))

/-- PWR_ALERT_ASSERT (R107). The power-alert input sets ALERT and the governor writes every ceiling to 0. -/
def execPwrAlertAssert (s : State) : Host.Outcome State Fault Refusal :=
  .next (s.clocked s.alertAssert)

/-- WDN_PWR_STAT_WRITE (R107). A firmware W1C of ALERT, which sets again while the input is still asserted. -/
def execWdnPwrStatWrite (p : Party) (v : W32) (s : State) : Host.Outcome State Fault Refusal :=
  .next (s.clocked (s.wdnWr p 0x204 v))

end Sys2Proof.Machine
end

