-- ==== Sys2Proof/Machine/CmdEpoch.lean ====
section
/-! DEFINITION. Epochs and column maps (15.3): one meaning per command. -/

namespace Sys2Proof.Machine

/-- EPOCH_BEGIN (R591). The sequencer starts an epoch for a root and sends the commit to fields and Rim dies. -/
def execEpochBegin (s : State) : Host.Outcome State Fault Refusal :=
  .next (s.clocked s.epochBegin)

/-- EPOCH_COMMIT (R590). A field or Rim die copies its changed shadow registers into the active ones. -/
def execEpochCommit (g : CommitTgt) (s : State) : Host.Outcome State Fault Refusal :=
  .next (s.clocked (s.epochCommit g))

/-- COLMAP_COMMIT (R592). A field closes its crossings, waits for its routers to drain and commits or refuses the
column map. -/
def execColmapCommit (f : FieldId) (s : State) : Host.Outcome State Fault Refusal :=
  .next (s.clocked (s.colmapCommit f.val))

/-- EPOCH_COMPLETE (R591). With every acknowledgement in, the Warden lets the root send its release. -/
def execEpochComplete (s : State) : Host.Outcome State Fault Refusal :=
  .next (s.clocked s.epochComplete)

/-- FLD_COLMAP_SH_WRITE (R595). A firmware write of the shadow column map. -/
def execFldColmapShWrite (p : Party) (f : FieldId) (n : (Fin 7)) (v : W32) (s : State) : Host.Outcome State Fault Refusal :=
  .next (s.clocked (s.fldWr p f.val (0x420 + 4 * n.val) v))

end Sys2Proof.Machine
end

