-- ==== Sys2Proof/Machine/CmdField.lean ====
section
/-! DEFINITION. Barrier tables, seals, counters and the RAS registers of a field (9.8, 10.2 to 10.6, 15.1, 15.2): one meaning per command. -/

namespace Sys2Proof.Machine

/-- FLD_BARNODE_WRITE (R394). A write arming or disarming a field node entry, refused while arrivals are counted. -/
def execFldBarnodeWrite (p : Party) (f : FieldId) (id : (Fin 16384)) (v : W32) (s : State) : Host.Outcome State Fault Refusal :=
  .next (s.clocked (s.fldReg f.val (fun x => x.wrBarNode f.val p id.val v)))

/-- FLD_BARROOT_WRITE (R395). A write arming a root entry, reloading REMAINF, REMAINP and RCVD. -/
def execFldBarrootWrite (p : Party) (f : FieldId) (id : (Fin 16384)) (k : (Fin 3)) (v : W32) (s : State) : Host.Outcome State Fault Refusal :=
  .next (s.clocked (s.fldReg f.val (fun x => x.wrBarRoot p id.val k.val v)))

/-- BARCUT_NODE (R415). A level 0 cut lowers a node's EXPECT and REMAIN. -/
def execBarcutNode (p : Party) (f : FieldId) (v : W32) (s : State) : Host.Outcome State Fault Refusal :=
  .next (s.clocked (s.cutWr 0 p f.val v))

/-- BARCUT_ROOT_REMOVE (R415). A level 1 cut removes a field from a root's FMASK. -/
def execBarcutRootRemove (p : Party) (f : FieldId) (v : W32) (s : State) : Host.Outcome State Fault Refusal :=
  .next (s.clocked (s.cutWr 1 p f.val v))

/-- BARCUT_ROOT_CREDIT (R415). A level 2 cut credits a field's FDONE for the current instance. -/
def execBarcutRootCredit (p : Party) (f : FieldId) (v : W32) (s : State) : Host.Outcome State Fault Refusal :=
  .next (s.clocked (s.cutWr 2 p f.val v))

/-- BARCUT_SYSROOT (R415). A level 3 cut lowers a system root's EXPECTP and REMAINP. -/
def execBarcutSysroot (p : Party) (f : FieldId) (v : W32) (s : State) : Host.Outcome State Fault Refusal :=
  .next (s.clocked (s.cutWr 3 p f.val v))

/-- DROPV_CLEAR (R414). Writing 1 to DROPV clears it and arms the next barrier drop capture. -/
def execDropvClear (p : Party) (f : FieldId) (s : State) : Host.Outcome State Fault Refusal :=
  .next (s.clocked (s.fldWr p f.val 0x808 0x10#32))

/-- FLD_SEAL_SH_WRITE (R366). A write of the shadow seal, refused for bad source, key or rectangle. -/
def execFldSealShWrite (p : Party) (f : FieldId) (v : W32) (s : State) : Host.Outcome State Fault Refusal :=
  .next (s.clocked (s.fldWr p f.val 0x204 v))

/-- HDRV_CLEAR (R381). Writing 1 to HDRV clears it and arms the next drop header capture. -/
def execHdrvClear (p : Party) (f : FieldId) (s : State) : Host.Outcome State Fault Refusal :=
  .next (s.clocked (s.fldWr p f.val 0x208 0x8#32))

/-- FLD_SEAL_DROP_READ (R381). A read returns and clears the seal drop count. -/
def execFldSealDropRead (_p : Party) (f : FieldId) (s : State) : Host.Outcome State Fault Refusal :=
  .next (s.clocked (s.fldRd f.val 0x210))

/-- FLD_KEY_DROP_READ (R381). A read returns and clears the gate key refusal count. -/
def execFldKeyDropRead (_p : Party) (f : FieldId) (s : State) : Host.Outcome State Fault Refusal :=
  .next (s.clocked (s.fldRd f.val 0x214))

/-- FLD_HOP_CE_READ (R381). A read returns and clears the corrected flit count. -/
def execFldHopCeRead (_p : Party) (f : FieldId) (s : State) : Host.Outcome State Fault Refusal :=
  .next (s.clocked (s.fldRd f.val 0x218))

/-- FLD_HOP_RETRY_READ (R381). A read returns and clears the replay count. -/
def execFldHopRetryRead (_p : Party) (f : FieldId) (s : State) : Host.Outcome State Fault Refusal :=
  .next (s.clocked (s.fldRd f.val 0x21C))

/-- FLD_TFLT_READ (R583). A read returns and removes the oldest fault log entry. -/
def execFldTfltRead (_p : Party) (f : FieldId) (s : State) : Host.Outcome State Fault Refusal :=
  .next (s.clocked (s.fldRd f.val 0x308))

/-- FLD_EVT_CLEAR (R586). A W1C of FLD_EVT bits; clearing BURNUE also clears FLD_BURN_UEA.VALID. -/
def execFldEvtClear (p : Party) (f : FieldId) (v : W32) (s : State) : Host.Outcome State Fault Refusal :=
  .next (s.clocked (s.fldWr p f.val 0x300 v))

/-- FLD_BURN_CTL_WRITE (R581). A write of Burnish rate and enable, refused for a reserved rate. -/
def execFldBurnCtlWrite (p : Party) (f : FieldId) (v : W32) (s : State) : Host.Outcome State Fault Refusal :=
  .next (s.clocked (s.fldWr p f.val 0x310 v))

/-- FLD_BURN_CE_READ (R581). A read returns and clears the Burnish correction count. -/
def execFldBurnCeRead (_p : Party) (f : FieldId) (s : State) : Host.Outcome State Fault Refusal :=
  .next (s.clocked (s.fldRd f.val 0x318))

/-- FLD_BURN_UEC_READ (R581). A read returns and clears the Burnish uncorrectable count. -/
def execFldBurnUecRead (_p : Party) (f : FieldId) (s : State) : Host.Outcome State Fault Refusal :=
  .next (s.clocked (s.fldRd f.val 0x31C))

end Sys2Proof.Machine
end

