-- ==== Sys2Proof/Machine/CmdIsland.lean ====
section
/-! DEFINITION. The security island (chapter 14): one meaning per command. -/

namespace Sys2Proof.Machine

/-- ISLAND_START (R544). At release of POR, TRAY or ZERO the island runs its pre-operational tests. -/
def execIslandStart (o : StartRes) (s : State) : Host.Outcome State Fault Refusal :=
  .next (s.clocked (s.islandStart o))

/-- PERIODIC_SELFTEST (R546). Every 24 h the island repeats its pre-operational tests. -/
def execPeriodicSelftest (ok : Bool) (s : State) : Host.Outcome State Fault Refusal :=
  .next (s.clocked (s.periodicTest ok))

/-- HEALTH_TEST_FAIL (R545). A conditional test fails and the island enters SOFT_ERR. -/
def execHealthTestFail (s : State) : Host.Outcome State Fault Refusal :=
  .next (s.clocked s.healthFail)

/-- TEMP_EXCURSION (R543). Island temperature leaves its range and it enters HARD_ERR. -/
def execTempExcursion (s : State) : Host.Outcome State Fault Refusal :=
  .next (s.clocked s.tempExcursion)

/-- SELFTEST (R546). The command reruns every pre-operational test. -/
def execSelftest (p : Party) (ok : Bool) (s : State) : Host.Outcome State Fault Refusal :=
  .next (s.clocked (s.wdnBy p (fun s => s.cmdSelftest p ok)))

/-- GETID (R550). The command returns the DIK and KAK public keys, signature and certificate. -/
def execGetid (p : Party) (s : State) : Host.Outcome State Fault Refusal :=
  .next (s.clocked (s.wdnBy p (fun s => s.cmdGetid p)))

/-- VERIFY (R555). The command checks a signed image and measures it. -/
def execVerify (p : Party) (s : State) : Host.Outcome State Fault Refusal :=
  .next (s.clocked (s.wdnBy p (fun s => s.cmdVerify p)))

/-- EXTEND (R557). The command extends MREG5 or MREG7 with a value. -/
def execExtend (p : Party) (s : State) : Host.Outcome State Fault Refusal :=
  .next (s.clocked (s.wdnBy p (fun s => s.cmdExtend p)))

/-- QUOTE (R560). The command returns a DIK-signed quote of chosen measurement registers. -/
def execQuote (p : Party) (s : State) : Host.Outcome State Fault Refusal :=
  .next (s.clocked (s.wdnBy p (fun s => s.cmdQuote p)))

/-- IMPORT (R561). The command unwraps a fabric or tenant master key into a slot. -/
def execImport (p : Party) (s : State) : Host.Outcome State Fault Refusal :=
  .next (s.clocked (s.wdnBy p (fun s => s.cmdImport p)))

/-- FORGET (R550). The command empties a master key slot. -/
def execForget (p : Party) (s : State) : Host.Outcome State Fault Refusal :=
  .next (s.clocked (s.wdnBy p (fun s => s.cmdForget p)))

/-- LOADKEY (R562). The command derives link keys and loads them into a Rim port key slot. -/
def execLoadkey (p : Party) (s : State) : Host.Outcome State Fault Refusal :=
  .next (s.clocked (s.wdnBy p (fun s => s.cmdLoadkey p)))

/-- RANDOM (R550). The command returns DRBG bytes. -/
def execRandom (p : Party) (s : State) : Host.Outcome State Fault Refusal :=
  .next (s.clocked (s.wdnBy p (fun s => s.cmdRandom p)))

/-- CHALLENGE (R551). The command returns a fresh challenge. -/
def execChallenge (p : Party) (s : State) : Host.Outcome State Fault Refusal :=
  .next (s.clocked (s.wdnBy p (fun s => s.cmdChallenge p)))

/-- SET_OWNER (R552). The command replaces the owner key hash. -/
def execSetOwner (p : Party) (s : State) : Host.Outcome State Fault Refusal :=
  .next (s.clocked (s.wdnBy p (fun s => s.cmdSetOwner p)))

/-- ZEROIZE (R566). The owner command starts a zeroization. -/
def execZeroize (p : Party) (s : State) : Host.Outcome State Fault Refusal :=
  .next (s.clocked (s.wdnBy p (fun s => s.cmdZeroize p)))

/-- UNLOCK (R570). The owner command starts a zeroization that opens test access. -/
def execUnlock (p : Party) (s : State) : Host.Outcome State Fault Refusal :=
  .next (s.clocked (s.wdnBy p (fun s => s.cmdUnlock p)))

/-- REVOKE (R552). The command burns a signing-key revocation fuse. -/
def execRevoke (p : Party) (s : State) : Host.Outcome State Fault Refusal :=
  .next (s.clocked (s.wdnBy p (fun s => s.cmdRevoke p)))

/-- SVNRAISE (R552). The command burns a higher minimum SVN for a firmware type. -/
def execSvnraise (p : Party) (s : State) : Host.Outcome State Fault Refusal :=
  .next (s.clocked (s.wdnBy p (fun s => s.cmdSvnraise p)))

/-- LID_TRIP (R569). A lid sensor trip starts a zeroization within 100 µs and counts a tamper. -/
def execLidTrip (s : State) : Host.Outcome State Fault Refusal :=
  .next (s.lidTrip)

/-- TAP_UNLOCK (R568). A scan of the test access port; a signed unlock starts a zeroization. -/
def execTapUnlock (c : TapScan) (s : State) : Host.Outcome State Fault Refusal :=
  .next (s.tapScan c.ir c.data)

end Sys2Proof.Machine
end

