-- ==== Sys2Proof/Machine/CmdKrovas.lean ====
section
/-! DEFINITION. The Krovas tray controller (chapter 16): one meaning per command. -/

namespace Sys2Proof.Machine

/-- ON (R621). A host Redfish On powers the package on; a ResetType that is not accepted is answered BADARG. -/
def execOn (r : OnReq) (s : State) : Host.Outcome State Fault Refusal :=
  .next (s.redfishOn r.tag.toNat r.ty)

/-- FORCE_OFF (R621). A host Redfish ForceOff powers the package off. -/
def execForceOff (tag : W32) (s : State) : Host.Outcome State Fault Refusal :=
  .next (s.forceOff tag.toNat)

/-- POWER_CYCLE (R641). A host PowerCycle powers the package off and on, activating a staged set. -/
def execPowerCycle (tag : W32) (s : State) : Host.Outcome State Fault Refusal :=
  .next (s.powerCycle tag.toNat)

/-- FORCE_RESTART (R621). A host ForceRestart performs a TRAY reset. -/
def execForceRestart (tag : W32) (s : State) : Host.Outcome State Fault Refusal :=
  .next (s.forceRestart tag.toNat)

/-- REDFISH_READ (R620). A Redfish read of state, telemetry or log. -/
def execRedfishRead (tag : W32) (item : ReadItem) (s : State) : Host.Outcome State Fault Refusal :=
  .next (s.redfishRead tag.toNat item)

/-- SETTINGS_WRITE (R620). A host write of a Krovas setting. -/
def execSettingsWrite (tag : W32) (k : Setting) (v : W32) (s : State) : Host.Outcome State Fault Refusal :=
  .next (s.settingsWrite tag.toNat k v)

/-- FIRMWARE_PUSH (R639). A firmware set pushed through UpdateService is staged and verified. -/
def execFirmwarePush (tag : W32) (fs : FwSet) (s : State) : Host.Outcome State Fault Refusal :=
  .next (s.firmwarePush tag.toNat fs)

/-- HELLO (R622). The fabric manager's HELLO frame. -/
def execHello (src : Nat) (tag : W32) (s : State) : Host.Outcome State Fault Refusal :=
  .next (s.fmHello src tag.toNat)

/-- BYPASS_IN (R635). The fabric manager puts directions into bypass. -/
def execBypassIn (src : KSrc) (tag : W32) (mask : (BitVec 4)) (s : State) : Host.Outcome State Fault Refusal :=
  .next (s.bypassInCmd src tag.toNat mask.toNat)

/-- BYPASS_OUT (R634). The fabric manager moves directions to through when conditions allow. -/
def execBypassOut (src : KSrc) (tag : W32) (mask : (BitVec 4)) (s : State) : Host.Outcome State Fault Refusal :=
  .next (s.bypassOutCmd src tag.toNat mask.toNat)

/-- SET_TOPO (R624). The fabric manager stores the topology record. -/
def execSetTopo (src : KSrc) (tag : W32) (topo : W32) (fm : (BitVec 10)) (s : State) : Host.Outcome State Fault Refusal :=
  .next (s.setTopoCmd src tag.toNat topo fm.toNat)

/-- POWER_OFF (R616). The fabric manager powers the package off. -/
def execPowerOff (src : Nat) (tag : W32) (s : State) : Host.Outcome State Fault Refusal :=
  .next (s.fmPowerOff src tag.toNat)

/-- TELEM_SUB (R637). The fabric manager sets the telemetry period. -/
def execTelemSub (src : Nat) (tag : W32) (period : (BitVec 16)) (s : State) : Host.Outcome State Fault Refusal :=
  .next (s.fmTelemSub src tag.toNat period.toNat)

/-- TELEMETRY_FRAME (R637). At each subscribed period Krovas sends a telemetry frame. -/
def execTelemetryFrame (s : State) : Host.Outcome State Fault Refusal :=
  .next (s.telemetryFrame)

/-- KROVAS_IBI (R629). Krovas takes an in-band interrupt from the Warden and acts on its byte. -/
def execKrovasIbi (s : State) : Host.Outcome State Fault Refusal :=
  .next (s.krovasIbi)

/-- COOLANT_OVERTEMP (R630). The inlet and coolant sensors, in °C, have read so for 10 s: coolant above 45 powers the package off. -/
def execCoolantOvertemp (r : CoolantReading) (s : State) : Host.Outcome State Fault Refusal :=
  .next (s.coolantTrip r.inlet r.coolant)

/-- PACKAGE_OVERTEMP (R630). The package thermal sensor, in °C: above 110 powers the package off. -/
def execPackageOvertemp (t : Int) (s : State) : Host.Outcome State Fault Refusal :=
  .next (s.packageTrip t)

/-- LEAK_OR_SUPPLY_FAULT (R630). A wet leak sensor or supply fault powers the package off. -/
def execLeakOrSupplyFault (holds : Bool) (s : State) : Host.Outcome State Fault Refusal :=
  .next (s.leakTrip holds)

/-- TRAY_OVERPOWER (R630). Tray power above TRAY_PMAX drives PWR_ALERT_N low. -/
def execTrayOverpower (w : Nat) (s : State) : Host.Outcome State Fault Refusal :=
  .next (s.trayOver w)

/-- TRAY_POWER_NORMAL (R630). Power below TRAY_PMAX for 1 s releases PWR_ALERT_N. -/
def execTrayPowerNormal (w : Nat) (s : State) : Host.Outcome State Fault Refusal :=
  .next (s.trayNormal w)

/-- SIS_ERR_N_CHANGE (R630). SIS_ERR_N low is reported only. -/
def execSisErrNChange (s : State) : Host.Outcome State Fault Refusal :=
  .next (s.sisErrChange)

/-- HEARTBEAT_STALL (R631). HBCOUNT unchanged for HB_T marks the Plate hung. -/
def execHeartbeatStall (s : State) : Host.Outcome State Fault Refusal :=
  .next (s.heartbeatStall)

/-- ORPHAN_TIMEOUT (R632). Both masters silent for ORPHAN_T with a hung Plate bypasses and TRAY-resets the tray. -/
def execOrphanTimeout (s : State) : Host.Outcome State Fault Refusal :=
  .next (s.orphanTimeout)

/-- TRIAL_TIMEOUT (R643). READY not seen within TRIAL_T rejects the set and falls back. -/
def execTrialTimeout (s : State) : Host.Outcome State Fault Refusal :=
  .next (s.trialTimeout)

/-- BYPASS_MISMATCH (R636). A switch position differing from command for 20 ms is logged failed. -/
def execBypassMismatch (d : DieId) (s : State) : Host.Outcome State Fault Refusal :=
  .next (s.bypassMismatch d.val)

/-- PLATE_RST_OUT_ASSERT (R635). PLATE_RST_OUT asserted makes Krovas bypass all directions. -/
def execPlateRstOutAssert (s : State) : Host.Outcome State Fault Refusal :=
  .next (s.plateRstOut)

/-- STANDBY_RESTORE (R641). Standby power returns and the power policy applies. -/
def execStandbyRestore (s : State) : Host.Outcome State Fault Refusal :=
  .next (s.standbyRestore)

/-- STANDBY_LOSS (R615). The tray's standby supply is lost, stopping Krovas and putting every bypass switch in the
bypass position. -/
def execStandbyLoss (s : State) : Host.Outcome State Fault Refusal :=
  .next (s.standbyLoss)

/-- BYP_POS_CHANGE (R634). A bypass switch position sense line changes, letting Krovas answer a BYPASS_OUT with OK
and report the new position in telemetry. -/
def execBypPosChange (d : DieId) (thru : Bool) (s : State) : Host.Outcome State Fault Refusal :=
  .next (s.bypPosChange d.val thru)

end Sys2Proof.Machine
end

