-- ==== Sys2Proof/Machine/CmdMemory.lean ====
section
/-! DEFINITION. Memory, control-space, remote, queue and barrier instructions (Tables 6.3 to 6.9): one meaning per command. -/

namespace Sys2Proof.Machine

/-- LW (R225). Loads a word from local tile memory into rd after alignment and range checks. -/
def execLw (h : Hart) (s : State) : Host.Outcome State Fault Refusal :=
  .next (s.runHart h .lw)

/-- LH (R225). Loads a sign-extended half-word from local memory into rd. -/
def execLh (h : Hart) (s : State) : Host.Outcome State Fault Refusal :=
  .next (s.runHart h .lh)

/-- LHU (R225). Loads a zero-extended half-word from local memory into rd. -/
def execLhu (h : Hart) (s : State) : Host.Outcome State Fault Refusal :=
  .next (s.runHart h .lhu)

/-- LB (R225). Loads a sign-extended byte from local memory into rd. -/
def execLb (h : Hart) (s : State) : Host.Outcome State Fault Refusal :=
  .next (s.runHart h .lb)

/-- LBU (R225). Loads a zero-extended byte from local memory into rd. -/
def execLbu (h : Hart) (s : State) : Host.Outcome State Fault Refusal :=
  .next (s.runHart h .lbu)

/-- SW (R225). Stores rs as a word into local memory. -/
def execSw (h : Hart) (s : State) : Host.Outcome State Fault Refusal :=
  .next (s.runHart h .sw)

/-- SH (R225). Stores rs[15:0] into local memory by read-modify-write. -/
def execSh (h : Hart) (s : State) : Host.Outcome State Fault Refusal :=
  .next (s.runHart h .sh)

/-- SB (R225). Stores rs[7:0] into local memory by read-modify-write. -/
def execSb (h : Hart) (s : State) : Host.Outcome State Fault Refusal :=
  .next (s.runHart h .sb)

/-- LDF (R229). Waits until a local word is full, reads it into rd and sets it empty. -/
def execLdf (h : Hart) (s : State) : Host.Outcome State Fault Refusal :=
  .next (s.runHart h .ldf)

/-- STE (R229). Waits until a local word is empty, writes rs and sets it full. -/
def execSte (h : Hart) (s : State) : Host.Outcome State Fault Refusal :=
  .next (s.runHart h .ste)

/-- CRD (R226). Reads a word of the tile's own control space into rd. -/
def execCrd (h : Hart) (s : State) : Host.Outcome State Fault Refusal :=
  .next (s.runHart h .crd)

/-- CWR (R227). Writes rs into the tile's own control space under R202, setting WREF when refused. -/
def execCwr (h : Hart) (s : State) : Host.Outcome State Fault Refusal :=
  .next (s.runHart h .cwr)

/-- RLW (R239). Sends a remote read on C0 and blocks in M until its response arrives. -/
def execRlw (h : Hart) (s : State) : Host.Outcome State Fault Refusal :=
  .next (s.runHart h .rlw)

/-- RSW (R240). Sends a posted remote word store on C0, taking a completion credit. -/
def execRsw (h : Hart) (s : State) : Host.Outcome State Fault Refusal :=
  .next (s.runHart h .rsw)

/-- RSH (R240). Sends a posted remote half-word store on C0. -/
def execRsh (h : Hart) (s : State) : Host.Outcome State Fault Refusal :=
  .next (s.runHart h .rsh)

/-- RSB (R240). Sends a posted remote byte store on C0. -/
def execRsb (h : Hart) (s : State) : Host.Outcome State Fault Refusal :=
  .next (s.runHart h .rsb)

/-- RCOPY (R241). Reads 1 to 32 local words and sends them as one long posted WR_MEM packet. -/
def execRcopy (h : Hart) (s : State) : Host.Outcome State Fault Refusal :=
  .next (s.runHart h .rcopy)

/-- RLDF (R242). Sends FE_LD to a remote word and blocks until served, NAKed or failed. -/
def execRldf (h : Hart) (s : State) : Host.Outcome State Fault Refusal :=
  .next (s.runHart h .rldf)

/-- RSTE (R242). Sends FE_ST with rs to a remote word and blocks until served, NAKed or failed. -/
def execRste (h : Hart) (s : State) : Host.Outcome State Fault Refusal :=
  .next (s.runHart h .rste)

/-- SENDQ (R245). Sends the value of ra as a one-word C2 message to a target queue. -/
def execSendq (h : Hart) (s : State) : Host.Outcome State Fault Refusal :=
  .next (s.runHart h .sendq)

/-- SENDQ2 (R245). Sends ra then rb as a two-word C2 message to a target queue. -/
def execSendq2 (h : Hart) (s : State) : Host.Outcome State Fault Refusal :=
  .next (s.runHart h .sendq2)

/-- SENDQM (R245). Sends 1 to 8 words from local memory as one C2 message. -/
def execSendqm (h : Hart) (s : State) : Host.Outcome State Fault Refusal :=
  .next (s.runHart h .sendqm)

/-- REMFENCE (R238). Waits until every earlier posted C0 packet is acknowledged, raising REMOTE if the error latch
is set. -/
def execRemfence (h : Hart) (s : State) : Host.Outcome State Fault Refusal :=
  .next (s.runHart h .remfence)

/-- GAXY (R234). Replaces the Y and X fields of the GA in a register pair. -/
def execGaxy (h : Hart) (s : State) : Host.Outcome State Fault Refusal :=
  .next (s.runHart h .gaxy)

/-- QTRY (R246). Pops the head word of a queue into a pair with a valid flag, or reports empty without stalling. -/
def execQtry (h : Hart) (s : State) : Host.Outcome State Fault Refusal :=
  .next (s.runHart h .qtry)

/-- QCNT (R247). Writes the number of words in a queue into rd. -/
def execQcnt (h : Hart) (s : State) : Host.Outcome State Fault Refusal :=
  .next (s.runHart h .qcnt)

/-- BARRIVE (R250). Enters a barrier id in the pending table and schedules its arrival packet. -/
def execBarrive (h : Hart) (s : State) : Host.Outcome State Fault Refusal :=
  .next (s.runHart h .barrive)

/-- BARWAIT (R252). Waits for the release of a pending barrier id and then removes the entry. -/
def execBarwait (h : Hart) (s : State) : Host.Outcome State Fault Refusal :=
  .next (s.runHart h .barwait)

/-- BARTEST (R253). Reports without stalling whether the release of a pending id has arrived. -/
def execBartest (h : Hart) (s : State) : Host.Outcome State Fault Refusal :=
  .next (s.runHart h .bartest)

end Sys2Proof.Machine
end

