-- ==== Sys2Proof/Machine/CmdMesh.lean ====
section
/-! DEFINITION. Routers, links and credits (9.1 to 9.7): one meaning per command. -/

namespace Sys2Proof.Machine

/-- ROUTER_FORWARD (R355). A router checks an arriving flit and forwards the packet on its route and lane. -/
def execRouterForward (l : LaneId) (e : FlitErr) (s : State) : Host.Outcome State Fault Refusal :=
  .next (s.clocked (s.forward l.r.val l.port l.ch.val l.b e))

/-- HOP_REPLAY (R362). A sender receiving a replay request resends its kept flits from the failed one. -/
def execHopReplay (l : LaneId) (s : State) : Host.Outcome State Fault Refusal :=
  .next (s.clocked (s.hopReplay l.r.val l.port))

/-- CREDIT_RETURN (R85). A returned credit raises the sender's counter and resumes a stalled producer. -/
def execCreditReturn (l : LaneId) (ue : Bool) (s : State) : Host.Outcome State Fault Refusal :=
  .next (s.clocked (s.creditArrive l.r.val l.port l.ch.val l.b ue))

/-- FE_RETRY (R203). After the backoff expires the tile resends a NAKed full/empty request. -/
def execFeRetry (t : TileId) (s : State) : Host.Outcome State Fault Refusal :=
  .next (s.clocked (if (s.tile t.val).rst then s else s.feRetry t.val))

end Sys2Proof.Machine
end

