-- ==== Sys2Proof/Machine/CmdPacket.lean ====
section
/-! DEFINITION. Packets that a target takes (Tables 9.4, 10.4): one meaning per command. -/

namespace Sys2Proof.Machine

/-- RD_MEM (R347). A target tile reads a memory word and answers RESP with data. -/
def execRdMem (t : TileId) (s : State) : Host.Outcome State Fault Refusal :=
  .next (s.clocked (s.takeRdMem t.val))

/-- RD_CTL (R61). A target tile reads a control word under its read rule and answers RESP. -/
def execRdCtl (t : TileId) (s : State) : Host.Outcome State Fault Refusal :=
  .next (s.clocked (s.takeRdCtl t.val))

/-- RD_FLD (R684). A field controller reads a register of its space and answers RESP. -/
def execRdFld (f : FieldId) (s : State) : Host.Outcome State Fault Refusal :=
  .next (s.clocked (s.takeRdFld f.val))

/-- RD_PRS (R499). A Press gate reads scratch or a PRS_ register and answers RESP. -/
def execRdPrs (c : ClusterId) (s : State) : Host.Outcome State Fault Refusal :=
  .next (s.clocked (s.takeRdPrs c.val))

/-- RD_RIM (R469). A Rim register read relayed through the field controller, answered RESP. -/
def execRdRim (f : FieldId) (s : State) : Host.Outcome State Fault Refusal :=
  .next (s.clocked (s.takeRdRim f.val))

/-- RD_WDN (R511). A Warden-space read relayed by the field controller as proxy, answered RESP. -/
def execRdWdn (f : FieldId) (s : State) : Host.Outcome State Fault Refusal :=
  .next (s.clocked (s.takeRdWdn f.val))

/-- FE_LD (R382). A target performs LDF on a full word and answers, or parks or NAKs the operation. -/
def execFeLd (t : TileId) (s : State) : Host.Outcome State Fault Refusal :=
  .next (s.clocked (s.takeFeLd t.val))

/-- FE_ST (R382). A target performs STE on an empty word and answers, or parks or NAKs the operation. -/
def execFeSt (t : TileId) (s : State) : Host.Outcome State Fault Refusal :=
  .next (s.clocked (s.takeFeSt t.val))

/-- WR_MEM (R409). A target writes 1 to 32 words and answers ACK once visible. -/
def execWrMem (t : TileId) (s : State) : Host.Outcome State Fault Refusal :=
  .next (s.clocked (s.takeWrMem t.val))

/-- WR_CTL (R202). A target applies a control write under its register's rule and answers ACK. -/
def execWrCtl (t : TileId) (s : State) : Host.Outcome State Fault Refusal :=
  .next (s.clocked (s.takeWrCtl t.val))

/-- WR_FLD (R684). A field controller applies a register write and answers ACK. -/
def execWrFld (f : FieldId) (s : State) : Host.Outcome State Fault Refusal :=
  .next (s.clocked (s.wrFldCmd f.val))

/-- WR_PRS (R499). A Press gate applies a scratch or PRS_ write and answers ACK. -/
def execWrPrs (c : ClusterId) (s : State) : Host.Outcome State Fault Refusal :=
  .next (s.clocked (s.takeWrPrs c.val))

/-- WR_RIM (R684). A Rim register write relayed to the die and answered ACK. -/
def execWrRim (f : FieldId) (s : State) : Host.Outcome State Fault Refusal :=
  .next (s.clocked (s.takeWrRim f.val))

/-- WR_WDN (R501). A Warden-space write relayed to the Warden and answered ACK. -/
def execWrWdn (f : FieldId) (s : State) : Host.Outcome State Fault Refusal :=
  .next (s.clocked (s.takeWrWdn f.val))

/-- WR_H (R182). A target writes a half-word by read-modify-write and answers ACK. -/
def execWrH (t : TileId) (s : State) : Host.Outcome State Fault Refusal :=
  .next (s.clocked (s.takeWrSub t.val opWrH 2))

/-- WR_B (R182). A target writes a byte by read-modify-write and answers ACK. -/
def execWrB (t : TileId) (s : State) : Host.Outcome State Fault Refusal :=
  .next (s.clocked (s.takeWrSub t.val opWrB 1))

/-- QMSG (R177). A C2 message enters its target queue whole once room exists and is answered ACK. -/
def execQmsg (t : TileId) (s : State) : Host.Outcome State Fault Refusal :=
  .next (s.clocked (s.takeQmsg t.val))

/-- RESP (R243). The issuer takes a response and completes, retries or faults its blocking request. -/
def execResp (k : Taker) (s : State) : Host.Outcome State Fault Refusal :=
  .next (s.clocked (s.takeRespAt k))

/-- ACK (R237). The issuer takes an acknowledgement, frees the completion credit and latches any error. -/
def execAck (k : Taker) (s : State) : Host.Outcome State Fault Refusal :=
  .next (s.clocked (s.takeAckAt k))

/-- ARRIVE (R399). A field node counts an arrival and completes the instance when REMAIN reaches 0. -/
def execArrive (f : FieldId) (s : State) : Host.Outcome State Fault Refusal :=
  .next (s.clocked (s.barArrive s.sku f.val))

/-- FDONE (R400). A root counts a field completion and releases or sends PDONE when REMAINF reaches 0. -/
def execFdone (f : FieldId) (s : State) : Host.Outcome State Fault Refusal :=
  .next (s.clocked (s.barFdone f.val))

/-- PDONE (R401). A system root counts a Plate completion and sends PRELEASE when REMAINP reaches 0. -/
def execPdone (f : FieldId) (s : State) : Host.Outcome State Fault Refusal :=
  .next (s.clocked (s.barPdone f.val))

/-- PRELEASE (R401). A Plate root receiving PRELEASE sends RELEASE_F with its LASTF. -/
def execPrelease (f : FieldId) (s : State) : Host.Outcome State Fault Refusal :=
  .next (s.clocked (s.barPrelease f.val))

/-- RELEASE_F (R402). A field node takes the Plate release multicast and sends RELEASE_T in its field. -/
def execReleaseF (f : FieldId) (s : State) : Host.Outcome State Fault Refusal :=
  .next (s.clocked (s.barReleaseF s.sku f.val))

/-- RELEASE_T (R404). A tile or gate marks the matching sent pending entry as released. -/
def execReleaseT (k : Taker) (s : State) : Host.Outcome State Fault Refusal :=
  .next (s.clocked (s.takeReleaseAt k))

/-- MGMT (R507). A management packet passes between the Warden and the Rim dies and is relayed to Krovas or
firmware. -/
def execMgmt (d : DieId) (s : State) : Host.Outcome State Fault Refusal :=
  .next (s.clocked (s.takeMgmt d.val))

end Sys2Proof.Machine
end

