-- ==== Sys2Proof/Machine/CmdPress.lean ====
section
/-! DEFINITION. Press gates, cores and cluster registers (12.1 to 12.6): one meaning per command. -/

namespace Sys2Proof.Machine

/-- GATE_INBOUND (R476). A Press gate admits a C0 or C2 packet with an allowed key or answers KEY_DROP. -/
def execGateInbound (c : ClusterId) (ch : Chan) (s : State) : Host.Outcome State Fault Refusal :=
  .next (s.clocked (s.gateInbound c.val ch.val))

/-- GATE_FE_RETRY (R483). The gate retries a NAKed full/empty access after its backoff. -/
def execGateFeRetry (c : ClusterId) (k : CoreId) (s : State) : Host.Outcome State Fault Refusal :=
  .next (s.clocked (s.gateRetry c.val k.val))

/-- GATE_TAG_IDLE (R612). A freed gate tag becomes reusable after 1 ms idle. -/
def execGateTagIdle (c : ClusterId) (g : (Fin 64)) (s : State) : Host.Outcome State Fault Refusal :=
  .next (s.clocked (s.gateTagIdle c.val g.val))

/-- INTERRUPT_TAKE (R492). A pending enabled interrupt traps the Press core to M or S. -/
def execInterruptTake (c : ClusterId) (k : CoreId) (s : State) : Host.Outcome State Fault Refusal :=
  .next (s.clocked (s.takeIrq c.val k.val))

/-- TIMER_INTERRUPT (R490). TIME reaching M_TCMP makes interrupt 1 pending. -/
def execTimerInterrupt (c : ClusterId) (k : CoreId) (s : State) : Host.Outcome State Fault Refusal :=
  .next (s.clocked (s.timerTo c.val k.val))

/-- PRS_CLK_WRITE (R497). A write of the cluster clock target, refused outside 8 to 24. -/
def execPrsClkWrite (p : Party) (c : ClusterId) (v : W32) (s : State) : Host.Outcome State Fault Refusal :=
  .next (s.clocked (s.prsWr p c.val 0x14 v))

/-- CLUSTER_CLK_DONE (R497). A cluster clock change completes within 20 µs. -/
def execClusterClkDone (c : ClusterId) (s : State) : Host.Outcome State Fault Refusal :=
  .next (s.clocked (if (s.prs c.val).rst then s else s.modPrs c.val (·.clkDone)))

/-- CORE_RELEASE (R498). Clearing a HOLD bit starts the core at Machine level at PRS_BOOTVEC. -/
def execCoreRelease (p : Party) (c : ClusterId) (k : CoreId) (s : State) : Host.Outcome State Fault Refusal :=
  .next (s.clocked (s.holdWr p c.val k.val false))

/-- CORE_HOLD (R498). Setting a HOLD bit resets a running core at once. -/
def execCoreHold (p : Party) (c : ClusterId) (k : CoreId) (s : State) : Host.Outcome State Fault Refusal :=
  .next (s.clocked (s.holdWr p c.val k.val true))

/-- L3LOCK_APPLY (R488). A change of locked L3 ways takes effect once accesses in flight complete. -/
def execL3lockApply (c : ClusterId) (s : State) : Host.Outcome State Fault Refusal :=
  .next (s.clocked (if (s.prs c.val).rst then s else s.modPrs c.val (·.applyWays)))

/-- PRS_FWIN_WRITE (R481). A write of a far window GA, refused for space 0x8 and above. -/
def execPrsFwinWrite (p : Party) (c : ClusterId) (n : (Fin 16)) (v : W64) (s : State) : Host.Outcome State Fault Refusal :=
  .next (s.clocked (s.fwinWr p c.val n.val v))

/-- DOORBELL (R499). A W1S write of PRS_DBn makes the core's doorbell interrupt pending. -/
def execDoorbell (p : Party) (c : ClusterId) (k : CoreId) (v : W32) (s : State) : Host.Outcome State Fault Refusal :=
  .next (s.clocked (s.prsWr p c.val (0x400 + 4 * k.val) v))

/-- DOORBELL_CLEAR (R499). A write of PRS_DBCLRn clears doorbell bits. -/
def execDoorbellClear (p : Party) (c : ClusterId) (k : CoreId) (v : W32) (s : State) : Host.Outcome State Fault Refusal :=
  .next (s.clocked (s.prsWr p c.val (0x410 + 4 * k.val) v))

/-- PRS_IPI_WRITE (R499). A write of PRS_IPI sets or clears software interrupts per core. -/
def execPrsIpiWrite (p : Party) (c : ClusterId) (v : W32) (s : State) : Host.Outcome State Fault Refusal :=
  .next (s.clocked (s.prsWr p c.val 0x420 v))

end Sys2Proof.Machine
end

