-- ==== Sys2Proof/Machine/CmdPressIsa.lean ====
section
/-! DEFINITION. Instructions of the Press cores (Table 12.4): one meaning per command. -/

namespace Sys2Proof.Machine

/-- LD (R489). Loads 8 bytes into a 64-bit Press register. -/
def execLd (h : Hart) (s : State) : Host.Outcome State Fault Refusal :=
  .next (s.runHart h .ld)

/-- SD (R489). Stores 8 bytes from a 64-bit Press register. -/
def execSd (h : Hart) (s : State) : Host.Outcome State Fault Refusal :=
  .next (s.runHart h .sd)

/-- PCRR (R490). Reads a Press control register, checking the level against its class. -/
def execPcrr (h : Hart) (s : State) : Host.Outcome State Fault Refusal :=
  .next (s.runHart h .pcrr)

/-- PCRW (R490). Writes a Press control register, checking the level against its class. -/
def execPcrw (h : Hart) (s : State) : Host.Outcome State Fault Refusal :=
  .next (s.runHart h .pcrw)

/-- SYSC (R491). Traps to a higher level with a service code in DETAIL. -/
def execSysc (h : Hart) (s : State) : Host.Outcome State Fault Refusal :=
  .next (s.runHart h .sysc)

/-- TRET (R491). Restores level and IEN from TSAVE and jumps to RPC. -/
def execTret (h : Hart) (s : State) : Host.Outcome State Fault Refusal :=
  .next (s.runHart h .tret)

/-- IDLE (R492). Waits until an enabled interrupt is pending. -/
def execIdle (h : Hart) (s : State) : Host.Outcome State Fault Refusal :=
  .next (s.runHart h .idle)

/-- PFENCE (R496). Waits for every earlier posted store of the core and traps on a latched remote error. -/
def execPfence (h : Hart) (s : State) : Host.Outcome State Fault Refusal :=
  .next (s.runHart h .pfence)

/-- XLINV (R495). Discards cached translations of the core, all or for one page. -/
def execXlinv (h : Hart) (s : State) : Host.Outcome State Fault Refusal :=
  .next (s.runHart h .xlinv)

/-- CINV (R487). Invalidates the tile-memory line holding a VA in the core's L2 and the L3. -/
def execCinv (h : Hart) (s : State) : Host.Outcome State Fault Refusal :=
  .next (s.runHart h .cinv)

/-- CINVALL (R487). Invalidates every tile-memory line in the core's L2 and the L3. -/
def execCinvall (h : Hart) (s : State) : Host.Outcome State Fault Refusal :=
  .next (s.runHart h .cinvall)

/-- ATSWP (R489). Atomically swaps a scratch doubleword with rb and returns the old value. -/
def execAtswp (h : Hart) (s : State) : Host.Outcome State Fault Refusal :=
  .next (s.runHart h .atswp)

/-- ATADD (R489). Atomically adds rb to a scratch doubleword and returns the old value. -/
def execAtadd (h : Hart) (s : State) : Host.Outcome State Fault Refusal :=
  .next (s.runHart h .atadd)

end Sys2Proof.Machine
end

