-- ==== Sys2Proof/Machine/CmdProof.lean ====
section
/-! DEFINITION. The Proof Console, and registers without a row of their own (chapter 17, R13): one meaning per command. -/

namespace Sys2Proof.Machine

/-- PRF_COMMIT_GO (R656). A GO write checks the shadows and sets PENDING. -/
def execPrfCommitGo (p : Party) (s : State) : Host.Outcome State Fault Refusal :=
  .next (s.clocked (s.prfWr p (fun x => x.wrGo 1#32)))

/-- LATCH_POINT (R655). The first pixel of vertical blanking increments PRF_FRAME. -/
def execLatchPoint (go : Bool) (fence : Bool) (s : State) : Host.Outcome State Fault Refusal :=
  .next (s.clocked ({ s with proof := s.proof.latch go fence }))

/-- PRF_MAP_FLIP_WRITE (R663). A write stores a flip request, replacing any pending one. -/
def execPrfMapFlipWrite (p : Party) (v : W32) (s : State) : Host.Outcome State Fault Refusal :=
  .next (s.clocked (s.prfWr p (fun x => x.wrFlip v)))

/-- PRF_FENCE_SIG_WRITE (R664). A write of the fence signal counter. -/
def execPrfFenceSigWrite (p : Party) (v : W32) (s : State) : Host.Outcome State Fault Refusal :=
  .next (s.clocked (s.prfWr p (fun x => x.wrFence v)))

/-- PRF_SHADOW_WRITE (R659). A write of a shadow register, refused while PENDING or reserved. -/
def execPrfShadowWrite (p : Party) (off : Nat) (v : W32) (s : State) : Host.Outcome State Fault Refusal :=
  .next (s.clocked (if off < 0x100 then s.prfWr p (fun x => x.wrShadow (off / 4) v) else s))

/-- PRF_PAL_WRITE (R674). A palette write shown from the next pixel that uses it. -/
def execPrfPalWrite (p : Party) (bank : Bool) (i : (BitVec 8)) (v : W32) (s : State) : Host.Outcome State Fault Refusal :=
  .next (s.clocked (s.prfWr p (fun x => x.wrPal bank i.toNat v)))

/-- PROOF_ENABLE (R669). Setting PRF_CTL.EN starts the timing generator when the timing is valid. -/
def execProofEnable (p : Party) (v : W32) (s : State) : Host.Outcome State Fault Refusal :=
  .next (s.clocked (s.prfWr p (fun x => x.wrCtl (setBit v 0 true))))

/-- PROOF_DISABLE (R661). Clearing EN applies pending commits and flips within 1 µs. -/
def execProofDisable (p : Party) (v : W32) (s : State) : Host.Outcome State Fault Refusal :=
  .next (s.clocked (s.prfWr p (fun x => x.wrCtl (setBit v 0 false))))

/-- PRF_PCLK_WRITE (R670). A write of the pixel clock while disabled. -/
def execPrfPclkWrite (p : Party) (v : W32) (s : State) : Host.Outcome State Fault Refusal :=
  .next (s.clocked (s.prfWr p (fun x => x.wrPclk v)))

/-- PIXEL_PLL_LOCK (R670). The pixel PLL locks and sets LOCK. -/
def execPixelPllLock (s : State) : Host.Outcome State Fault Refusal :=
  .next (s.clocked ({ s with proof := s.proof.pllLock }))

/-- HPD_CHANGE (R671). A change of hot-plug detect sets HPDCHG. -/
def execHpdChange (level : Bool) (s : State) : Host.Outcome State Fault Refusal :=
  .next (s.clocked ({ s with proof := s.proof.hpdSet level }))

/-- AUX_REQUEST (R668). A write of PRF_AUX_CTL.GO starts an AUX transaction. -/
def execAuxRequest (p : Party) (v : W32) (s : State) : Host.Outcome State Fault Refusal :=
  .next (s.clocked (s.prfWr p (fun x => x.wrAux v)))

/-- AUX_DONE (R668). An AUX reply or timeout completes the transaction. -/
def execAuxDone (timeout : Bool) (code : (BitVec 4)) (b : Bytes) (s : State) : Host.Outcome State Fault Refusal :=
  .next (s.clocked ({ s with proof := s.proof.auxDone timeout code.toNat b }))

/-- COMPOSE_LINE (R650). The compositor fetches and blends the layers for a displayed line. -/
def execComposeLine (y : Nat) (s : State) : Host.Outcome State Fault Refusal :=
  .next (s.clocked (s.composeLine y))

/-- REGISTER_WRITE (R13). A write to a register without a row of its own, under its access code and refusal rules. -/
def execRegisterWrite (p : Party) (ga : W64) (v : W64) (wide : Bool) (s : State) : Host.Outcome State Fault Refusal :=
  .next (s.clocked (s.regWrite p ga v wide))

end Sys2Proof.Machine
end

