-- ==== Sys2Proof/Machine/CmdReset.lean ====
section
/-! DEFINITION. Resets, bring-up and dead fields (chapter 4): one meaning per command. -/

namespace Sys2Proof.Machine

/-- POR_ASSERT (R112). A Warden supply leaves regulation and POR is asserted. -/
def execPorAssert (s : State) : Host.Outcome State Fault Refusal :=
  .next (s.porAssert)

/-- POR_RELEASE (R112). Supplies and reference present for 1 ms release POR. -/
def execPorRelease (s : State) : Host.Outcome State Fault Refusal :=
  .next (s.porRelease)

/-- TRAY_RST_ASSERT (R113). A filtered low level on TRAY_RST_N starts TRAY. -/
def execTrayRstAssert (ns : Nat) (s : State) : Host.Outcome State Fault Refusal :=
  .next (s.trayAssert ns)

/-- TRAY_RST_RELEASE (R113). TRAY_RST_N returning high releases TRAY. -/
def execTrayRstRelease (s : State) : Host.Outcome State Fault Refusal :=
  .next (s.trayRelease)

/-- REF_LOSS (R134). No reference edge for 1 µs asserts PLATE_RST_OUT and sets REFLOSS. -/
def execRefLoss (s : State) : Host.Outcome State Fault Refusal :=
  .next (s.refLoss)

/-- REF_RESTORED (R134). The reference present again for 1 ms makes the reset controller perform TRAY. -/
def execRefRestored (s : State) : Host.Outcome State Fault Refusal :=
  .next (s.refRestored)

/-- PLATE_RESET (R115). A firmware write of WDN_RST_CTL.PLATE starts a PLATE reset. -/
def execPlateReset (p : Party) (s : State) : Host.Outcome State Fault Refusal :=
  .next (s.clocked (s.wdnWr p 0x300 1#32))

/-- RST_GO (R136). A write of WDN_RST_CTL.GO after stage 4 lets the field waves begin. -/
def execRstGo (p : Party) (s : State) : Host.Outcome State Fault Refusal :=
  .next (s.clocked (s.wdnWr p 0x300 2#32))

/-- FIELD_RESET (R144). An accepted write of WDN_RST_FIELD resets one field. -/
def execFieldReset (p : Party) (v : W32) (s : State) : Host.Outcome State Fault Refusal :=
  .next (s.clocked (s.wdnWr p 0x30C v))

/-- FIELD_RESET_DONE (R144). The reset field reaches its operating point, reports done and BUSY clears. -/
def execFieldResetDone (f : FieldId) (s : State) : Host.Outcome State Fault Refusal :=
  .next (s.clocked (s.fieldDone f.val))

/-- TILE_RESET (R145). An accepted write of WDN_RST_TILE resets one tile's core state for 16 cycles. -/
def execTileReset (p : Party) (v : W32) (s : State) : Host.Outcome State Fault Refusal :=
  .next (s.clocked (s.wdnWr p 0x310 v))

/-- RESET_STAGE_ADVANCE (R135). A counted release gap expires and the next stage of the release order begins. -/
def execResetStageAdvance (s : State) : Host.Outcome State Fault Refusal :=
  .next (s.clocked s.stageAdvance)

/-- FIELD_WAVE_RELEASE (R137). A wave's field controllers are released, unless held for an unfinished earlier
wave. -/
def execFieldWaveRelease (s : State) : Host.Outcome State Fault Refusal :=
  .next (s.clocked s.waveRelease)

/-- TILE_SUBWAVE_RELEASE (R141). A timed sub-wave releases one quarter of a field's tile rows from reset. -/
def execTileSubwaveRelease (f : FieldId) (s : State) : Host.Outcome State Fault Refusal :=
  .next (s.clocked (s.subwave f.val))

/-- FIELD_PLL_LOCK (R77). A field PLL locks and the field switches glitch-free to it, setting LOCK. -/
def execFieldPllLock (f : FieldId) (s : State) : Host.Outcome State Fault Refusal :=
  .next (s.clocked (s.pllLock f.val))

/-- FIELD_PLL_TIMEOUT (R77). A field PLL unlocked after 200 µs leaves the field on the reference and reports it. -/
def execFieldPllTimeout (f : FieldId) (s : State) : Host.Outcome State Fault Refusal :=
  .next (s.clocked (s.pllTimeout f.val))

/-- DOMAIN_PLL_TIMEOUT (R132). A Rim or Press PLL unlocked after 200 µs keeps that domain in reset on the
reference. -/
def execDomainPllTimeout (m : Domain) (s : State) : Host.Outcome State Fault Refusal :=
  .next (s.clocked (s.domTimeout m))

/-- REGULATOR_TIMEOUT (R153). A field regulator not in regulation 100 µs after enable makes the field dead. -/
def execRegulatorTimeout (f : FieldId) (s : State) : Host.Outcome State Fault Refusal :=
  .next (s.clocked (s.regTimeout f.val))

/-- STYLUS_ACK_TIMEOUT (R153). No Stylus acknowledgement of reset within 10 µs makes the field dead. -/
def execStylusAckTimeout (f : FieldId) (s : State) : Host.Outcome State Fault Refusal :=
  .next (s.clocked (s.ackTimeout f.val))

/-- FIELD_INIT_TIMEOUT (R153). Field sequence steps 1 to 3 incomplete after 100 µs make the field dead. -/
def execFieldInitTimeout (f : FieldId) (s : State) : Host.Outcome State Fault Refusal :=
  .next (s.clocked (s.initTimeout f.val))

/-- WDN_FLD_DEAD_WRITE (R153). Warden firmware sets a field's dead bit. -/
def execWdnFldDeadWrite (p : Party) (hi : Bool) (v : W32) (s : State) : Host.Outcome State Fault Refusal :=
  .next (s.clocked (s.wdnBy p (fun s => s.wrFldDead p hi v)))

/-- WDN_FLD_UNAV_WRITE (R155). Warden firmware sets a field's unavailable bit. -/
def execWdnFldUnavWrite (p : Party) (hi : Bool) (v : W32) (s : State) : Host.Outcome State Fault Refusal :=
  .next (s.clocked (s.wdnBy p (fun s => s.wrFldUnav p hi v)))

/-- WDN_RST_GAP_WRITE (R150). A write of a release gap, refused below its minimum and used from the next gap. -/
def execWdnRstGapWrite (p : Party) (n : (Fin 9)) (v : W32) (s : State) : Host.Outcome State Fault Refusal :=
  .next (s.clocked (s.wdnWr p (0x340 + 4 * n.val) v))

/-- WDN_KEEP_WRITE (R127). An atomic 64-bit write of a keep register or Ground by an allowed party. -/
def execWdnKeepWrite (p : Party) (off : Nat) (v : W64) (s : State) : Host.Outcome State Fault Refusal :=
  .next (s.clocked (s.keepWr p off v))

/-- WDN_RST_CAUSE_WRITE (R156). A W1C write of reset-cause bits from an allowed party. -/
def execWdnRstCauseWrite (p : Party) (v : W32) (s : State) : Host.Outcome State Fault Refusal :=
  .next (s.clocked (s.wdnWr p 0x308 v))

/-- TAP_RESET (R152). TRST* resets the TAP controller without any other effect. -/
def execTapReset (s : State) : Host.Outcome State Fault Refusal :=
  .next s.tapReset

/-- DOMAIN_PLL_LOCK (R131). A Rim die or Press cluster PLL locks and its domain switches without a glitch from the
reference to the PLL. -/
def execDomainPllLock (m : Domain) (s : State) : Host.Outcome State Fault Refusal :=
  .next (s.clocked (s.domLock m))

end Sys2Proof.Machine
end

