-- ==== Sys2Proof/Machine/CmdRim.lean ====
section
/-! DEFINITION. Rim dies, ports and links (chapter 11): one meaning per command. -/

namespace Sys2Proof.Machine

/-- RIM_DATA (R433). A Rim receiver accepts, discards or NAKs a data frame by its sequence number. -/
def execRimData (d : DieId) (n : PortId) (b : Bytes) (s : State) : Host.Outcome State Fault Refusal :=
  .next (s.clocked (s.rimData d.val n.val b))

/-- RIM_ACK (R435). An acknowledgement frees covered frames from the replay buffer and resets the replay count. -/
def execRimAck (d : DieId) (n : PortId) (b : Bytes) (s : State) : Host.Outcome State Fault Refusal :=
  .next (s.clocked (s.rimAck d.val n.val b))

/-- RIM_NAK (R435). A NAK makes the sender resend unacknowledged frames from its number. -/
def execRimNak (d : DieId) (n : PortId) (b : Bytes) (s : State) : Host.Outcome State Fault Refusal :=
  .next (s.clocked (s.rimNak d.val n.val b))

/-- RIM_CREDIT (R437). A CREDIT frame updates cumulative credit counts per channel and ring lane. -/
def execRimCredit (d : DieId) (n : PortId) (b : Bytes) (s : State) : Host.Outcome State Fault Refusal :=
  .next (s.clocked (s.rimCredit d.val n.val b))

/-- CREDIT_SEND (R437). At least every 200 ns a changed receiver sends a CREDIT frame. -/
def execCreditSend (d : DieId) (n : PortId) (s : State) : Host.Outcome State Fault Refusal :=
  .next (s.clocked (s.creditSend d.val n.val))

/-- LINK_ID (R451). A LINK_ID frame identifies the peer, completing retrain or sending the port DOWN on mismatch. -/
def execLinkId (d : DieId) (n : PortId) (b : Bytes) (s : State) : Host.Outcome State Fault Refusal :=
  .next (s.clocked (s.rimLinkId d.val n.val b))

/-- REPLAY_TIMER (R435). The 1.5 µs replay timer expires and the sender replays or begins retraining. -/
def execReplayTimer (d : DieId) (n : PortId) (s : State) : Host.Outcome State Fault Refusal :=
  .next (s.clocked (s.replayTimer d.val n.val))

/-- RETRAIN_TIMEOUT (R436). A retrain not complete in 5 ms sends the port DOWN. -/
def execRetrainTimeout (d : DieId) (n : PortId) (s : State) : Host.Outcome State Fault Refusal :=
  .next (s.clocked (s.retrainTimeout d.val n.val))

/-- FAILOVER_REQ (R444). The peer answers a failover request with the last SEQ it accepted. -/
def execFailoverReq (d : DieId) (n : PortId) (b : Bytes) (s : State) : Host.Outcome State Fault Refusal :=
  .next (s.clocked (s.foReqIn d.val n.val b))

/-- FAILOVER_RSP (R444). The sender discards frames up to LASTRX and resends the rest, then releases held buckets. -/
def execFailoverRsp (d : DieId) (n : PortId) (b : Bytes) (s : State) : Host.Outcome State Fault Refusal :=
  .next (s.clocked (s.foRspIn d.val n.val b))

/-- FAILOVER_REQ_REPEAT (R444). Every 10 µs without FAILOVER_RSP the request is sent again. -/
def execFailoverReqRepeat (d : DieId) (s : State) : Host.Outcome State Fault Refusal :=
  .next (s.clocked (s.foRepeat d.val))

/-- SIGNAL_LOSS (R449). A Rim port loses signal. -/
def execSignalLoss (d : DieId) (n : PortId) (s : State) : Host.Outcome State Fault Refusal :=
  .next (s.clocked (s.signalLoss d.val n.val))

/-- SIGNAL_RETURN (R450). Signal returns and every port retrains from SEQ 0 with fresh credits. -/
def execSignalReturn (d : DieId) (s : State) : Host.Outcome State Fault Refusal :=
  .next (s.clocked (s.signalReturn d.val))

/-- NEIGHBOUR_WAIT_TIMEOUT (R450). No signal in 12 ms, or no training in 5 ms, sets RINGBRK. -/
def execNeighbourWaitTimeout (d : DieId) (s : State) : Host.Outcome State Fault Refusal :=
  .next (s.clocked (s.neighbourTimeout d.val))

/-- RIM_BRIDGE_PACKET (R438). A Rim die takes a packet from a bridge, checks it and assigns it to a port by
bucket. -/
def execRimBridgePacket (d : DieId) (k : (Fin 48)) (ch : Chan) (s : State) : Host.Outcome State Fault Refusal :=
  .next (s.clocked (s.rimBridge d.val k.val ch.val))

/-- RIMX_TOPO_WRITE (R425). Warden firmware assigns the Plate id and torus size, copied to every field controller. -/
def execRimxTopoWrite (p : Party) (d : DieId) (v : W32) (s : State) : Host.Outcome State Fault Refusal :=
  .next (s.clocked (s.rimWrite d.val p 0x0 v))

/-- PORT_ENABLE (R470). A write of RIMx_PCFGn with EN 1 configures and starts a port. -/
def execPortEnable (p : Party) (d : DieId) (n : PortId) (v : W32) (s : State) : Host.Outcome State Fault Refusal :=
  .next (s.clocked (s.rimWrite d.val p (0x100 + 0x20 * n.val) (setBit v 0 true)))

/-- PORT_DISABLE (R447). A write clearing EN disables a port, allowing a DOWN port to be re-enabled. -/
def execPortDisable (p : Party) (d : DieId) (n : PortId) (v : W32) (s : State) : Host.Outcome State Fault Refusal :=
  .next (s.clocked (s.rimWrite d.val p (0x100 + 0x20 * n.val) (setBit v 0 false)))

/-- KSEL_SWITCH (R565). A write changing only KSEL switches a port to its other key slot. -/
def execKselSwitch (p : Party) (d : DieId) (n : PortId) (v : W32) (s : State) : Host.Outcome State Fault Refusal :=
  .next (s.clocked (s.rimWrite d.val p (0x100 + 0x20 * n.val) v))

/-- RIMX_KEYDROP_READ (R469). A read returns and clears the Rim key refusal count. -/
def execRimxKeydropRead (p : Party) (d : DieId) (s : State) : Host.Outcome State Fault Refusal :=
  .next (s.clocked (s.rimRd p d.val 0xC))

/-- RIMX_UNDELIV_READ (R469). A read returns and clears the undelivered count. -/
def execRimxUndelivRead (p : Party) (d : DieId) (s : State) : Host.Outcome State Fault Refusal :=
  .next (s.clocked (s.rimRd p d.val 0x10))

/-- RIMX_PERR_READ (R469). A read returns and clears a port's replay and CRC error counts. -/
def execRimxPerrRead (p : Party) (d : DieId) (n : PortId) (s : State) : Host.Outcome State Fault Refusal :=
  .next (s.clocked (s.rimRd p d.val (0x108 + 0x20 * n.val)))

/-- RIMX_PRETR_READ (R469). A read returns and clears a port's retrain count. -/
def execRimxPretrRead (p : Party) (d : DieId) (n : PortId) (s : State) : Host.Outcome State Fault Refusal :=
  .next (s.clocked (s.rimRd p d.val (0x10C + 0x20 * n.val)))

end Sys2Proof.Machine
end

