-- ==== Sys2Proof/Machine/CmdScalar.lean ====
section
/-! DEFINITION. Scalar arithmetic, branches and control (Tables 6.2, 6.4): one meaning per command. -/

namespace Sys2Proof.Machine

/-- ADD (R216). Writes the 32-bit sum of ra or a popped queue word and rb into rd. -/
def execAdd (h : Hart) (s : State) : Host.Outcome State Fault Refusal :=
  .next (s.runHart h .add)

/-- SUB (R216). Writes a minus b, modulo 2^32, into rd. -/
def execSub (h : Hart) (s : State) : Host.Outcome State Fault Refusal :=
  .next (s.runHart h .sub)

/-- AND (R216). Writes the bitwise AND of a and b into rd. -/
def execAnd (h : Hart) (s : State) : Host.Outcome State Fault Refusal :=
  .next (s.runHart h .and)

/-- OR (R216). Writes the bitwise OR of a and b into rd. -/
def execOr (h : Hart) (s : State) : Host.Outcome State Fault Refusal :=
  .next (s.runHart h .or)

/-- XOR (R216). Writes the bitwise XOR of a and b into rd. -/
def execXor (h : Hart) (s : State) : Host.Outcome State Fault Refusal :=
  .next (s.runHart h .xor)

/-- SLL (R216). Shifts a left by b[4:0] into rd. -/
def execSll (h : Hart) (s : State) : Host.Outcome State Fault Refusal :=
  .next (s.runHart h .sll)

/-- SRL (R216). Shifts a right logically by b[4:0] into rd. -/
def execSrl (h : Hart) (s : State) : Host.Outcome State Fault Refusal :=
  .next (s.runHart h .srl)

/-- SRA (R216). Shifts a right arithmetically by b[4:0] into rd. -/
def execSra (h : Hart) (s : State) : Host.Outcome State Fault Refusal :=
  .next (s.runHart h .sra)

/-- SLT (R216). Writes 1 into rd when a is less than b as signed values, else 0. -/
def execSlt (h : Hart) (s : State) : Host.Outcome State Fault Refusal :=
  .next (s.runHart h .slt)

/-- SLTU (R216). Writes 1 into rd when a is less than b as unsigned values, else 0. -/
def execSltu (h : Hart) (s : State) : Host.Outcome State Fault Refusal :=
  .next (s.runHart h .sltu)

/-- MUL (R216). Writes the low 32 bits of a times b into rd. -/
def execMul (h : Hart) (s : State) : Host.Outcome State Fault Refusal :=
  .next (s.runHart h .mul)

/-- MULH (R216). Writes the high 32 bits of the signed product into rd. -/
def execMulh (h : Hart) (s : State) : Host.Outcome State Fault Refusal :=
  .next (s.runHart h .mulh)

/-- MULHU (R216). Writes the high 32 bits of the unsigned product into rd. -/
def execMulhu (h : Hart) (s : State) : Host.Outcome State Fault Refusal :=
  .next (s.runHart h .mulhu)

/-- MIN (R216). Writes the signed minimum of a and b into rd. -/
def execMin (h : Hart) (s : State) : Host.Outcome State Fault Refusal :=
  .next (s.runHart h .min)

/-- MAX (R216). Writes the signed maximum of a and b into rd. -/
def execMax (h : Hart) (s : State) : Host.Outcome State Fault Refusal :=
  .next (s.runHart h .max)

/-- MINU (R216). Writes the unsigned minimum of a and b into rd. -/
def execMinu (h : Hart) (s : State) : Host.Outcome State Fault Refusal :=
  .next (s.runHart h .minu)

/-- MAXU (R216). Writes the unsigned maximum of a and b into rd. -/
def execMaxu (h : Hart) (s : State) : Host.Outcome State Fault Refusal :=
  .next (s.runHart h .maxu)

/-- CLZ (R216). Writes the count of leading zero bits of a into rd. -/
def execClz (h : Hart) (s : State) : Host.Outcome State Fault Refusal :=
  .next (s.runHart h .clz)

/-- POPC (R216). Writes the count of one bits of a into rd. -/
def execPopc (h : Hart) (s : State) : Host.Outcome State Fault Refusal :=
  .next (s.runHart h .popc)

/-- FADD (R217). Writes the binary32 sum of a and b, rounded to nearest even, into rd. -/
def execFadd (h : Hart) (s : State) : Host.Outcome State Fault Refusal :=
  .next (s.runHart h .fadd)

/-- FSUB (R217). Writes the binary32 difference of a and b into rd. -/
def execFsub (h : Hart) (s : State) : Host.Outcome State Fault Refusal :=
  .next (s.runHart h .fsub)

/-- FMUL (R217). Writes the binary32 product of a and b into rd. -/
def execFmul (h : Hart) (s : State) : Host.Outcome State Fault Refusal :=
  .next (s.runHart h .fmul)

/-- FMIN (R218). Writes the binary32 minimum, with NaN handling set by SZ1_MINMAX, into rd. -/
def execFmin (h : Hart) (s : State) : Host.Outcome State Fault Refusal :=
  .next (s.runHart h .fmin)

/-- FMAX (R218). Writes the binary32 maximum, with NaN handling set by SZ1_MINMAX, into rd. -/
def execFmax (h : Hart) (s : State) : Host.Outcome State Fault Refusal :=
  .next (s.runHart h .fmax)

/-- FEQ (R217). Writes 1 into rd when a equals b as binary32, 0 when unequal or NaN. -/
def execFeq (h : Hart) (s : State) : Host.Outcome State Fault Refusal :=
  .next (s.runHart h .feq)

/-- FLT (R217). Writes 1 into rd when a is less than b as binary32. -/
def execFlt (h : Hart) (s : State) : Host.Outcome State Fault Refusal :=
  .next (s.runHart h .flt)

/-- FLE (R217). Writes 1 into rd when a is less than or equal to b as binary32. -/
def execFle (h : Hart) (s : State) : Host.Outcome State Fault Refusal :=
  .next (s.runHart h .fle)

/-- FCVTWS (R219). Converts binary32 a to INT32 with saturation into rd. -/
def execFcvtws (h : Hart) (s : State) : Host.Outcome State Fault Refusal :=
  .next (s.runHart h .fcvtws)

/-- FCVTSW (R216). Converts INT32 a to binary32, rounded to nearest even, into rd. -/
def execFcvtsw (h : Hart) (s : State) : Host.Outcome State Fault Refusal :=
  .next (s.runHart h .fcvtsw)

/-- ADDI (R216). Adds the sign-extended or LIMM immediate to ra into rd. -/
def execAddi (h : Hart) (s : State) : Host.Outcome State Fault Refusal :=
  .next (s.runHart h .addi)

/-- ANDI (R216). ANDs the zero-extended immediate with ra into rd. -/
def execAndi (h : Hart) (s : State) : Host.Outcome State Fault Refusal :=
  .next (s.runHart h .andi)

/-- ORI (R216). ORs the zero-extended immediate with ra into rd. -/
def execOri (h : Hart) (s : State) : Host.Outcome State Fault Refusal :=
  .next (s.runHart h .ori)

/-- XORI (R216). XORs the zero-extended immediate with ra into rd. -/
def execXori (h : Hart) (s : State) : Host.Outcome State Fault Refusal :=
  .next (s.runHart h .xori)

/-- SLTI (R216). Signed compare of ra with the sign-extended immediate into rd. -/
def execSlti (h : Hart) (s : State) : Host.Outcome State Fault Refusal :=
  .next (s.runHart h .slti)

/-- SLTIU (R216). Unsigned compare of ra with the zero-extended immediate into rd. -/
def execSltiu (h : Hart) (s : State) : Host.Outcome State Fault Refusal :=
  .next (s.runHart h .sltiu)

/-- LUI (R216). Writes imm16 shifted left by 16 into rd. -/
def execLui (h : Hart) (s : State) : Host.Outcome State Fault Refusal :=
  .next (s.runHart h .lui)

/-- SLLI (R216). Shifts ra left by an immediate amount into rd. -/
def execSlli (h : Hart) (s : State) : Host.Outcome State Fault Refusal :=
  .next (s.runHart h .slli)

/-- SRLI (R216). Shifts ra right logically by an immediate amount into rd. -/
def execSrli (h : Hart) (s : State) : Host.Outcome State Fault Refusal :=
  .next (s.runHart h .srli)

/-- SRAI (R216). Shifts ra right arithmetically by an immediate amount into rd. -/
def execSrai (h : Hart) (s : State) : Host.Outcome State Fault Refusal :=
  .next (s.runHart h .srai)

/-- LIMM (R210). Supplies the upper half of a 32-bit immediate to the following instruction, executed with it as
one instruction. -/
def execLimm (h : Hart) (s : State) : Host.Outcome State Fault Refusal :=
  .next (s.runHart h .limm)

/-- BEQ (R221). Branches when ra equals rb. -/
def execBeq (h : Hart) (s : State) : Host.Outcome State Fault Refusal :=
  .next (s.runHart h .beq)

/-- BNE (R221). Branches when ra differs from rb. -/
def execBne (h : Hart) (s : State) : Host.Outcome State Fault Refusal :=
  .next (s.runHart h .bne)

/-- BLT (R221). Branches when ra is less than rb, signed. -/
def execBlt (h : Hart) (s : State) : Host.Outcome State Fault Refusal :=
  .next (s.runHart h .blt)

/-- BGE (R221). Branches when ra is greater than or equal to rb, signed. -/
def execBge (h : Hart) (s : State) : Host.Outcome State Fault Refusal :=
  .next (s.runHart h .bge)

/-- BLTU (R221). Branches when ra is less than rb, unsigned. -/
def execBltu (h : Hart) (s : State) : Host.Outcome State Fault Refusal :=
  .next (s.runHart h .bltu)

/-- BGEU (R221). Branches when ra is greater than or equal to rb, unsigned. -/
def execBgeu (h : Hart) (s : State) : Host.Outcome State Fault Refusal :=
  .next (s.runHart h .bgeu)

/-- JAL (R222). Writes the link value and jumps PC-relative, faulting ADDR for a target outside memory. -/
def execJal (h : Hart) (s : State) : Host.Outcome State Fault Refusal :=
  .next (s.runHart h .jal)

/-- JALR (R222). Writes the link value and jumps to ra plus immediate. -/
def execJalr (h : Hart) (s : State) : Host.Outcome State Fault Refusal :=
  .next (s.runHart h .jalr)

/-- HALT (R223). Completes, sets TILE_PC to the next address and moves the tile to HALTED. -/
def execHalt (h : Hart) (s : State) : Host.Outcome State Fault Refusal :=
  .next (s.runHart h .halt)

/-- BRK (R224). Raises the BREAK fault with DETAIL from imm16[7:0]. -/
def execBrk (h : Hart) (s : State) : Host.Outcome State Fault Refusal :=
  .next (s.runHart h .brk)

end Sys2Proof.Machine
end

