-- ==== Sys2Proof/Machine/CmdTile.lean ====
section
/-! DEFINITION. Tile registers, windows and background work (chapters 5, 8, 15): one meaning per command. -/

namespace Sys2Proof.Machine

/-- ECC_WRITEBACK (R185). The corrected word is written back at the bank's next free cycle. -/
def execEccWriteback (t : TileId) (s : State) : Host.Outcome State Fault Refusal :=
  .next (s.clocked (s.tileReg t.val (·.writeBack)))

/-- RUN (R158). TILE_CTL.RUN moves a STOPPED or HALTED tile to RUNNING at TILE_PC. -/
def execRun (p : Party) (t : TileId) (s : State) : Host.Outcome State Fault Refusal :=
  .next (s.clocked (s.tileWr p t.val 0x4 1#32))

/-- STOP (R160). TILE_CTL.STOP sets STOPPING and abandons locally stalled instructions. -/
def execStop (p : Party) (t : TileId) (s : State) : Host.Outcome State Fault Refusal :=
  .next (s.clocked (s.tileWr p t.val 0x4 2#32))

/-- STEP (R161). TILE_CTL.STEP executes one instruction and returns to STOPPED. -/
def execStep (p : Party) (t : TileId) (s : State) : Host.Outcome State Fault Refusal :=
  .next (s.clocked (s.tileWr p t.val 0x4 4#32))

/-- CLRF (R159). TILE_CTL.CLRF moves a FAULTED tile to STOPPED keeping the fault record. -/
def execClrf (p : Party) (t : TileId) (s : State) : Host.Outcome State Fault Refusal :=
  .next (s.clocked (s.tileWr p t.val 0x4 8#32))

/-- STOP_COMPLETE (R160). Once outstanding remote operations and the Lattice queue finish, the tile enters STOPPED
and streams pause. -/
def execStopComplete (t : TileId) (s : State) : Host.Outcome State Fault Refusal :=
  .next (s.clocked (s.tileReg t.val (·.stopComplete)))

/-- TILE_COMPAT_WRITE (R29). A write to TILE_COMPAT from a privileged writer while not RUNNING, refused otherwise
or when queues hold words. -/
def execTileCompatWrite (p : Party) (t : TileId) (v : W32) (s : State) : Host.Outcome State Fault Refusal :=
  .next (s.clocked (s.tileWr p t.val 0x14 v))

/-- TILE_ORIGIN_WRITE (R63). A write to TILE_ORIGIN, refused when misaligned or out of the Plate. -/
def execTileOriginWrite (p : Party) (t : TileId) (v : W32) (s : State) : Host.Outcome State Fault Refusal :=
  .next (s.clocked (s.tileWr p t.val 0x10 v))

/-- TILE_PC_WRITE (R686). A write to TILE_PC accepted only from privileged writers while not RUNNING. -/
def execTilePcWrite (p : Party) (t : TileId) (v : W32) (s : State) : Host.Outcome State Fault Refusal :=
  .next (s.clocked (s.tileWr p t.val 0xC v))

/-- TILE_FE_LIMIT_WRITE (R203). A write of the NAK backoff and retry limit, refused when BOFFMAX is below BOFF0. -/
def execTileFeLimitWrite (p : Party) (t : TileId) (v : W32) (s : State) : Host.Outcome State Fault Refusal :=
  .next (s.clocked (s.tileWr p t.val 0x18 v))

/-- REG_WINDOW_WRITE (R173). A privileged write to the scalar, vector or accumulator window while not RUNNING. -/
def execRegWindowWrite (p : Party) (t : TileId) (off : Nat) (v : W32) (s : State) : Host.Outcome State Fault Refusal :=
  .next (s.clocked (if isWin off then s.tileWr p t.val off v else s))

/-- FE_WINDOW_WRITE (R71). A write to the full/empty window that changes bits without waking waiters. -/
def execFeWindowWrite (p : Party) (t : TileId) (off : Nat) (v : W32) (s : State) : Host.Outcome State Fault Refusal :=
  .next (s.clocked (if 0x20000 ≤ off ∧ off < 0x20C00 then s.tileWr p t.val off v else s))

/-- TILE_QPOP (R178). A privileged read of TILE_QPOPn pops the head word and returns credit, or sets UNDER. -/
def execTileQpop (p : Party) (t : TileId) (q : QNum) (s : State) : Host.Outcome State Fault Refusal :=
  .next (s.clocked (s.tileRd p t.val (0x810 + 4 * q.val)))

/-- TILE_QPUSH (R178). A privileged write of TILE_QPUSHn appends a word to a queue while not RUNNING. -/
def execTileQpush (p : Party) (t : TileId) (q : QNum) (v : W32) (s : State) : Host.Outcome State Fault Refusal :=
  .next (s.clocked (s.tileWr p t.val (0x820 + 4 * q.val) v))

/-- PENDING_ENTRY_WRITE (R407). A privileged write of a pending-table entry while not RUNNING. -/
def execPendingEntryWrite (p : Party) (t : TileId) (n : (Fin 16)) (v : W32) (s : State) : Host.Outcome State Fault Refusal :=
  .next (s.clocked (s.tileWr p t.val (0xC00 + 4 * n.val) v))

/-- TILE_ECC_STAT_READ (R9). A read of TILE_ECC_STAT returns the ECC counts and clears them. -/
def execTileEccStatRead (p : Party) (t : TileId) (s : State) : Host.Outcome State Fault Refusal :=
  .next (s.clocked (s.tileRd p t.val 0x30))

/-- LATTICE_CMD_START (R287). The Lattice starts the next queued command in program order once its operands allow. -/
def execLatticeCmdStart (t : TileId) (s : State) : Host.Outcome State Fault Refusal :=
  .next (s.clocked (s.tileReg t.val (·.latStart)))

/-- LVM_BLOCK (R302). The Lattice performs one LVM block once both streams deliver its operands, dense or
skipping. -/
def execLvmBlock (t : TileId) (s : State) : Host.Outcome State Fault Refusal :=
  .next (s.clocked (if (s.tile t.val).rst then s else s.lvmBlock t.val))

/-- STREAM_VECTOR (R189). A stream unit reads or writes its next vector or slot when banks and credit allow. -/
def execStreamVector (t : TileId) (u : UnitId) (s : State) : Host.Outcome State Fault Refusal :=
  .next (s.clocked (if (s.tile t.val).rst then s else s.streamVector t.val u.val))

/-- STREAM_CMD_END (R297). A stream command ends, and the waiting command becomes active. -/
def execStreamCmdEnd (t : TileId) (u : UnitId) (s : State) : Host.Outcome State Fault Refusal :=
  .next (s.clocked (s.tileReg t.val (fun x => x.streamEnd u.val)))

/-- BURNISH_READ (R585). Every 2^RATE cycles Burnish reads the next word of a tile, correcting or recording
errors. -/
def execBurnishRead (t : TileId) (s : State) : Host.Outcome State Fault Refusal :=
  .next (s.clocked (s.burnish t.val))

end Sys2Proof.Machine
end

