-- ==== Sys2Proof/Machine/CmdVector.lean ====
section
/-! DEFINITION. Vector, Lattice and stream instructions (Tables 7.3 to 7.6): one meaning per command. -/

namespace Sys2Proof.Machine

/-- VLDB (R278). Loads 16 bytes into the low bytes of the lanes of a vector register. -/
def execVldb (h : Hart) (s : State) : Host.Outcome State Fault Refusal :=
  .next (s.runHart h .vldb)

/-- VLDH (R278). Loads 32 bytes into the 16 lanes of a vector register. -/
def execVldh (h : Hart) (s : State) : Host.Outcome State Fault Refusal :=
  .next (s.runHart h .vldh)

/-- VSTB (R278). Stores the low byte of each lane to local memory. -/
def execVstb (h : Hart) (s : State) : Host.Outcome State Fault Refusal :=
  .next (s.runHart h .vstb)

/-- VSTH (R278). Stores all 16 lanes to local memory. -/
def execVsth (h : Hart) (s : State) : Host.Outcome State Fault Refusal :=
  .next (s.runHart h .vsth)

/-- VADD (R280). Adds vectors lane by lane and narrows the results to FMT. -/
def execVadd (h : Hart) (s : State) : Host.Outcome State Fault Refusal :=
  .next (s.runHart h .vadd)

/-- VSUB (R280). Subtracts vectors lane by lane and narrows the results to FMT. -/
def execVsub (h : Hart) (s : State) : Host.Outcome State Fault Refusal :=
  .next (s.runHart h .vsub)

/-- VMUL (R280). Multiplies vectors lane by lane and narrows the results to FMT. -/
def execVmul (h : Hart) (s : State) : Host.Outcome State Fault Refusal :=
  .next (s.runHart h .vmul)

/-- VMIN (R280). Selects the per-lane minimum under R265. -/
def execVmin (h : Hart) (s : State) : Host.Outcome State Fault Refusal :=
  .next (s.runHart h .vmin)

/-- VMAX (R280). Selects the per-lane maximum under R265. -/
def execVmax (h : Hart) (s : State) : Host.Outcome State Fault Refusal :=
  .next (s.runHart h .vmax)

/-- VMOV (R281). Copies all 256 bits of one vector register into another. -/
def execVmov (h : Hart) (s : State) : Host.Outcome State Fault Refusal :=
  .next (s.runHart h .vmov)

/-- VSPLAT (R281). Writes a scalar element into every lane of a vector register. -/
def execVsplat (h : Hart) (s : State) : Host.Outcome State Fault Refusal :=
  .next (s.runHart h .vsplat)

/-- VEXT (R281). Writes one lane of a vector, zero-extended, into a scalar register. -/
def execVext (h : Hart) (s : State) : Host.Outcome State Fault Refusal :=
  .next (s.runHart h .vext)

/-- VINS (R281). Writes a scalar value into one lane of a vector register. -/
def execVins (h : Hart) (s : State) : Host.Outcome State Fault Refusal :=
  .next (s.runHart h .vins)

/-- VCVT (R282). Converts each lane from a source format to the destination FMT. -/
def execVcvt (h : Hart) (s : State) : Host.Outcome State Fault Refusal :=
  .next (s.runHart h .vcvt)

/-- SCVTF (R283). Converts a scalar element of format FMT to binary32. -/
def execScvtf (h : Hart) (s : State) : Host.Outcome State Fault Refusal :=
  .next (s.runHart h .scvtf)

/-- SCVTN (R283). Converts a binary32 scalar to format FMT. -/
def execScvtn (h : Hart) (s : State) : Host.Outcome State Fault Refusal :=
  .next (s.runHart h .scvtn)

/-- LMAC (R293). Queues a Lattice command that adds 16 products of two vectors to an accumulator. -/
def execLmac (h : Hart) (s : State) : Host.Outcome State Fault Refusal :=
  .next (s.runHart h .lmac)

/-- LMACS (R293). Queues a Lattice command that adds a scalar times a vector to an accumulator. -/
def execLmacs (h : Hart) (s : State) : Host.Outcome State Fault Refusal :=
  .next (s.runHart h .lmacs)

/-- LZERO (R293). Queues a Lattice command that clears an accumulator. -/
def execLzero (h : Hart) (s : State) : Host.Outcome State Fault Refusal :=
  .next (s.runHart h .lzero)

/-- LMOV (R293). Queues a Lattice command that copies one accumulator to another. -/
def execLmov (h : Hart) (s : State) : Host.Outcome State Fault Refusal :=
  .next (s.runHart h .lmov)

/-- LADD (R293). Queues a Lattice command that adds one accumulator into another. -/
def execLadd (h : Hart) (s : State) : Host.Outcome State Fault Refusal :=
  .next (s.runHart h .ladd)

/-- LMAXA (R293). Queues a Lattice command taking the lane-wise maximum of two accumulators. -/
def execLmaxa (h : Hart) (s : State) : Host.Outcome State Fault Refusal :=
  .next (s.runHart h .lmaxa)

/-- LMINA (R293). Queues a Lattice command taking the lane-wise minimum of two accumulators. -/
def execLmina (h : Hart) (s : State) : Host.Outcome State Fault Refusal :=
  .next (s.runHart h .lmina)

/-- LWID (R293). Queues a Lattice command that widens a vector into an accumulator. -/
def execLwid (h : Hart) (s : State) : Host.Outcome State Fault Refusal :=
  .next (s.runHart h .lwid)

/-- LCVT (R293). Queues a Lattice command that scales and narrows an accumulator into a vector register. -/
def execLcvt (h : Hart) (s : State) : Host.Outcome State Fault Refusal :=
  .next (s.runHart h .lcvt)

/-- LCVTQ (R293). Queues a Lattice command that scales and narrows an FP32 accumulator to INT8. -/
def execLcvtq (h : Hart) (s : State) : Host.Outcome State Fault Refusal :=
  .next (s.runHart h .lcvtq)

/-- LVM (R301). Waits for two active read streams, checks their formats and queues a stream multiply of count
blocks. -/
def execLvm (h : Hart) (s : State) : Host.Outcome State Fault Refusal :=
  .next (s.runHart h .lvm)

/-- SDGO (R191). Checks a descriptor and takes it as the active or waiting command of a stream unit. -/
def execSdgo (h : Hart) (s : State) : Host.Outcome State Fault Refusal :=
  .next (s.runHart h .sdgo)

/-- SDWAIT (R296). Stalls until a stream unit holds neither an active nor a waiting command. -/
def execSdwait (h : Hart) (s : State) : Host.Outcome State Fault Refusal :=
  .next (s.runHart h .sdwait)

/-- VPOP (R298). Waits for the next vector of an active read stream and writes it to a vector register. -/
def execVpop (h : Hart) (s : State) : Host.Outcome State Fault Refusal :=
  .next (s.runHart h .vpop)

/-- LPUSH (R299). Queues a Lattice command that converts an accumulator and appends it to a write stream. -/
def execLpush (h : Hart) (s : State) : Host.Outcome State Fault Refusal :=
  .next (s.runHart h .lpush)

end Sys2Proof.Machine
end

