-- ==== Sys2Proof/Machine/CmdWarden.lean ====
section
/-! DEFINITION. The Warden: boot, host interface, Stylus, I3C (12.7 to 12.9, 16.3): one meaning per command. -/

namespace Sys2Proof.Machine

/-- LOCKSTEP_MISMATCH (R500). The Warden core pair disagrees, stops, sets ERR and alerts Krovas and the host. -/
def execLockstepMismatch (s : State) : Host.Outcome State Fault Refusal :=
  .next (s.clocked s.lockstep)

/-- BOOT_ROM_START (R502). On core release the boot ROM loads firmware from flash or waits for the mailbox. -/
def execBootRomStart (s : State) : Host.Outcome State Fault Refusal :=
  .next (s.clocked s.bootRom)

/-- HOST_DOORBELL (R502). A W1S write of WDN_HDB rings the host doorbell to Warden firmware. -/
def execHostDoorbell (p : Party) (v : W32) (s : State) : Host.Outcome State Fault Refusal :=
  .next (s.clocked (s.wdnWr p 0x500 v))

/-- HOST_DOORBELL_CLEAR (R513). A firmware write of WDN_HDB_CLR clears host doorbell bits. -/
def execHostDoorbellClear (p : Party) (v : W32) (s : State) : Host.Outcome State Fault Refusal :=
  .next (s.clocked (s.wdnWr p 0x504 v))

/-- MSI_SEND (R513). A firmware write of WDN_HMSI sends an MSI-X vector to the host. -/
def execMsiSend (p : Party) (v : W32) (s : State) : Host.Outcome State Fault Refusal :=
  .next (s.clocked (s.wdnWr p 0x508 v))

/-- BAR0_ACCESS (R503). A host TLP on BAR0 reads or writes Warden space. -/
def execBar0Access (a : BusAccess) (s : State) : Host.Outcome State Fault Refusal :=
  .next (s.clocked (s.bar0 a))

/-- HOST_WINDOW_ACCESS (R504). A host TLP on BAR2 is relayed as a packet with the window's GA and key. -/
def execHostWindowAccess (n : (Fin 16)) (a : BusAccess) (s : State) : Host.Outcome State Fault Refusal :=
  .next (s.clocked (s.hostWindow n.val a))

/-- HOST_WINDOW_TIMEOUT (R504). A window read unanswered after 1 ms completes with Completer Abort and sets RDTO. -/
def execHostWindowTimeout (n : (Fin 16)) (s : State) : Host.Outcome State Fault Refusal :=
  .next (s.clocked (s.windowTimeout n.val))

/-- WDN_HWIN_WRITE (R504). A write of a host window GA or key, refused for key 0 or space 0x8 and above. -/
def execWdnHwinWrite (p : Party) (n : (Fin 16)) (key : Bool) (v : W64) (s : State) : Host.Outcome State Fault Refusal :=
  .next (s.clocked (s.hwinWr p n.val key v))

/-- RST_F (R144). The Stylus FIELD reset command reaches a field controller. -/
def execRstF (f : FieldId) (s : State) : Host.Outcome State Fault Refusal :=
  .next (s.clocked (s.takeRstF f.val))

/-- RST_T (R145). The Stylus TILE reset command reaches a field controller. -/
def execRstT (f : FieldId) (s : State) : Host.Outcome State Fault Refusal :=
  .next (s.clocked (s.takeRstT f.val))

/-- COLMAP (R50). The Stylus command loads FLD_COLMAP from the Warden column state. -/
def execColmap (f : FieldId) (s : State) : Host.Outcome State Fault Refusal :=
  .next (s.clocked (s.takeColmap f.val))

/-- STYLUS_TOPO (R426). The Stylus command gives a field controller its topology copy. -/
def execStylusTopo (f : FieldId) (s : State) : Host.Outcome State Fault Refusal :=
  .next (s.clocked (s.takeTopo f.val))

/-- REG (R510). The Stylus command reads or writes field controller space. -/
def execReg (f : FieldId) (a : BusAccess) (s : State) : Host.Outcome State Fault Refusal :=
  .next (s.clocked (s.regTake f.val a))

/-- MESH (R509). The Stylus command makes a field controller inject a packet at its origin router. -/
def execMesh (f : FieldId) (q : (Option FwReq)) (s : State) : Host.Outcome State Fault Refusal :=
  .next (s.clocked (s.meshCmd f.val q))

/-- RELAY (R511). A Warden or Rim request and its answer are relayed over Stylus. -/
def execRelay (f : FieldId) (s : State) : Host.Outcome State Fault Refusal :=
  .next (s.clocked (s.relayAny f.val))

/-- EVENT (R584). Warden hardware records a field or Rim event, sends MSI-X 2 and raises interrupt 3. -/
def execEvent (f : FieldId) (s : State) : Host.Outcome State Fault Refusal :=
  .next (s.clocked (s.takeEvent f.val))

/-- ANSWER (R510). A C1 answer to a MESH injection returns to the Warden. -/
def execAnswer (f : FieldId) (s : State) : Host.Outcome State Fault Refusal :=
  .next (s.clocked (s.takeAnswer f.val))

/-- GET_STATE (R626). Krovas reads the Warden state over I3C. -/
def execGetState (s : State) : Host.Outcome State Fault Refusal :=
  .next (s.krovasGetState)

/-- MGMT_RD (R627). Krovas reads the next relayed management frame. -/
def execMgmtRd (s : State) : Host.Outcome State Fault Refusal :=
  .next (s.krovasMgmtRd)

/-- MGMT_WR (R627). Krovas gives a frame for the fabric manager. -/
def execMgmtWr (b : Bytes) (s : State) : Host.Outcome State Fault Refusal :=
  .next (s.krovasMgmtWr b)

/-- I3C_TOPO (R625). Krovas passes the stored topology record for firmware to write RIMx_TOPO. -/
def execI3cTopo (b : Bytes) (s : State) : Host.Outcome State Fault Refusal :=
  .next (s.i3cTopo b)

/-- STAGE_WR (R627). Krovas writes part of a Warden-side image into boot flash. -/
def execStageWr (b : Bytes) (s : State) : Host.Outcome State Fault Refusal :=
  .next (s.krovasStageWr b)

/-- STAGE_CHK (R639). Krovas asks for verification of a staged slot and reads the result. -/
def execStageChk (b : Bytes) (s : State) : Host.Outcome State Fault Refusal :=
  .next (s.stageChk b)

/-- TELEM_RD (R627). Krovas reads the Warden telemetry block. -/
def execTelemRd (s : State) : Host.Outcome State Fault Refusal :=
  .next (s.krovasTelemRd)

/-- SET_BOOTSEL (R628). Krovas names the boot flash slot for the boot ROM. -/
def execSetBootsel (b : Bytes) (s : State) : Host.Outcome State Fault Refusal :=
  .next (s.setBootsel b)

/-- BOOTSEL_TIMEOUT (R628). Without SET_BOOTSEL for 100 ms the boot ROM uses slot 0. -/
def execBootselTimeout (s : State) : Host.Outcome State Fault Refusal :=
  .next (s.clocked s.bootselTimeout)

end Sys2Proof.Machine
end

