-- ==== Sys2Proof/Machine/Dispatch.lean ====
section
/-! DEFINITION. The dispatch: one arm per command. -/

namespace Sys2Proof.Machine

def exec (i : Instr) (s : State) : Host.Outcome State Fault Refusal :=
  match i with
  | .add h => Sys2Proof.Machine.execAdd h s
  | .sub h => Sys2Proof.Machine.execSub h s
  | .and h => Sys2Proof.Machine.execAnd h s
  | .or h => Sys2Proof.Machine.execOr h s
  | .xor h => Sys2Proof.Machine.execXor h s
  | .sll h => Sys2Proof.Machine.execSll h s
  | .srl h => Sys2Proof.Machine.execSrl h s
  | .sra h => Sys2Proof.Machine.execSra h s
  | .slt h => Sys2Proof.Machine.execSlt h s
  | .sltu h => Sys2Proof.Machine.execSltu h s
  | .mul h => Sys2Proof.Machine.execMul h s
  | .mulh h => Sys2Proof.Machine.execMulh h s
  | .mulhu h => Sys2Proof.Machine.execMulhu h s
  | .min h => Sys2Proof.Machine.execMin h s
  | .max h => Sys2Proof.Machine.execMax h s
  | .minu h => Sys2Proof.Machine.execMinu h s
  | .maxu h => Sys2Proof.Machine.execMaxu h s
  | .clz h => Sys2Proof.Machine.execClz h s
  | .popc h => Sys2Proof.Machine.execPopc h s
  | .fadd h => Sys2Proof.Machine.execFadd h s
  | .fsub h => Sys2Proof.Machine.execFsub h s
  | .fmul h => Sys2Proof.Machine.execFmul h s
  | .fmin h => Sys2Proof.Machine.execFmin h s
  | .fmax h => Sys2Proof.Machine.execFmax h s
  | .feq h => Sys2Proof.Machine.execFeq h s
  | .flt h => Sys2Proof.Machine.execFlt h s
  | .fle h => Sys2Proof.Machine.execFle h s
  | .fcvtws h => Sys2Proof.Machine.execFcvtws h s
  | .fcvtsw h => Sys2Proof.Machine.execFcvtsw h s
  | .addi h => Sys2Proof.Machine.execAddi h s
  | .andi h => Sys2Proof.Machine.execAndi h s
  | .ori h => Sys2Proof.Machine.execOri h s
  | .xori h => Sys2Proof.Machine.execXori h s
  | .slti h => Sys2Proof.Machine.execSlti h s
  | .sltiu h => Sys2Proof.Machine.execSltiu h s
  | .lui h => Sys2Proof.Machine.execLui h s
  | .slli h => Sys2Proof.Machine.execSlli h s
  | .srli h => Sys2Proof.Machine.execSrli h s
  | .srai h => Sys2Proof.Machine.execSrai h s
  | .limm h => Sys2Proof.Machine.execLimm h s
  | .lw h => Sys2Proof.Machine.execLw h s
  | .lh h => Sys2Proof.Machine.execLh h s
  | .lhu h => Sys2Proof.Machine.execLhu h s
  | .lb h => Sys2Proof.Machine.execLb h s
  | .lbu h => Sys2Proof.Machine.execLbu h s
  | .sw h => Sys2Proof.Machine.execSw h s
  | .sh h => Sys2Proof.Machine.execSh h s
  | .sb h => Sys2Proof.Machine.execSb h s
  | .ldf h => Sys2Proof.Machine.execLdf h s
  | .ste h => Sys2Proof.Machine.execSte h s
  | .crd h => Sys2Proof.Machine.execCrd h s
  | .cwr h => Sys2Proof.Machine.execCwr h s
  | .beq h => Sys2Proof.Machine.execBeq h s
  | .bne h => Sys2Proof.Machine.execBne h s
  | .blt h => Sys2Proof.Machine.execBlt h s
  | .bge h => Sys2Proof.Machine.execBge h s
  | .bltu h => Sys2Proof.Machine.execBltu h s
  | .bgeu h => Sys2Proof.Machine.execBgeu h s
  | .jal h => Sys2Proof.Machine.execJal h s
  | .jalr h => Sys2Proof.Machine.execJalr h s
  | .halt h => Sys2Proof.Machine.execHalt h s
  | .brk h => Sys2Proof.Machine.execBrk h s
  | .rlw h => Sys2Proof.Machine.execRlw h s
  | .rsw h => Sys2Proof.Machine.execRsw h s
  | .rsh h => Sys2Proof.Machine.execRsh h s
  | .rsb h => Sys2Proof.Machine.execRsb h s
  | .rcopy h => Sys2Proof.Machine.execRcopy h s
  | .rldf h => Sys2Proof.Machine.execRldf h s
  | .rste h => Sys2Proof.Machine.execRste h s
  | .sendq h => Sys2Proof.Machine.execSendq h s
  | .sendq2 h => Sys2Proof.Machine.execSendq2 h s
  | .sendqm h => Sys2Proof.Machine.execSendqm h s
  | .remfence h => Sys2Proof.Machine.execRemfence h s
  | .gaxy h => Sys2Proof.Machine.execGaxy h s
  | .qtry h => Sys2Proof.Machine.execQtry h s
  | .qcnt h => Sys2Proof.Machine.execQcnt h s
  | .barrive h => Sys2Proof.Machine.execBarrive h s
  | .barwait h => Sys2Proof.Machine.execBarwait h s
  | .bartest h => Sys2Proof.Machine.execBartest h s
  | .vldb h => Sys2Proof.Machine.execVldb h s
  | .vldh h => Sys2Proof.Machine.execVldh h s
  | .vstb h => Sys2Proof.Machine.execVstb h s
  | .vsth h => Sys2Proof.Machine.execVsth h s
  | .vadd h => Sys2Proof.Machine.execVadd h s
  | .vsub h => Sys2Proof.Machine.execVsub h s
  | .vmul h => Sys2Proof.Machine.execVmul h s
  | .vmin h => Sys2Proof.Machine.execVmin h s
  | .vmax h => Sys2Proof.Machine.execVmax h s
  | .vmov h => Sys2Proof.Machine.execVmov h s
  | .vsplat h => Sys2Proof.Machine.execVsplat h s
  | .vext h => Sys2Proof.Machine.execVext h s
  | .vins h => Sys2Proof.Machine.execVins h s
  | .vcvt h => Sys2Proof.Machine.execVcvt h s
  | .scvtf h => Sys2Proof.Machine.execScvtf h s
  | .scvtn h => Sys2Proof.Machine.execScvtn h s
  | .lmac h => Sys2Proof.Machine.execLmac h s
  | .lmacs h => Sys2Proof.Machine.execLmacs h s
  | .lzero h => Sys2Proof.Machine.execLzero h s
  | .lmov h => Sys2Proof.Machine.execLmov h s
  | .ladd h => Sys2Proof.Machine.execLadd h s
  | .lmaxa h => Sys2Proof.Machine.execLmaxa h s
  | .lmina h => Sys2Proof.Machine.execLmina h s
  | .lwid h => Sys2Proof.Machine.execLwid h s
  | .lcvt h => Sys2Proof.Machine.execLcvt h s
  | .lcvtq h => Sys2Proof.Machine.execLcvtq h s
  | .lvm h => Sys2Proof.Machine.execLvm h s
  | .sdgo h => Sys2Proof.Machine.execSdgo h s
  | .sdwait h => Sys2Proof.Machine.execSdwait h s
  | .vpop h => Sys2Proof.Machine.execVpop h s
  | .lpush h => Sys2Proof.Machine.execLpush h s
  | .ld h => Sys2Proof.Machine.execLd h s
  | .sd h => Sys2Proof.Machine.execSd h s
  | .pcrr h => Sys2Proof.Machine.execPcrr h s
  | .pcrw h => Sys2Proof.Machine.execPcrw h s
  | .sysc h => Sys2Proof.Machine.execSysc h s
  | .tret h => Sys2Proof.Machine.execTret h s
  | .idle h => Sys2Proof.Machine.execIdle h s
  | .pfence h => Sys2Proof.Machine.execPfence h s
  | .xlinv h => Sys2Proof.Machine.execXlinv h s
  | .cinv h => Sys2Proof.Machine.execCinv h s
  | .cinvall h => Sys2Proof.Machine.execCinvall h s
  | .atswp h => Sys2Proof.Machine.execAtswp h s
  | .atadd h => Sys2Proof.Machine.execAtadd h s
  | .eccWriteback t => Sys2Proof.Machine.execEccWriteback t s
  | .run p t => Sys2Proof.Machine.execRun p t s
  | .stop p t => Sys2Proof.Machine.execStop p t s
  | .stepCmd p t => Sys2Proof.Machine.execStep p t s
  | .clrf p t => Sys2Proof.Machine.execClrf p t s
  | .stopComplete t => Sys2Proof.Machine.execStopComplete t s
  | .tileCompatWrite p t v => Sys2Proof.Machine.execTileCompatWrite p t v s
  | .tileOriginWrite p t v => Sys2Proof.Machine.execTileOriginWrite p t v s
  | .tilePcWrite p t v => Sys2Proof.Machine.execTilePcWrite p t v s
  | .tileFeLimitWrite p t v => Sys2Proof.Machine.execTileFeLimitWrite p t v s
  | .regWindowWrite p t off v => Sys2Proof.Machine.execRegWindowWrite p t off v s
  | .feWindowWrite p t off v => Sys2Proof.Machine.execFeWindowWrite p t off v s
  | .tileQpop p t q => Sys2Proof.Machine.execTileQpop p t q s
  | .tileQpush p t q v => Sys2Proof.Machine.execTileQpush p t q v s
  | .pendingEntryWrite p t n v => Sys2Proof.Machine.execPendingEntryWrite p t n v s
  | .tileEccStatRead p t => Sys2Proof.Machine.execTileEccStatRead p t s
  | .latticeCmdStart t => Sys2Proof.Machine.execLatticeCmdStart t s
  | .lvmBlock t => Sys2Proof.Machine.execLvmBlock t s
  | .streamVector t u => Sys2Proof.Machine.execStreamVector t u s
  | .streamCmdEnd t u => Sys2Proof.Machine.execStreamCmdEnd t u s
  | .burnishRead t => Sys2Proof.Machine.execBurnishRead t s
  | .rdMem t => Sys2Proof.Machine.execRdMem t s
  | .rdCtl t => Sys2Proof.Machine.execRdCtl t s
  | .rdFld f => Sys2Proof.Machine.execRdFld f s
  | .rdPrs c => Sys2Proof.Machine.execRdPrs c s
  | .rdRim f => Sys2Proof.Machine.execRdRim f s
  | .rdWdn f => Sys2Proof.Machine.execRdWdn f s
  | .feLd t => Sys2Proof.Machine.execFeLd t s
  | .feSt t => Sys2Proof.Machine.execFeSt t s
  | .wrMem t => Sys2Proof.Machine.execWrMem t s
  | .wrCtl t => Sys2Proof.Machine.execWrCtl t s
  | .wrFld f => Sys2Proof.Machine.execWrFld f s
  | .wrPrs c => Sys2Proof.Machine.execWrPrs c s
  | .wrRim f => Sys2Proof.Machine.execWrRim f s
  | .wrWdn f => Sys2Proof.Machine.execWrWdn f s
  | .wrH t => Sys2Proof.Machine.execWrH t s
  | .wrB t => Sys2Proof.Machine.execWrB t s
  | .qmsg t => Sys2Proof.Machine.execQmsg t s
  | .resp k => Sys2Proof.Machine.execResp k s
  | .ack k => Sys2Proof.Machine.execAck k s
  | .arrive f => Sys2Proof.Machine.execArrive f s
  | .fdone f => Sys2Proof.Machine.execFdone f s
  | .pdone f => Sys2Proof.Machine.execPdone f s
  | .prelease f => Sys2Proof.Machine.execPrelease f s
  | .releaseF f => Sys2Proof.Machine.execReleaseF f s
  | .releaseT k => Sys2Proof.Machine.execReleaseT k s
  | .mgmt d => Sys2Proof.Machine.execMgmt d s
  | .routerForward l e => Sys2Proof.Machine.execRouterForward l e s
  | .hopReplay l => Sys2Proof.Machine.execHopReplay l s
  | .creditReturn l ue => Sys2Proof.Machine.execCreditReturn l ue s
  | .feRetry t => Sys2Proof.Machine.execFeRetry t s
  | .fldClkTgtWrite p f v => Sys2Proof.Machine.execFldClkTgtWrite p f v s
  | .opChangeDone f => Sys2Proof.Machine.execOpChangeDone f s
  | .fldShCtlWrite p f v => Sys2Proof.Machine.execFldShCtlWrite p f v s
  | .fldShBarWrite p f v => Sys2Proof.Machine.execFldShBarWrite p f v s
  | .shWindowClose f => Sys2Proof.Machine.execShWindowClose f s
  | .fldXdropRead p f => Sys2Proof.Machine.execFldXdropRead p f s
  | .power f w => Sys2Proof.Machine.execPower f w s
  | .govPeriod w => Sys2Proof.Machine.execGovPeriod w s
  | .ceil f => Sys2Proof.Machine.execCeil f s
  | .wdnPwrCapWrite p v => Sys2Proof.Machine.execWdnPwrCapWrite p v s
  | .pwrAlertAssert => Sys2Proof.Machine.execPwrAlertAssert s
  | .wdnPwrStatWrite p v => Sys2Proof.Machine.execWdnPwrStatWrite p v s
  | .porAssert => Sys2Proof.Machine.execPorAssert s
  | .porRelease => Sys2Proof.Machine.execPorRelease s
  | .trayRstAssert ns => Sys2Proof.Machine.execTrayRstAssert ns s
  | .trayRstRelease => Sys2Proof.Machine.execTrayRstRelease s
  | .refLoss => Sys2Proof.Machine.execRefLoss s
  | .refRestored => Sys2Proof.Machine.execRefRestored s
  | .plateReset p => Sys2Proof.Machine.execPlateReset p s
  | .rstGo p => Sys2Proof.Machine.execRstGo p s
  | .fieldReset p v => Sys2Proof.Machine.execFieldReset p v s
  | .fieldResetDone f => Sys2Proof.Machine.execFieldResetDone f s
  | .tileReset p v => Sys2Proof.Machine.execTileReset p v s
  | .resetStageAdvance => Sys2Proof.Machine.execResetStageAdvance s
  | .fieldWaveRelease => Sys2Proof.Machine.execFieldWaveRelease s
  | .tileSubwaveRelease f => Sys2Proof.Machine.execTileSubwaveRelease f s
  | .fieldPllLock f => Sys2Proof.Machine.execFieldPllLock f s
  | .fieldPllTimeout f => Sys2Proof.Machine.execFieldPllTimeout f s
  | .domainPllTimeout m => Sys2Proof.Machine.execDomainPllTimeout m s
  | .regulatorTimeout f => Sys2Proof.Machine.execRegulatorTimeout f s
  | .stylusAckTimeout f => Sys2Proof.Machine.execStylusAckTimeout f s
  | .fieldInitTimeout f => Sys2Proof.Machine.execFieldInitTimeout f s
  | .wdnFldDeadWrite p hi v => Sys2Proof.Machine.execWdnFldDeadWrite p hi v s
  | .wdnFldUnavWrite p hi v => Sys2Proof.Machine.execWdnFldUnavWrite p hi v s
  | .wdnRstGapWrite p n v => Sys2Proof.Machine.execWdnRstGapWrite p n v s
  | .wdnKeepWrite p off v => Sys2Proof.Machine.execWdnKeepWrite p off v s
  | .wdnRstCauseWrite p v => Sys2Proof.Machine.execWdnRstCauseWrite p v s
  | .tapReset => Sys2Proof.Machine.execTapReset s
  | .fldBarnodeWrite p f id v => Sys2Proof.Machine.execFldBarnodeWrite p f id v s
  | .fldBarrootWrite p f id k v => Sys2Proof.Machine.execFldBarrootWrite p f id k v s
  | .barcutNode p f v => Sys2Proof.Machine.execBarcutNode p f v s
  | .barcutRootRemove p f v => Sys2Proof.Machine.execBarcutRootRemove p f v s
  | .barcutRootCredit p f v => Sys2Proof.Machine.execBarcutRootCredit p f v s
  | .barcutSysroot p f v => Sys2Proof.Machine.execBarcutSysroot p f v s
  | .dropvClear p f => Sys2Proof.Machine.execDropvClear p f s
  | .fldSealShWrite p f v => Sys2Proof.Machine.execFldSealShWrite p f v s
  | .hdrvClear p f => Sys2Proof.Machine.execHdrvClear p f s
  | .fldSealDropRead p f => Sys2Proof.Machine.execFldSealDropRead p f s
  | .fldKeyDropRead p f => Sys2Proof.Machine.execFldKeyDropRead p f s
  | .fldHopCeRead p f => Sys2Proof.Machine.execFldHopCeRead p f s
  | .fldHopRetryRead p f => Sys2Proof.Machine.execFldHopRetryRead p f s
  | .rimData d n b => Sys2Proof.Machine.execRimData d n b s
  | .rimAck d n b => Sys2Proof.Machine.execRimAck d n b s
  | .rimNak d n b => Sys2Proof.Machine.execRimNak d n b s
  | .rimCredit d n b => Sys2Proof.Machine.execRimCredit d n b s
  | .creditSend d n => Sys2Proof.Machine.execCreditSend d n s
  | .linkId d n b => Sys2Proof.Machine.execLinkId d n b s
  | .replayTimer d n => Sys2Proof.Machine.execReplayTimer d n s
  | .retrainTimeout d n => Sys2Proof.Machine.execRetrainTimeout d n s
  | .failoverReq d n b => Sys2Proof.Machine.execFailoverReq d n b s
  | .failoverRsp d n b => Sys2Proof.Machine.execFailoverRsp d n b s
  | .failoverReqRepeat d => Sys2Proof.Machine.execFailoverReqRepeat d s
  | .signalLoss d n => Sys2Proof.Machine.execSignalLoss d n s
  | .signalReturn d => Sys2Proof.Machine.execSignalReturn d s
  | .neighbourWaitTimeout d => Sys2Proof.Machine.execNeighbourWaitTimeout d s
  | .rimBridgePacket d k ch => Sys2Proof.Machine.execRimBridgePacket d k ch s
  | .rimxTopoWrite p d v => Sys2Proof.Machine.execRimxTopoWrite p d v s
  | .portEnable p d n v => Sys2Proof.Machine.execPortEnable p d n v s
  | .portDisable p d n v => Sys2Proof.Machine.execPortDisable p d n v s
  | .kselSwitch p d n v => Sys2Proof.Machine.execKselSwitch p d n v s
  | .rimxKeydropRead p d => Sys2Proof.Machine.execRimxKeydropRead p d s
  | .rimxUndelivRead p d => Sys2Proof.Machine.execRimxUndelivRead p d s
  | .rimxPerrRead p d n => Sys2Proof.Machine.execRimxPerrRead p d n s
  | .rimxPretrRead p d n => Sys2Proof.Machine.execRimxPretrRead p d n s
  | .gateInbound c ch => Sys2Proof.Machine.execGateInbound c ch s
  | .gateFeRetry c k => Sys2Proof.Machine.execGateFeRetry c k s
  | .gateTagIdle c g => Sys2Proof.Machine.execGateTagIdle c g s
  | .interruptTake c k => Sys2Proof.Machine.execInterruptTake c k s
  | .timerInterrupt c k => Sys2Proof.Machine.execTimerInterrupt c k s
  | .prsClkWrite p c v => Sys2Proof.Machine.execPrsClkWrite p c v s
  | .clusterClkDone c => Sys2Proof.Machine.execClusterClkDone c s
  | .coreRelease p c k => Sys2Proof.Machine.execCoreRelease p c k s
  | .coreHold p c k => Sys2Proof.Machine.execCoreHold p c k s
  | .l3lockApply c => Sys2Proof.Machine.execL3lockApply c s
  | .prsFwinWrite p c n v => Sys2Proof.Machine.execPrsFwinWrite p c n v s
  | .doorbell p c k v => Sys2Proof.Machine.execDoorbell p c k v s
  | .doorbellClear p c k v => Sys2Proof.Machine.execDoorbellClear p c k v s
  | .prsIpiWrite p c v => Sys2Proof.Machine.execPrsIpiWrite p c v s
  | .lockstepMismatch => Sys2Proof.Machine.execLockstepMismatch s
  | .bootRomStart => Sys2Proof.Machine.execBootRomStart s
  | .hostDoorbell p v => Sys2Proof.Machine.execHostDoorbell p v s
  | .hostDoorbellClear p v => Sys2Proof.Machine.execHostDoorbellClear p v s
  | .msiSend p v => Sys2Proof.Machine.execMsiSend p v s
  | .bar0Access a => Sys2Proof.Machine.execBar0Access a s
  | .hostWindowAccess n a => Sys2Proof.Machine.execHostWindowAccess n a s
  | .hostWindowTimeout n => Sys2Proof.Machine.execHostWindowTimeout n s
  | .wdnHwinWrite p n key v => Sys2Proof.Machine.execWdnHwinWrite p n key v s
  | .rstF f => Sys2Proof.Machine.execRstF f s
  | .rstT f => Sys2Proof.Machine.execRstT f s
  | .colmap f => Sys2Proof.Machine.execColmap f s
  | .stylusTopo f => Sys2Proof.Machine.execStylusTopo f s
  | .reg f a => Sys2Proof.Machine.execReg f a s
  | .mesh f q => Sys2Proof.Machine.execMesh f q s
  | .relay f => Sys2Proof.Machine.execRelay f s
  | .event f => Sys2Proof.Machine.execEvent f s
  | .answer f => Sys2Proof.Machine.execAnswer f s
  | .getState => Sys2Proof.Machine.execGetState s
  | .mgmtRd => Sys2Proof.Machine.execMgmtRd s
  | .mgmtWr b => Sys2Proof.Machine.execMgmtWr b s
  | .i3cTopo b => Sys2Proof.Machine.execI3cTopo b s
  | .stageWr b => Sys2Proof.Machine.execStageWr b s
  | .stageChk b => Sys2Proof.Machine.execStageChk b s
  | .telemRd => Sys2Proof.Machine.execTelemRd s
  | .setBootsel b => Sys2Proof.Machine.execSetBootsel b s
  | .bootselTimeout => Sys2Proof.Machine.execBootselTimeout s
  | .islandStart ok => Sys2Proof.Machine.execIslandStart ok s
  | .periodicSelftest ok => Sys2Proof.Machine.execPeriodicSelftest ok s
  | .healthTestFail => Sys2Proof.Machine.execHealthTestFail s
  | .tempExcursion => Sys2Proof.Machine.execTempExcursion s
  | .selftest p ok => Sys2Proof.Machine.execSelftest p ok s
  | .getid p => Sys2Proof.Machine.execGetid p s
  | .verify p => Sys2Proof.Machine.execVerify p s
  | .islandExtend p => Sys2Proof.Machine.execExtend p s
  | .quote p => Sys2Proof.Machine.execQuote p s
  | .islandImport p => Sys2Proof.Machine.execImport p s
  | .forget p => Sys2Proof.Machine.execForget p s
  | .loadkey p => Sys2Proof.Machine.execLoadkey p s
  | .random p => Sys2Proof.Machine.execRandom p s
  | .challenge p => Sys2Proof.Machine.execChallenge p s
  | .setOwner p => Sys2Proof.Machine.execSetOwner p s
  | .zeroize p => Sys2Proof.Machine.execZeroize p s
  | .unlock p => Sys2Proof.Machine.execUnlock p s
  | .revoke p => Sys2Proof.Machine.execRevoke p s
  | .svnraise p => Sys2Proof.Machine.execSvnraise p s
  | .lidTrip => Sys2Proof.Machine.execLidTrip s
  | .tapUnlock c => Sys2Proof.Machine.execTapUnlock c s
  | .epochBegin => Sys2Proof.Machine.execEpochBegin s
  | .epochCommit g => Sys2Proof.Machine.execEpochCommit g s
  | .colmapCommit f => Sys2Proof.Machine.execColmapCommit f s
  | .epochComplete => Sys2Proof.Machine.execEpochComplete s
  | .fldColmapShWrite p f n v => Sys2Proof.Machine.execFldColmapShWrite p f n v s
  | .fldTfltRead p f => Sys2Proof.Machine.execFldTfltRead p f s
  | .fldEvtClear p f v => Sys2Proof.Machine.execFldEvtClear p f v s
  | .fldBurnCtlWrite p f v => Sys2Proof.Machine.execFldBurnCtlWrite p f v s
  | .fldBurnCeRead p f => Sys2Proof.Machine.execFldBurnCeRead p f s
  | .fldBurnUecRead p f => Sys2Proof.Machine.execFldBurnUecRead p f s
  | .redfishOn r => Sys2Proof.Machine.execOn r s
  | .forceOff tag => Sys2Proof.Machine.execForceOff tag s
  | .powerCycle tag => Sys2Proof.Machine.execPowerCycle tag s
  | .forceRestart tag => Sys2Proof.Machine.execForceRestart tag s
  | .redfishRead tag item => Sys2Proof.Machine.execRedfishRead tag item s
  | .settingsWrite tag k v => Sys2Proof.Machine.execSettingsWrite tag k v s
  | .firmwarePush tag fs => Sys2Proof.Machine.execFirmwarePush tag fs s
  | .hello src tag => Sys2Proof.Machine.execHello src tag s
  | .bypassIn src tag mask => Sys2Proof.Machine.execBypassIn src tag mask s
  | .bypassOut src tag mask => Sys2Proof.Machine.execBypassOut src tag mask s
  | .setTopo src tag topo fm => Sys2Proof.Machine.execSetTopo src tag topo fm s
  | .powerOff src tag => Sys2Proof.Machine.execPowerOff src tag s
  | .telemSub src tag period => Sys2Proof.Machine.execTelemSub src tag period s
  | .telemetryFrame => Sys2Proof.Machine.execTelemetryFrame s
  | .krovasIbi => Sys2Proof.Machine.execKrovasIbi s
  | .coolantOvertemp r => Sys2Proof.Machine.execCoolantOvertemp r s
  | .packageOvertemp t => Sys2Proof.Machine.execPackageOvertemp t s
  | .leakOrSupplyFault holds => Sys2Proof.Machine.execLeakOrSupplyFault holds s
  | .trayOverpower w => Sys2Proof.Machine.execTrayOverpower w s
  | .trayPowerNormal w => Sys2Proof.Machine.execTrayPowerNormal w s
  | .sisErrNChange => Sys2Proof.Machine.execSisErrNChange s
  | .heartbeatStall => Sys2Proof.Machine.execHeartbeatStall s
  | .orphanTimeout => Sys2Proof.Machine.execOrphanTimeout s
  | .trialTimeout => Sys2Proof.Machine.execTrialTimeout s
  | .bypassMismatch d => Sys2Proof.Machine.execBypassMismatch d s
  | .plateRstOutAssert => Sys2Proof.Machine.execPlateRstOutAssert s
  | .standbyRestore => Sys2Proof.Machine.execStandbyRestore s
  | .prfCommitGo p => Sys2Proof.Machine.execPrfCommitGo p s
  | .latchPoint go fence => Sys2Proof.Machine.execLatchPoint go fence s
  | .prfMapFlipWrite p v => Sys2Proof.Machine.execPrfMapFlipWrite p v s
  | .prfFenceSigWrite p v => Sys2Proof.Machine.execPrfFenceSigWrite p v s
  | .prfShadowWrite p off v => Sys2Proof.Machine.execPrfShadowWrite p off v s
  | .prfPalWrite p bank n v => Sys2Proof.Machine.execPrfPalWrite p bank n v s
  | .proofEnable p v => Sys2Proof.Machine.execProofEnable p v s
  | .proofDisable p v => Sys2Proof.Machine.execProofDisable p v s
  | .prfPclkWrite p v => Sys2Proof.Machine.execPrfPclkWrite p v s
  | .pixelPllLock => Sys2Proof.Machine.execPixelPllLock s
  | .hpdChange level => Sys2Proof.Machine.execHpdChange level s
  | .auxRequest p v => Sys2Proof.Machine.execAuxRequest p v s
  | .auxDone timeout code b => Sys2Proof.Machine.execAuxDone timeout code b s
  | .composeLine y => Sys2Proof.Machine.execComposeLine y s
  | .registerWrite p ga v wide => Sys2Proof.Machine.execRegisterWrite p ga v wide s
  | .domainPllLock m => Sys2Proof.Machine.execDomainPllLock m s
  | .standbyLoss => Sys2Proof.Machine.execStandbyLoss s
  | .bypPosChange d thru => Sys2Proof.Machine.execBypPosChange d thru s

end Sys2Proof.Machine
end

