-- ==== Sys2Proof/Machine/Tick.lean ====
section
/-! DEFINITION. What 20 ns of time change when no command waits: the counters that run with their clocks. -/

namespace Sys2Proof.Machine

/-- Cycles of a field's clock in 20 ns: 8 + n at operating point n (Table 3.4), 2 on the reference (R77).
DESIGN CHOICE (log entry 2). -/
def Field.cycles (c : Field) : Nat := if c.rst then 0 else if c.src || !c.lock then 2 else 8 + c.op

/-- A tile counts cycles spent in RUNNING (Table 5.8). -/
def Tile.count (t : Tile) (n : Nat) : Tile :=
  if t.state = .running then { t with cyc := t.cyc + BitVec.ofNat 64 n } else t

/-- HBCOUNT rises once per second while Warden firmware runs (Table 16.5b). DESIGN CHOICE (log entry 2). -/
def Warden.beat (w : Warden) (old new : Nat) : Warden :=
  if w.fwRuns && new / ticksPerS != old / ticksPerS then { w with hb := (w.hb + 1) % 2 ^ 32 } else w

/-- 20 ns pass: TIME, TILE_CYC, the windows, HBCOUNT, the age of a challenge, Krovas's clock. Without the reference the
package's clocks stand still (R134). DESIGN CHOICE (log entry 2). -/
def State.tick (s : State) : State :=
  let k := { s.krovas with now := s.krovas.now + 2 }
  let s := { s with krovas := k }
  if !s.wdn.refOk || s.wdn.asserted then s
  else
    let cyc (f : Nat) : Nat := (s.fld f).cycles
    { s with
      time := s.time + 2#64
      tiles := s.tiles.map (fun e => (e.1, e.2.count (cyc (e.1 / 9600))))
      fields := s.fields.map (fun e =>
        (e.1, if cyc e.1 = 0 then e.2 else e.2.shPass s.sku (cyc e.1) (s.activeTiles e.1).1 (s.activeTiles e.1).2))
      wdn := s.wdn.beat s.time.toNat (s.time.toNat + 2)
      island := { s.island with chalAge := s.island.chalAge + 2 } }

end Sys2Proof.Machine
end

