-- ==== Sys2Proof/Safety.lean ====
section
/-! DEFINITION. The terms in which statements speak: that a command has its effect, what it leaves alone, how an
instruction of a tile or of a Press core ends, and the invariants. -/

namespace Sys2Proof.Machine

/-- What does not run on the reference clock (R76, R134): the reset controller's inputs, the test access port, the lid sensor, and
Krovas with its transfers on the I3C bus. DEDUCED (log entry 81). -/
def ownClock : Instr → Bool
  | .porAssert | .porRelease | .trayRstAssert .. | .trayRstRelease | .refLoss | .refRestored | .tapReset | .tapUnlock .. | .lidTrip
  | .getState | .mgmtRd | .mgmtWr .. | .i3cTopo .. | .stageWr .. | .stageChk .. | .telemRd | .setBootsel ..
  | .redfishOn .. | .forceOff .. | .powerCycle .. | .forceRestart .. | .redfishRead .. | .settingsWrite .. | .firmwarePush ..
  | .hello .. | .bypassIn .. | .bypassOut .. | .setTopo .. | .powerOff .. | .telemSub .. | .telemetryFrame | .krovasIbi
  | .coolantOvertemp .. | .packageOvertemp .. | .leakOrSupplyFault .. | .trayOverpower .. | .trayPowerNormal .. | .sisErrNChange
  | .heartbeatStall | .orphanTimeout | .trialTimeout | .bypassMismatch .. | .plateRstOutAssert | .standbyRestore | .standbyLoss
  | .bypPosChange .. => true
  | _ => false

/-- The command answers a next state, and `P` holds of that state; a domain whose clock has stopped with the reference holds its
state instead (R134). -/
def Gives (c : Instr) (s : State) (P : State → Prop) : Prop :=
  ∃ u, exec c s = .next u ∧ (if s.wdn.refOk || ownClock c then P u else u = s)

/-! ### What a command leaves alone -/

/-- Nothing but the tile that router r stands for has changed. -/
def OnlyTile (r : Nat) (s u : State) : Prop :=
  u = { s with tiles := u.tiles } ∧ ∀ k, k ≠ s.phys r → sget {} u.tiles k = sget {} s.tiles k

/-- Nothing but field controller f has changed. -/
def OnlyField (f : Nat) (s u : State) : Prop :=
  u = { s with fields := u.fields } ∧ ∀ g, g ≠ f → u.fld g = s.fld g

/-- Nothing but Rim die d has changed. -/
def OnlyRim (d : Nat) (s u : State) : Prop := u = { s with rims := u.rims } ∧ ∀ e, e ≠ d → u.rim e = s.rim e

/-- Nothing but Press cluster c has changed. -/
def OnlyPress (c : Nat) (s u : State) : Prop := u = { s with press := u.press } ∧ ∀ e, e ≠ c → u.prs e = s.prs e

/-- A packet has come to a port of router r: its flits follow those of the port's lane and those that wait there for a credit,
and the rest of the mesh is as it was. -/
def Sent (r : Nat) (port : RPort) (p : Packet) (m n : Mesh) : Prop :=
  n = { m with lanes := n.lanes, used := n.used, sent := n.sent, entry := n.entry }
    ∧ n.lane (laneKey r port p.h.ch false) ++ n.queued r port p.h.ch
        = m.lane (laneKey r port p.h.ch false) ++ m.queued r port p.h.ch ++ p.flits
    ∧ (∀ j, j ≠ laneKey r port p.h.ch false → n.lane j = m.lane j)
    ∧ ∀ j, j ≠ portKey r port p.h.ch → sget [] n.entry j = sget [] m.entry j

/-- The answer to request q leaves by a port on C1, RESP or ACK to the requester with the request's key and tag (R348):
mesh `n` is `m` with it. -/
def Replies (m n : Mesh) (r : Nat) (port : RPort) (q : Packet) (ack : Bool) (status : Nat) (data : W32) : Prop :=
  ∃ p : Packet, p.h.op = (if ack then 0x15 else 0x14) ∧ p.h.ch = 1 ∧ p.h.long = false ∧ p.h.status = status
    ∧ p.h.payload = data ∧ p.h.dx = q.h.sx ∧ p.h.dy = q.h.sy ∧ p.h.dplate = q.h.splate ∧ p.h.pkey = q.h.pkey
    ∧ p.h.tag = q.h.tag ∧ p.back = q.back ∧ p.gen = q.gen ∧ Sent r port p m n

/-- The mesh once the front packet of a port's channel is taken. -/
def Mesh.popped (m : Mesh) (r : Nat) (port : RPort) (ch : Nat) : Mesh :=
  { m with inbox := sput m.inbox (portKey r port ch) ((sget [] m.inbox (portKey r port ch)).drop 1) }

/-- The front packet q of a port's channel has been taken and answered by the same port; nothing else in the mesh has
changed. -/
def Answered (s u : State) (r : Nat) (port : RPort) (ch : Nat) (q : Packet) (ack : Bool) (status : Nat) (data : W32) : Prop :=
  Replies (s.mesh.popped r port ch) u.mesh r port q ack status data

/-- Nothing outside the tile of router r and the mesh has changed. -/
def TileAndMesh (r : Nat) (s u : State) : Prop :=
  u = { s with tiles := u.tiles, mesh := u.mesh } ∧ ∀ k, k ≠ s.phys r → sget {} u.tiles k = sget {} s.tiles k

/-- Nothing outside field controller f and the mesh has changed. -/
def FieldAndMesh (f : Nat) (s u : State) : Prop :=
  u = { s with fields := u.fields, mesh := u.mesh } ∧ ∀ g, g ≠ f → u.fld g = s.fld g

/-- Nothing outside Press cluster c and the mesh has changed. -/
def PressAndMesh (c : Nat) (s u : State) : Prop :=
  u = { s with press := u.press, mesh := u.mesh } ∧ ∀ e, e ≠ c → u.prs e = s.prs e

/-! ### Instructions of a tile -/

/-- The core of the tile at router r can issue, the instruction at its pc is `f`, `len` bytes long (8 with a LIMM
prefix), no interlock holds it (R288, R231), and no asynchronous fault waits for the next instruction boundary. -/
def State.issues (s : State) (r : Nat) (f : Fields) (len : Nat) : Bool :=
  let t := s.tile r
  t.canIssue && t.fetch t.pc == .instr f (len == 8) len && !(vecUse f).any (fun v => (latDests t.latq).contains v)
    && t.afault.isNone

/-- The row that names an instruction: LIMM, when a prefix stands before it (R213). -/
def named (len : Nat) (c : Hart → Instr) (h : Hart) : Instr := if len = 8 then .limm h else c h

/-- The pc after an instruction of `len` bytes. -/
def Tile.nextPc (t : Tile) (len : Nat) : W32 := BitVec.ofNat 32 (t.pc.toNat + len)

/-- A tile without what the end of every instruction may change: pc, run state, the marks of its stall, and the count and the
list of corrected words. -/
def Tile.core (t : Tile) : Tile :=
  { t with pc := 0#32, state := .running, stepping := false, waiting := false, fence := none, fenced := false, noted := false,
           want := t.want.filter (· != 0), eccCe := 0, wb := [] }

/-- How the core stands after an instruction that completes at `npc`: RUNNING, or STOPPED when it was a STEP (R161); apart from
that it holds `t`. A tile with no upset word counts no correction. -/
def Ends (s u : State) (r : Nat) (t : Tile) (npc : W32) : Prop :=
  (u.tile r).pc = npc ∧ (u.tile r).state = (if (s.tile r).stepping then .stopped else .running)
    ∧ (u.tile r).stepping = false ∧ (u.tile r).waiting = false ∧ (u.tile r).core = t.core
    ∧ ((s.tile r).upset = [] → (u.tile r).eccCe = t.eccCe ∧ (u.tile r).wb = t.wb)

/-- The instruction completes, and nothing outside its tile changes. -/
def Retired (s u : State) (r : Nat) (t : Tile) (npc : W32) : Prop := OnlyTile r s u ∧ Ends s u r t npc

/-- The instruction does not complete: the tile waits at its pc, holding `t`, and nothing else has changed. -/
def Held (s u : State) (r : Nat) (t : Tile) : Prop :=
  OnlyTile r s u
    ∧ u.tile r = { t with waiting := (u.tile r).waiting, noted := true, eccCe := (u.tile r).eccCe, wb := (u.tile r).wb }
    ∧ ((s.tile r).upset = [] → (u.tile r).eccCe = t.eccCe ∧ (u.tile r).wb = t.wb)

/-- The core waits on a word of its memory (R230): at its pc, RUNNING, holding `t`, and nothing else has changed; a tile with no
upset word counts no correction. -/
def Parks (s u : State) (r : Nat) (t : Tile) : Prop :=
  OnlyTile r s u ∧ (u.tile r).pc = (s.tile r).pc ∧ (u.tile r).state = (s.tile r).state ∧ (u.tile r).waiting = true
    ∧ (u.tile r).stepping = (s.tile r).stepping ∧ (u.tile r).core = t.core
    ∧ ((s.tile r).upset = [] → (u.tile r).eccCe = t.eccCe ∧ (u.tile r).wb = t.wb)

/-- No stream unit's next read would fault, so that no second fault can fall in the cycle of one (R198). -/
def Tile.alone (t : Tile) : Bool := (List.range 4).all (fun u => (t.coFault u).isNone)

/-- The instruction faults (R195, R196, Table 5.7): FAULTED at its own pc with the three fault registers, and
registers, memory, full/empty bits and queues as before; the field controller logs it, and nothing else changes. `multi` is
MULTI; it is 0 unless a stream unit's read may fault in the same cycle (R198), which is free (log entry 76). -/
def Faults (s u : State) (r code detail : Nat) (info : W64) : Prop :=
  let t := s.tile r
  let v := u.tile r
  v.state = .faulted ∧ v.pc = t.pc ∧ v.faultPc = t.pc ∧ v.faultInfo = info
    ∧ (∃ multi : Bool, (t.alone = true → multi = false)
        ∧ v.fault = BitVec.ofNat 32 (b2n multi * 2 ^ 17 + detail % 256 * 256 + code % 256))
    ∧ v.sregs = t.sregs ∧ v.vregs = t.vregs ∧ v.accs = t.accs ∧ v.mem = t.mem ∧ v.full = t.full ∧ v.queues = t.queues
    ∧ u.fld (fieldOf r) = (s.fld (fieldOf r)).logFault false code (rowOf r % 96) (colOf r % 96)
    ∧ u = { s with tiles := u.tiles, fields := u.fields, freeCtr := if t.alone then s.freeCtr else s.freeCtr + 1 }
    ∧ (∀ k, k ≠ s.phys r → sget {} u.tiles k = sget {} s.tiles k) ∧ ∀ g, g ≠ fieldOf r → u.fld g = s.fld g

/-- A packet that the tile at router r sends to the target of a GA: where it goes and comes from, its key (R345, R347,
R369), opcode and channel. -/
def Packet.Goes (p : Packet) (s : State) (r : Nat) (g : Ga) (op ch : Nat) : Prop :=
  p.h.op = op ∧ p.h.ch = ch ∧ p.h.dx = colOf (gaDest g r) ∧ p.h.dy = rowOf (gaDest g r) ∧ p.h.dplate = g.plate
    ∧ p.h.sx = colOf r ∧ p.h.sy = rowOf r ∧ p.h.pkey = bits (s.fld (fieldOf r)).sealAct 23 12 ∧ p.back = .loc

/-- A packet has left tile r's port: it stands in the lane, nothing else in the mesh has changed, and outside mesh and
tile nothing has. -/
def Leaves (s u : State) (r : Nat) (p : Packet) : Prop :=
  Sent r .loc p s.mesh u.mesh ∧ u = { s with tiles := u.tiles, mesh := u.mesh }
    ∧ ∀ k, k ≠ s.phys r → sget {} u.tiles k = sget {} s.tiles k

/-- A tile whose core has begun to send a packet of channel ch with completion credit `tag`. -/
def Tile.sending (t : Tile) (ch tag : Nat) (ga : W64) : Tile :=
  { t with out := sput t.out tag { ch := ch, ga := ga }, lastC0 := if ch = 0 then 0 else t.lastC0 }

/-- A posted instruction sends its packet of words `ws` with the lowest free completion credit (R236): it completes, or, while
its tail waits for credit, it stays in M at its pc (R379). -/
def Posts (s u : State) (r : Nat) (t : Tile) (g : Ga) (op ch : Nat) (ws : List W32) (npc : W32) : Prop :=
  ∃ p tag, t.freeTag = some tag ∧ p.h.tag = tag ∧ p.h.long = true ∧ p.h.len = ws.length - 1 ∧ p.h.off = g.off ∧ p.ws = ws
    ∧ p.Goes s r g op ch ∧ Leaves s u r p
    ∧ (if p.size ≤ s.mesh.room r .loc ch then Ends s u r (t.sending ch tag g.word) npc
       else (u.tile r).pc = (s.tile r).pc ∧ (u.tile r).state = (s.tile r).state ∧ (u.tile r).waiting = true
         ∧ (u.tile r).stepping = (s.tile r).stepping ∧ (u.tile r).sendCh = some (ch, npc)
         ∧ (u.tile r).core = { t.sending ch tag g.word with sendCh := some (ch, npc) }.core)

/-- A blocking instruction has sent its request and holds the pipeline (R167): nothing in the tile changes but the
request itself. -/
def Blocks (s u : State) (r : Nat) (kind : BlkKind) (rd : Nat) (npc : W32) (g : Ga) (p : Packet) : Prop :=
  Leaves s u r p ∧ (u.tile r).pc = (s.tile r).pc ∧ (u.tile r).state = (s.tile r).state ∧ (u.tile r).waiting = true
    ∧ (∃ b, (u.tile r).blk = some b ∧ b.kind = kind ∧ b.rd = rd ∧ b.npc = npc ∧ b.ga = g.word ∧ b.naks = 0
        ∧ b.limit = (s.tile r).feLimit ∧ b.backoff = false)
    ∧ (u.tile r).core = { s.tile r with blk := (u.tile r).blk, lastC0 := 0 }.core

/-- The scalar sources of an instruction read as a and b, and `t` is the tile after the queue pops (R175, R207). -/
def SrcAB (t0 : Tile) (f : Fields) (t : Tile) (a b : W32) : Prop :=
  ∃ t1, t0.srcS f.qa f.a = .got t1 a ∧ t1.srcS f.qb f.b = .got t b

/-- The vector sources of an instruction read as lanes a and b (R175, R276). -/
def VecAB (t0 : Tile) (f : Fields) (t : Tile) (a b : List Nat) : Prop :=
  ∃ t1, t0.srcV f.qa f.a = .got t1 a ∧ t1.srcV f.qb f.b = .got t b

/-! ### Instructions of a Press core -/

/-- The unit and the core that a Veluc-H hart names: a core of a Press cluster, or, while Warden firmware runs, the one
program of the management pair (R500). DESIGN CHOICE (log entry 65). -/
def State.coreOf (s : State) : Hart → Option (Nat × Nat)
  | .press c k => some (c.val, k.val)
  | .mgmt => if s.wdn.fwRuns then some (mgmtUnit, 0) else none
  | .tile _ => none

/-- Hart h is core k of unit c, it can issue, and its fetch gives `f` in `len` bytes; `s'` is the state with what the
fetch's translation cached (R489, R495). -/
def PIssues (s : State) (h : Hart) (c k : Nat) (s' : State) (f : Fields) (len : Nat) : Prop :=
  s.coreOf h = some (c, k) ∧ (s.prs c).runs k = true ∧ (s.core c k).blk = none
    ∧ s.pressFetch c k = .instr s' f (len == 8) len

/-- A Press core with an instruction completed at `npc`. -/
def PCore.done (q : PCore) (npc : W64) : PCore := { q with pc := npc, fence := none, blk := none }

/-- A trap of core k of unit c at its own pc (R491): cause, address, pc, level and interrupt enable are saved at the level
that takes it, S when M_PASS passes it there and the core is below M; the interrupt enable is cleared, and the pc is the
vector, plus 0x40 from that level itself. Nothing else changes but what is due to the core's failed access; an uncorrectable word
of the management pair's SRAM is recorded (R575). -/
def Traps (s u : State) (c k code detail : Nat) (addr : W64) : Prop :=
  let q := s.core c k
  let v := u.core c k
  let l : Lvl := if (q.ctlReg 0x807).getLsbD code && q.lvl != .m then .s else .m
  let b := if l = .m then 0x800 else 0x400
  v.lvl = l ∧ v.pc = q.ctlReg (b + 1) + (if q.lvl = l then 0x40#64 else 0#64) ∧ v.ctlReg (b + 2) = q.pc
    ∧ v.ctlReg (b + 4) = BitVec.ofNat 64 (detail % 256 * 256 + code) ∧ v.ctlReg (b + 5) = addr
    ∧ v.ctlReg (b + 3) = BitVec.ofNat 64 ((if (q.ctlReg b).getLsbD 0 then 4 else 0) + q.lvl.code) ∧ v.ctlReg b = 0#64
    ∧ (∀ m, m ∉ [b, b + 2, b + 3, b + 4, b + 5] → v.ctlReg m = q.ctlReg m)
    ∧ v.xregs = q.xregs ∧ v.pend = q.pend ∧ v.tlb = q.tlb ∧ v.blk = none
    ∧ (u.prs c).scratch = (s.prs c).scratch ∧ (∀ j, j ≠ k → u.core c j = s.core c j) ∧ (∀ e, e ≠ c → u.prs e = s.prs e)
    ∧ u = { s with press := u.press,
                   wdn := if c = mgmtUnit ∧ code = 3 ∧ detail = 3 then s.wdn.recordUe false addr.toNat else s.wdn }

/-! ### Invariants -/

/-- R104: the package power cap lies between 2,500 W and the SKU cap. -/
def PowerCapLegal (s : State) : Prop := 250 ≤ s.wdn.pwrCap ∧ s.wdn.pwrCap ≤ Config.skuCap s.sku

/-- What is fused or recorded in the part at manufacture: SKU, STEP, SERIAL and the Etch map. -/
def State.fuses (s : State) : Nat × Nat × W64 × Sparse (List W32) := (s.sku, s.stepId, s.serial, s.etch)

/-- Every memory of the machine is in its canonical form. -/
def MemoriesCanonical (s : State) : Prop :=
  (∀ e ∈ s.tiles, Memory.wf e.2.mem = true) ∧ (∀ e ∈ s.press, Memory.wf e.2.scratch = true)
    ∧ Memory.wf s.wdn.ground = true ∧ Memory.wf s.wdn.sram = true ∧ Memory.wf s.wdn.msixTab = true ∧ Memory.wf s.island.buf = true
    ∧ Memory.wf s.proof.auxData = true

end Sys2Proof.Machine
end

