-- ==== Sys2Proof/Certificates/Slice0/Obligations.lean ====
section
/-! DEFINITION. The statements for the provers. -/

open Sys2Proof Sys2Proof.Machine

/-! ### Instructions of a tile: arithmetic -/

/-- Table 6.5: the operations of two sources; FMIN and FMAX look at TILE_COMPAT.SZ1_MINMAX, its bit 0 (R218). -/
def Sys2Proof.Tables.alu2 : List ((Hart → Instr) × Mn × (W32 → W32 → W32 → W32)) :=
  [(.add, .add, fun _ a b => a + b), (.sub, .sub, fun _ a b => a - b), (.and, .and, fun _ a b => a &&& b),
   (.or, .or, fun _ a b => a ||| b), (.xor, .xor, fun _ a b => a ^^^ b),
   (.sll, .sll, fun _ a b => a <<< (b.toNat % 32)), (.srl, .srl, fun _ a b => a >>> (b.toNat % 32)),
   (.sra, .sra, fun _ a b => a.sshiftRight (b.toNat % 32)),
   (.slt, .slt, fun _ a b => if a.toInt < b.toInt then 1#32 else 0#32),
   (.sltu, .sltu, fun _ a b => if a.toNat < b.toNat then 1#32 else 0#32),
   (.mul, .mul, fun _ a b => BitVec.ofInt 32 (a.toInt * b.toInt)),
   (.mulh, .mulh, fun _ a b => BitVec.ofInt 32 (a.toInt * b.toInt / 2 ^ 32)),
   (.mulhu, .mulhu, fun _ a b => BitVec.ofNat 32 (a.toNat * b.toNat / 2 ^ 32)),
   (.min, .min, fun _ a b => if b.toInt < a.toInt then b else a),
   (.max, .max, fun _ a b => if a.toInt < b.toInt then b else a),
   (.minu, .minu, fun _ a b => if b.toNat < a.toNat then b else a),
   (.maxu, .maxu, fun _ a b => if a.toNat < b.toNat then b else a),
   (.fadd, .fadd, fun _ a b => toF32 ((f32 a).add (f32 b))),
   (.fsub, .fsub, fun _ a b => toF32 ((f32 a).add (f32 b).neg)),
   (.fmul, .fmul, fun _ a b => toF32 ((f32 a).mul (f32 b))),
   (.fmin, .fmin, fun z a b => toF32 (Machine.Num.sel false (z.getLsbD 0) (f32 a) (f32 b))),
   (.fmax, .fmax, fun z a b => toF32 (Machine.Num.sel true (z.getLsbD 0) (f32 a) (f32 b))),
   (.feq, .feq, fun _ a b => if (f32 a).eqv (f32 b) then 1#32 else 0#32),
   (.flt, .flt, fun _ a b => if (f32 a).lt (f32 b) then 1#32 else 0#32),
   (.fle, .fle, fun _ a b => if (f32 a).lt (f32 b) || (f32 a).eqv (f32 b) then 1#32 else 0#32)]

/-- Every two-source operation reads its sources, registers or queue heads, and writes rd; the pops it makes and rd
are all that changes (R170, R216 to R218). -/
def Sys2Proof.Claims.TileTwoSource : Prop :=
  ∀ o ∈ Sys2Proof.Tables.alu2, ∀ (s : State) (r : TileId) (f : Fields) (len : Nat) (t : Tile) (a b : W32),
    s.issues r.val f len = true → f.mn = o.2.1 → SrcAB (s.tile r.val) f t a b →
    Gives (named len o.1 (.tile r)) s (fun u =>
      Retired s u r.val (t.setS f.d (o.2.2 t.compat a b)) ((s.tile r.val).nextPc len))

/-- Operations of one source: CLZ, POPC, and the conversions between binary32 and integers (R216, R219). -/
def Sys2Proof.Tables.alu1 : List ((Hart → Instr) × Mn × (W32 → W32)) :=
  [(.clz, .clz, fun a => BitVec.ofNat 32 ((List.range 32).foldl (fun n i => if a.getLsbD i then 31 - i else n) 32)),
   (.popc, .popc, fun a => BitVec.ofNat 32 ((List.range 32).filter (fun i => a.getLsbD i)).length),
   (.fcvtws, .fcvtws, fun a => toInt32 (f32 a)), (.fcvtsw, .fcvtsw, fun a => toF32 (numOfInt a.toInt))]

/-- Every one-source operation reads ra, a register or a queue head, and writes rd. -/
def Sys2Proof.Claims.TileOneSource : Prop :=
  ∀ o ∈ Sys2Proof.Tables.alu1, ∀ (s : State) (r : TileId) (f : Fields) (len : Nat) (t : Tile) (a : W32),
    s.issues r.val f len = true → f.mn = o.2.1 → (s.tile r.val).srcS f.qa f.a = .got t a →
    Gives (named len o.1 (.tile r)) s (fun u =>
      Retired s u r.val (t.setS f.d (o.2.2 a)) ((s.tile r.val).nextPc len))

/-- Operations with an immediate: it comes extended from the word, or whole with a LIMM prefix (R209, R216). -/
def Sys2Proof.Tables.aluImm : List ((Hart → Instr) × Mn × (W32 → W32 → W32)) :=
  [(.addi, .addi, fun a i => a + i), (.andi, .andi, fun a i => a &&& i), (.ori, .ori, fun a i => a ||| i),
   (.xori, .xori, fun a i => a ^^^ i), (.slti, .slti, fun a i => if a.toInt < i.toInt then 1#32 else 0#32),
   (.sltiu, .sltiu, fun a i => if a.toNat < i.toNat then 1#32 else 0#32), (.lui, .lui, fun _ i => i <<< 16),
   (.slli, .slli, fun a i => a <<< (i.toNat % 32)), (.srli, .srli, fun a i => a >>> (i.toNat % 32)),
   (.srai, .srai, fun a i => a.sshiftRight (i.toNat % 32))]

/-- Every immediate operation writes rd; with a LIMM prefix the row is LIMM and the pc moves on by 8 (R210, R213). -/
def Sys2Proof.Claims.TileImmediate : Prop :=
  ∀ o ∈ Sys2Proof.Tables.aluImm, ∀ (s : State) (r : TileId) (f : Fields) (len : Nat),
    s.issues r.val f len = true → f.mn = o.2.1 →
    Gives (named len o.1 (.tile r)) s (fun u =>
      Retired s u r.val ((s.tile r.val).setS f.d (o.2.2 ((s.tile r.val).sreg f.a) f.imm)) ((s.tile r.val).nextPc len))

/-- Reads and writes of a tile's scalar registers: s0 reads as zero and discards writes; a write of another register
changes that register alone (R170). -/
def Sys2Proof.Claims.ScalarRegisters : Prop :=
  ∀ (t : Tile) (n m : Nat) (v : W32),
    t.sreg 0 = 0#32 ∧ t.setS 0 v = t ∧ (n ≠ 0 → (t.setS n v).sreg n = v) ∧ (m ≠ n → (t.setS n v).sreg m = t.sreg m)
      ∧ t.setS n v = { t with sregs := (t.setS n v).sregs }

/-- Queue operands (R174 to R176): a scalar source takes the head word and a vector source 8 words; an instruction
whose queue holds too few waits, with the queues as they were; an uncorrectable word makes it fault and is not popped. -/
def Obligations.QueueOperands : Prop :=
  ∀ o ∈ Sys2Proof.Tables.alu2, ∀ (s : State) (r : TileId) (f : Fields) (len : Nat),
    s.issues r.val f len = true → f.mn = o.2.1 → f.qa = true →
    (∀ w ws, (s.tile r.val).queue f.a = w :: ws → w.e = .good →
      (s.tile r.val).srcS true f.a = .got ((s.tile r.val).setQ f.a ws) w.v)
    ∧ ((s.tile r.val).queue f.a = [] →
      Gives (named len o.1 (.tile r)) s (fun u => Held s u r.val (s.tile r.val) ∧ (u.tile r.val).waiting = true))
    ∧ (∀ w ws, (s.tile r.val).queue f.a = w :: ws → w.e = .ue →
      Gives (named len o.1 (.tile r)) s (fun u => Faults s u r.val 4 (6 + f.a) 0#64))

/-! ### Instructions of a tile: memory, control flow -/

/-- The loads of Table 6.6: size, and what rd becomes of the bytes read. -/
def Sys2Proof.Tables.loads : List ((Hart → Instr) × Mn × Nat × (Nat → W32)) :=
  [(.lw, .lw, 4, fun x => BitVec.ofNat 32 x), (.lh, .lh, 2, fun x => (BitVec.ofNat 16 x).signExtend 32),
   (.lhu, .lhu, 2, fun x => BitVec.ofNat 32 x), (.lb, .lb, 1, fun x => (BitVec.ofNat 8 x).signExtend 32),
   (.lbu, .lbu, 1, fun x => BitVec.ofNat 32 x)]

/-- A load of an aligned offset within tile memory, of a word without an uncorrectable error, writes rd with the
bytes there, lowest address least significant; memory stays as it was (R225, R7). -/
def Sys2Proof.Claims.TileLoads : Prop :=
  ∀ o ∈ Sys2Proof.Tables.loads, ∀ (s : State) (r : TileId) (f : Fields) (len : Nat),
    let t := s.tile r.val
    let e := (t.sreg f.a + f.imm).toNat
    s.issues r.val f len = true → f.mn = o.2.1 → e % o.2.2.1 = 0 → e + o.2.2.1 ≤ 0x18000 → sget .good t.upset (e / 4) ≠ .ue →
    Gives (named len o.1 (.tile r)) s (fun u =>
      Retired s u r.val (t.setS f.d (o.2.2.2 (leNat (mread t.mem e o.2.2.1)))) (t.nextPc len))

/-- The stores of Table 6.6, with their sizes. -/
def Sys2Proof.Tables.stores : List ((Hart → Instr) × Mn × Nat) := [(.sw, .sw, 4), (.sh, .sh, 2), (.sb, .sb, 1)]

/-- A store of an aligned offset within tile memory writes the low bytes of the source there, and no other byte; the
word written is good again (R182, R187, R225). A narrow store onto an uncorrectable word writes nothing (R187). -/
def Sys2Proof.Claims.TileStores : Prop :=
  ∀ o ∈ Sys2Proof.Tables.stores, ∀ (s : State) (r : TileId) (f : Fields) (len : Nat),
    let t := s.tile r.val
    let e := (t.sreg f.a + f.imm).toNat
    s.issues r.val f len = true → f.mn = o.2.1 → e % o.2.2 = 0 → e + o.2.2 ≤ 0x18000 →
    (o.2.2 = 4 ∨ sget .good t.upset (e / 4) ≠ .ue →
      Gives (named len o.1 (.tile r)) s (fun u => ∃ m,
        Retired s u r.val { t with mem := m, upset := sdel t.upset (e / 4), wb := t.wb.filter (· != e / 4) } (t.nextPc len)
          ∧ (∀ i, i < o.2.2 → mget m (e + i) = BitVec.ofNat 8 ((t.sreg f.d).toNat / 256 ^ i))
          ∧ ∀ a, a < e ∨ e + o.2.2 ≤ a → mget m a = mget t.mem a))
    ∧ (o.2.2 < 4 ∧ sget .good t.upset (e / 4) = .ue →
      Gives (named len o.1 (.tile r)) s (fun u => Faults s u r.val 4 1 (BitVec.ofNat 64 (e / 4))))

/-- Every local access with its size: a misaligned one faults MISALIGN with its size as DETAIL, and one that leaves
tile memory faults ADDR; registers, memory and queues stay as they were (R225, R229). In this the model rests on log
entry 71, which is no rule of the spec. -/
def Obligations.TileAccessFaults : Prop :=
  ∀ o ∈ [((.lw : Hart → Instr), Mn.lw, 4), (.lh, .lh, 2), (.lhu, .lhu, 2), (.lb, .lb, 1), (.lbu, .lbu, 1), (.sw, .sw, 4),
      (.sh, .sh, 2), (.sb, .sb, 1), (.ldf, .ldf, 4), (.ste, .ste, 4)],
    ∀ (s : State) (r : TileId) (f : Fields) (len : Nat),
    let t := s.tile r.val
    let e := t.sreg f.a + f.imm
    s.issues r.val f len = true → f.mn = o.2.1 →
    (e.toNat % o.2.2 ≠ 0 →
      Gives (named len o.1 (.tile r)) s (fun u => Faults s u r.val 2 o.2.2 (BitVec.ofNat 64 e.toNat)))
    ∧ (e.toNat % o.2.2 = 0 → 0x18000 < e.toNat + o.2.2 →
      Gives (named len o.1 (.tile r)) s (fun u => Faults s u r.val 3 0 (BitVec.ofNat 64 e.toNat)))

/-- LDF takes a full word and leaves it empty; STE fills an empty one (R229); no other word's bit changes. The statement
is of a tile on which nothing else waits. -/
def Obligations.TileFullEmpty : Prop :=
  ∀ (s : State) (r : TileId) (f : Fields) (len : Nat),
    let t := s.tile r.val
    let e := (t.sreg f.a + f.imm).toNat
    s.issues r.val f len = true → e % 4 = 0 → e + 4 ≤ 0x18000 → sget .good t.upset (e / 4) ≠ .ue → t.waiters = [] →
    (f.mn = .ldf → sget false t.full (e / 4) = true →
      Gives (named len .ldf (.tile r)) s (fun u =>
        Retired s u r.val { t.setS f.d (mread32 t.mem (4 * (e / 4))) with full := sput t.full (e / 4) false } (t.nextPc len)))
    ∧ (f.mn = .ldf → sget false t.full (e / 4) = false →
      Gives (named len .ldf (.tile r)) s (fun u =>
        Parks s u r.val { t with waiters := [.core false (e / 4) 0#32 f.d (t.nextPc len)] }))
    ∧ (f.mn = .ste → sget false t.full (e / 4) = false →
      Gives (named len .ste (.tile r)) s (fun u =>
        Retired s u r.val { t with mem := mwrite32 t.mem (4 * (e / 4)) (t.sreg f.d), upset := sdel t.upset (e / 4),
                                   wb := t.wb.filter (· != e / 4), full := sput t.full (e / 4) true } (t.nextPc len)))
    ∧ (f.mn = .ste → sget false t.full (e / 4) = true →
      Gives (named len .ste (.tile r)) s (fun u =>
        Parks s u r.val { t with waiters := [.core true (e / 4) (t.sreg f.d) f.d (t.nextPc len)] }))

/-- CRD reads, and CWR writes, a register of the tile's own control space as its own software (R226, R227); an offset
outside the ranges of Table 2.8 faults ADDR. -/
def Sys2Proof.Claims.TileControlAccess : Prop :=
  ∀ (s : State) (r : TileId) (f : Fields) (len : Nat),
    let t := s.tile r.val
    let e := t.sreg f.a + f.imm
    s.issues r.val f len = true → e.toNat % 4 = 0 →
    (f.mn = .crd → ctlRange e.toNat 4 = true →
      Gives (named len .crd (.tile r)) s (fun u =>
        Retired s u r.val ((t.ctlRead r.val .tileSelf e.toNat).1.setS f.d (t.ctlRead r.val .tileSelf e.toNat).2) (t.nextPc len)))
    ∧ (f.mn = .cwr → ctlRange e.toNat 4 = true →
      Gives (named len .cwr (.tile r)) s (fun u =>
        Retired s u r.val (t.ctlWrite .tileSelf e.toNat (t.sreg f.d)) (t.nextPc len)))
    ∧ (ctlRange e.toNat 4 = false → ∀ o ∈ [((.crd : Hart → Instr), Mn.crd), (.cwr, .cwr)], f.mn = o.2 →
      Gives (named len o.1 (.tile r)) s (fun u => Faults s u r.val 3 0 (BitVec.ofNat 64 e.toNat)))

/-- The conditions of the branches (R221). -/
def Sys2Proof.Tables.branches : List ((Hart → Instr) × Mn × (W32 → W32 → Bool)) :=
  [(.beq, .beq, fun a b => decide (a = b)), (.bne, .bne, fun a b => decide (a ≠ b)),
   (.blt, .blt, fun a b => decide (a.toInt < b.toInt)), (.bge, .bge, fun a b => decide (b.toInt ≤ a.toInt)),
   (.bltu, .bltu, fun a b => decide (a.toNat < b.toNat)), (.bgeu, .bgeu, fun a b => decide (b.toNat ≤ a.toNat))]

/-- A branch compares its two registers; taken, it goes to PC + 4 × sext(off16), and faults ADDR when that lies outside
tile memory; not taken, it goes on and never checks its target (R221). No register changes. -/
def Sys2Proof.Claims.TileBranches : Prop :=
  ∀ o ∈ Sys2Proof.Tables.branches, ∀ (s : State) (r : TileId) (f : Fields) (len : Nat),
    let t := s.tile r.val
    let tgt := t.pc + f.imm * 4#32
    s.issues r.val f len = true → f.mn = o.2.1 →
    (o.2.2 (t.sreg f.d) (t.sreg f.a) = false →
      Gives (named len o.1 (.tile r)) s (fun u => Retired s u r.val t (t.nextPc len)))
    ∧ (o.2.2 (t.sreg f.d) (t.sreg f.a) = true → tgt.toNat < 0x18000 →
      Gives (named len o.1 (.tile r)) s (fun u => Retired s u r.val t tgt))
    ∧ (o.2.2 (t.sreg f.d) (t.sreg f.a) = true → 0x18000 ≤ tgt.toNat →
      Gives (named len o.1 (.tile r)) s (fun u => Faults s u r.val 3 0 (BitVec.ofNat 64 tgt.toNat)))

/-- JAL and JALR jump and write the link; JALR reads ra before it writes rd; a faulting jump writes no link (R222). In
this the model rests on log entry 71, which is no rule of the spec. -/
def Sys2Proof.Claims.TileJumps : Prop :=
  ∀ (s : State) (r : TileId) (f : Fields) (len : Nat),
    let t := s.tile r.val
    let j := t.pc + f.imm * 4#32
    let k := t.sreg f.a + f.imm
    s.issues r.val f len = true →
    (f.mn = .jal → j.toNat < 0x18000 →
      Gives (named len .jal (.tile r)) s (fun u => Retired s u r.val (t.setS f.d (t.nextPc len)) j))
    ∧ (f.mn = .jal → 0x18000 ≤ j.toNat →
      Gives (named len .jal (.tile r)) s (fun u => Faults s u r.val 3 0 (BitVec.ofNat 64 j.toNat)))
    ∧ (f.mn = .jalr → k.toNat % 4 = 0 → k.toNat < 0x18000 →
      Gives (named len .jalr (.tile r)) s (fun u => Retired s u r.val (t.setS f.d (t.nextPc len)) k))
    ∧ (f.mn = .jalr → k.toNat % 4 ≠ 0 →
      Gives (named len .jalr (.tile r)) s (fun u => Faults s u r.val 2 4 (BitVec.ofNat 64 k.toNat)))
    ∧ (f.mn = .jalr → k.toNat % 4 = 0 → 0x18000 ≤ k.toNat →
      Gives (named len .jalr (.tile r)) s (fun u => Faults s u r.val 3 0 (BitVec.ofNat 64 k.toNat)))

/-- HALT completes: the tile is HALTED with its pc after the HALT, and its field controller logs it (R223, R583); BRK
raises BREAK with imm16[7:0] as DETAIL at its own address (R224). -/
def Sys2Proof.Claims.TileHaltAndBreak : Prop :=
  ∀ (s : State) (r : TileId) (f : Fields) (len : Nat),
    let t := s.tile r.val
    s.issues r.val f len = true →
    (f.mn = .halt →
      Gives (named len .halt (.tile r)) s (fun u =>
        (u.tile r.val).state = .halted ∧ (u.tile r.val).pc = t.nextPc len ∧ (u.tile r.val).core = t.core
          ∧ u.fld (fieldOf r.val)
              = (s.fld (fieldOf r.val)).logFault true 0 (rowOf r.val % 96) (colOf r.val % 96)
          ∧ u = { s with tiles := u.tiles, fields := u.fields }
          ∧ (∀ k, k ≠ s.phys r.val → sget {} u.tiles k = sget {} s.tiles k)
          ∧ ∀ g, g ≠ fieldOf r.val → u.fld g = s.fld g))
    ∧ (f.mn = .brk →
      Gives (named len .brk (.tile r)) s (fun u => Faults s u r.val 0xB (f.imm.toNat % 256) 0#64))

/-! ### Instructions of a tile: remote access, queues, barriers -/

/-- Forming a Global Address (R233, R65): the pair's OFFSET plus the immediate, region-relative spaces resolved by
TILE_ORIGIN; the faults ADDR and MISALIGN of each check, in order. -/
def Obligations.GlobalAddress : Prop :=
  ∀ (t : Tile) (n : Nat) (imm : W32) (spaces : List Nat) (al size : Nat),
    let w := t.spair n
    let g := gaOf w
    let off := (g.off : Int) + imm.toInt
    let h : Ga := { g with off := off.toNat }
    let m : Ga := { h with space := h.space - 8, y := (h.y + bits t.origin 19 10) % 1024, x := (h.x + bits t.origin 9 0) % 1024 }
    (off < 0 ∨ 2 ^ 29 ≤ off → formGa t n imm spaces al size = .error ⟨3, 1, w⟩)
    ∧ (0 ≤ off → off < 2 ^ 29 → g.space ∉ spaces → formGa t n imm spaces al size = .error ⟨3, 1, h.word⟩)
    ∧ (0 ≤ off → off < 2 ^ 29 → g.space ∈ spaces → g.space < 8 → h.bad size = false → h.off % al = 0 →
        formGa t n imm spaces al size = .ok h)
    ∧ (0 ≤ off → off < 2 ^ 29 → g.space ∈ spaces → g.space < 8 → h.bad size = true →
        formGa t n imm spaces al size = .error ⟨3, 1, h.word⟩)
    ∧ (0 ≤ off → off < 2 ^ 29 → g.space ∈ spaces → g.space < 8 → h.bad size = false → h.off % al ≠ 0 →
        formGa t n imm spaces al size = .error ⟨2, al, h.word⟩)
    ∧ (0 ≤ off → off < 2 ^ 29 → g.space ∈ spaces → g.space = 8 ∨ g.space = 9 →
        g.y < 96 * (bits t.origin 25 23 + 1) → g.x < 96 * (bits t.origin 22 20 + 1) → m.bad size = false → m.off % al = 0 →
        formGa t n imm spaces al size = .ok m)
    ∧ (0 ≤ off → off < 2 ^ 29 → g.space ∈ spaces → g.space = 8 ∨ g.space = 9 →
        g.y < 96 * (bits t.origin 25 23 + 1) → g.x < 96 * (bits t.origin 22 20 + 1) → m.bad size = true →
        formGa t n imm spaces al size = .error ⟨3, 1, m.word⟩)
    ∧ (0 ≤ off → off < 2 ^ 29 → g.space ∈ spaces → g.space = 8 ∨ g.space = 9 →
        g.y < 96 * (bits t.origin 25 23 + 1) → g.x < 96 * (bits t.origin 22 20 + 1) → m.bad size = false → m.off % al ≠ 0 →
        formGa t n imm spaces al size = .error ⟨2, al, m.word⟩)
    ∧ (0 ≤ off → off < 2 ^ 29 → g.space ∈ spaces → g.space = 8 ∨ g.space = 9 →
        96 * (bits t.origin 25 23 + 1) ≤ g.y ∨ 96 * (bits t.origin 22 20 + 1) ≤ g.x →
        formGa t n imm spaces al size = .error ⟨3, 2, h.word⟩)

/-- RLW, RLDF and RSTE send their request on C0 and hold the pipeline in M with the register and the next pc that the
response will set (R239, R242, R167). -/
def Sys2Proof.Claims.TileRemoteBlocking : Prop :=
  ∀ (s : State) (r : TileId) (f : Fields) (len : Nat) (g : Ga),
    let t := s.tile r.val
    s.issues r.val f len = true → s.mayEnter r.val 0 0 = true →
    (f.mn = .rlw → formGa t f.a f.imm [0, 1, 2, 3, 4, 5, 8, 9] 4 4 = .ok g →
      Gives (named len .rlw (.tile r)) s (fun u => ∃ p, p.Goes s r.val g (g.space + 1) 0 ∧ p.h.long = false
        ∧ p.h.payload = BitVec.ofNat 32 (g.off / 4 + (if g.space = 4 then g.x * 2 ^ 27 else 0))
        ∧ Blocks s u r.val .rlw f.d (t.nextPc len) g p))
    ∧ (f.mn = .rldf → formGa t f.a f.imm [0, 8] 4 4 = .ok g →
      Gives (named len .rldf (.tile r)) s (fun u => ∃ p, p.Goes s r.val g 0x07 0 ∧ p.h.long = false
        ∧ p.h.payload = BitVec.ofNat 32 (g.off / 4 + (if g.space = 4 then g.x * 2 ^ 27 else 0))
        ∧ Blocks s u r.val .rldf f.d (t.nextPc len) g p))
    ∧ (f.mn = .rste → formGa t f.a f.imm [0, 8] 4 4 = .ok g →
      Gives (named len .rste (.tile r)) s (fun u => ∃ p, p.Goes s r.val g 0x10 0 ∧ p.h.long = true ∧ p.h.off = g.off
        ∧ p.ws = [t.sreg f.d] ∧ Blocks s u r.val .rste f.d (t.nextPc len) g p))

/-- RSW, RSH, RSB and RCOPY leave as one posted data packet on C0 and complete; a store of less than a word stands in its
byte lanes; RCOPY carries the words of local memory (R236, R240, R241). -/
def Sys2Proof.Claims.TilePosted : Prop :=
  ∀ (s : State) (r : TileId) (f : Fields) (len : Nat) (g : Ga),
    let t := s.tile r.val
    let v := t.sreg f.d
    s.issues r.val f len = true → s.mayEnter r.val 0 0 = true → t.freeTag ≠ none →
    (f.mn = .rsw → formGa t f.a f.imm [0, 1, 2, 3, 4, 5, 8, 9] 4 4 = .ok g →
      Gives (named len .rsw (.tile r)) s (fun u => Posts s u r.val t g (g.space + 8) 0 [v] (t.nextPc len)))
    ∧ (f.mn = .rsh → formGa t f.a f.imm [0, 8] 2 2 = .ok g →
      Gives (named len .rsh (.tile r)) s (fun u =>
        Posts s u r.val t g 0x0E 0 [BitVec.ofNat 32 (v.toNat % 2 ^ 16 * 2 ^ (8 * (g.off % 4)))] (t.nextPc len)))
    ∧ (f.mn = .rsb → formGa t f.a f.imm [0, 8] 1 1 = .ok g →
      Gives (named len .rsb (.tile r)) s (fun u =>
        Posts s u r.val t g 0x0F 0 [BitVec.ofNat 32 (v.toNat % 2 ^ 8 * 2 ^ (8 * (g.off % 4)))] (t.nextPc len)))
    ∧ (∀ t2 a b, f.mn = .rcopy → SrcAB t f t2 a b → 1 ≤ b.toNat → b.toNat ≤ 32 →
      formGa t2 f.d 0#32 [0, 8] 4 (4 * b.toNat) = .ok g → a.toNat % 4 = 0 → a.toNat + 4 * b.toNat ≤ 0x18000 →
      (∀ i, i < b.toNat → sget .good t.upset (a.toNat / 4 + i) ≠ .ue) →
      Gives (named len .rcopy (.tile r)) s (fun u =>
        Posts s u r.val t2 g 0x08 0 ((List.range b.toNat).map (fun i => mread32 t.mem (a.toNat + 4 * i))) (t.nextPc len)))

/-- SENDQ, SENDQ2 and SENDQM send one message on C2 to queue OFFSET[1:0] of the tile named; with O = 1 only once the
fence of R238 is passed (R245). -/
def Sys2Proof.Claims.TileQueueSend : Prop :=
  ∀ (s : State) (r : TileId) (f : Fields) (len : Nat) (g : Ga) (t2 : Tile) (a b : W32),
    let t := s.tile r.val
    s.issues r.val f len = true → s.canInject r.val .loc 2 = true → t.freeTag ≠ none → SrcAB t f t2 a b →
    formGa t2 f.d 0#32 [0, 8] 1 1 = .ok g → g.off < 4 →
    (f.o = false ∨ t.fenced = true ∨ t.latch = none ∧ (t.fence = some [] ∨ t.fence = none ∧ t.openC0 = [])) →
    (f.mn = .sendq → Gives (named len .sendq (.tile r)) s (fun u => Posts s u r.val t2 g 0x18 2 [a] (t.nextPc len)))
    ∧ (f.mn = .sendq2 →
        Gives (named len .sendq2 (.tile r)) s (fun u => Posts s u r.val t2 g 0x18 2 [a, b] (t.nextPc len)))
    ∧ (f.mn = .sendqm → 1 ≤ b.toNat → b.toNat ≤ 8 → a.toNat % 4 = 0 → a.toNat + 4 * b.toNat ≤ 0x18000 →
        (∀ i, i < b.toNat → sget .good t.upset (a.toNat / 4 + i) ≠ .ue) →
        Gives (named len .sendqm (.tile r)) s (fun u =>
          Posts s u r.val t2 g 0x18 2 ((List.range b.toNat).map (fun i => mread32 t.mem (a.toNat + 4 * i))) (t.nextPc len)))

/-- REMFENCE completes with nothing posted on C0 outstanding, waits for what is, and takes a latched error as REMOTE,
which clears the latch (R238). -/
def Sys2Proof.Claims.TileRemfence : Prop :=
  ∀ (s : State) (r : TileId) (f : Fields) (len : Nat),
    let t := s.tile r.val
    s.issues r.val f len = true → f.mn = .remfence →
    (t.latch = none → t.fence = some [] ∨ t.fence = none ∧ t.openC0 = [] →
      Gives (named len .remfence (.tile r)) s (fun u => Retired s u r.val t (t.nextPc len)))
    ∧ (t.latch = none → t.fence = none → t.openC0 ≠ [] →
      Gives (named len .remfence (.tile r)) s (fun u =>
        Held s u r.val { t with fence := some t.openC0 } ∧ (u.tile r.val).waiting = true))
    ∧ (∀ st ga, t.latch = some (st, ga) → t.latchMore = false →
      Gives (named len .remfence (.tile r)) s (fun u => Faults s u r.val 9 st ga ∧ (u.tile r.val).latch = none))

/-- GAXY replaces the Y and X fields of the GA in a pair; QTRY pops a word or reports empty, and never waits; QCNT counts
(R234, R246, R247). -/
def Sys2Proof.Claims.TileQueueTest : Prop :=
  ∀ (s : State) (r : TileId) (f : Fields) (len : Nat),
    let t := s.tile r.val
    s.issues r.val f len = true →
    (∀ t2 a b, f.mn = .gaxy → SrcAB t f t2 a b → f.d % 2 = 0 → f.d < 32 → f.d ≠ 0 →
      Gives (named len .gaxy (.tile r)) s (fun u => ∃ v, Retired s u r.val v (t.nextPc len)
        ∧ v.spair f.d = Ga.word { gaOf (t2.spair f.d) with y := bits a 9 0, x := bits b 9 0 }
        ∧ v = { t2 with sregs := v.sregs } ∧ ∀ n, n ≠ f.d → n ≠ f.d + 1 → v.sreg n = t2.sreg n))
    ∧ (∀ t2 a b, f.mn = .gaxy → SrcAB t f t2 a b → f.d = 0 →
      Gives (named len .gaxy (.tile r)) s (fun u => Retired s u r.val
        (t2.setS 1 ((t2.sreg 1 &&& 0xFFFE0000#32) ||| BitVec.ofNat 32 (bits a 9 0 * 128 + bits b 9 0 / 8))) (t.nextPc len)))
    ∧ (f.mn = .qtry → t.queue f.a = [] →
      Gives (named len .qtry (.tile r)) s (fun u =>
        Retired s u r.val ((t.setS f.d 0#32).setS (f.d + 1) 0#32) (t.nextPc len)))
    ∧ (∀ w ws, f.mn = .qtry → t.queue f.a = w :: ws → w.e = .good →
      Gives (named len .qtry (.tile r)) s (fun u =>
        Retired s u r.val (((t.setQ f.a ws).setS f.d w.v).setS (f.d + 1) 1#32) (t.nextPc len)))
    ∧ (f.mn = .qcnt →
      Gives (named len .qcnt (.tile r)) s (fun u =>
        Retired s u r.val (t.setS f.d (BitVec.ofNat 32 (t.queue f.a).length)) (t.nextPc len)))

/-- BARRIVE enters the id in the lowest free entry; the arrival leaves on C3 at once when nothing it must follow is
outstanding, and otherwise waits in the entry (R250, R406). BARWAIT and BARTEST take a release; misuse is BARRIER with
the reason of Table 10.6 (R252, R253). -/
def Sys2Proof.Claims.TileBarriers : Prop :=
  ∀ (s : State) (r : TileId) (f : Fields) (len : Nat) (n : Nat),
    let t := s.tile r.val
    let i := t.sreg f.a + f.imm
    s.issues r.val f len = true →
    (16384 ≤ i.toNat → ∀ o ∈ [((.barrive : Hart → Instr), Mn.barrive), (.barwait, .barwait), (.bartest, .bartest)], f.mn = o.2 →
      Gives (named len o.1 (.tile r)) s (fun u => Faults s u r.val 0xA 1 (BitVec.ofNat 64 i.toNat)))
    ∧ (i.toNat < 16384 →
    (f.mn = .barrive → t.pendOf i.toNat = none → t.pendFree = some n → t.arrivals = [] →
      bit t.compat 1 = true ∨ t.openC0 = [] → s.canInject r.val .loc 3 = true →
      Gives (named len .barrive (.tile r)) s (fun u => ∃ p, p.h.op = 0x1C ∧ p.h.ch = 3 ∧ p.h.long = false
        ∧ p.h.payload = BitVec.ofNat 32 i.toNat ∧ routerOf p.h.dy p.h.dx = originOf (fieldOf r.val) ∧ Leaves s u r.val p
        ∧ Ends s u r.val { t with pend := sput t.pend n { valid := true, sent := true, id := i.toNat } } (t.nextPc len)))
    ∧ (f.mn = .barrive → t.pendOf i.toNat = none → t.pendFree = some n → t.arrivals = [] →
      bit t.compat 1 = false → t.openC0 ≠ [] →
      Gives (named len .barrive (.tile r)) s (fun u =>
        Retired s u r.val { t with pend := sput t.pend n { valid := true, id := i.toNat, waits := t.openC0 },
                                   arrivals := [n] } (t.nextPc len)))
    ∧ (f.mn = .barrive → t.pendOf i.toNat = some n →
      Gives (named len .barrive (.tile r)) s (fun u => Faults s u r.val 0xA 2 (BitVec.ofNat 64 i.toNat)))
    ∧ (f.mn = .barrive → t.pendOf i.toNat = none → t.pendFree = none →
      Gives (named len .barrive (.tile r)) s (fun u => Faults s u r.val 0xA 3 (BitVec.ofNat 64 i.toNat)))
    ∧ (f.mn = .barwait → t.latch = none → t.pendOf i.toNat = some n → (sget {} t.pend n).released = true →
      Gives (named len .barwait (.tile r)) s (fun u =>
        Retired s u r.val { t with pend := sput t.pend n {} } (t.nextPc len)))
    ∧ (f.mn = .barwait → t.latch = none → t.pendOf i.toNat = some n → (sget {} t.pend n).released = false →
      Gives (named len .barwait (.tile r)) s (fun u => Held s u r.val t ∧ (u.tile r.val).waiting = true))
    ∧ (∀ st ga, f.mn = .barwait → t.latch = some (st, ga) → t.latchMore = false → t.pendOf i.toNat = some n →
      Gives (named len .barwait (.tile r)) s (fun u =>
        Faults s u r.val 9 st ga ∧ (u.tile r.val).latch = none ∧ (u.tile r.val).pend = t.pend))
    ∧ (f.mn = .bartest → t.pendOf i.toNat = some n → (sget {} t.pend n).released = true →
      Gives (named len .bartest (.tile r)) s (fun u =>
        Retired s u r.val ({ t with pend := sput t.pend n {} }.setS f.d 1#32) (t.nextPc len)))
    ∧ (f.mn = .bartest → t.pendOf i.toNat = some n → (sget {} t.pend n).released = false →
      Gives (named len .bartest (.tile r)) s (fun u => Retired s u r.val (t.setS f.d 0#32) (t.nextPc len)))
    ∧ (∀ o ∈ [((.barwait : Hart → Instr), Mn.barwait), (.bartest, .bartest)], f.mn = o.2 → t.pendOf i.toNat = none →
      Gives (named len o.1 (.tile r)) s (fun u => Faults s u r.val 0xA 4 (BitVec.ofNat 64 i.toNat))))

/-! ### Instructions of a tile: vectors, the Lattice, streams -/

/-- Lanes read back as written: 16 lanes of 16 bits in a vector register, of 32 bits in an accumulator; no other register
changes (R171, R172). -/
def Sys2Proof.Claims.VectorRegisters : Prop :=
  ∀ (t : Tile) (n m : Nat) (l : List Nat), l.length = 16 → m ≠ n →
    ((∀ x ∈ l, x < 2 ^ 16) → (t.setVl n l).vlanes n = l ∧ (t.setVl n l).vlanes m = t.vlanes m
      ∧ t.setVl n l = { t with vregs := (t.setVl n l).vregs })
    ∧ ((∀ x ∈ l, x < 2 ^ 32) → (t.setAl n l).alanes n = l ∧ (t.setAl n l).alanes m = t.alanes m
      ∧ t.setAl n l = { t with accs := (t.setAl n l).accs })

/-- VLDB and VLDH fill 16 lanes from memory, a byte or two each; VSTB and VSTH store the low byte or both bytes of each
lane, and no other byte (R278, R279). -/
def Obligations.VectorMemory : Prop :=
  ∀ o ∈ [((.vldb : Hart → Instr), Mn.vldb, (.vstb : Hart → Instr), Mn.vstb, 1), (.vldh, .vldh, .vsth, .vsth, 2)],
    ∀ (s : State) (r : TileId) (f : Fields) (len : Nat),
    let es := o.2.2.2.2
    let t := s.tile r.val
    let e := (t.sreg f.a + f.imm).toNat
    s.issues r.val f len = true → e % 4 = 0 → e + 16 * es ≤ 0x18000 →
    (f.mn = o.2.1 → (∀ i, i < 4 * es → sget .good t.upset (e / 4 + i) ≠ .ue) →
      Gives (named len o.1 (.tile r)) s (fun u =>
        Retired s u r.val (t.setVl f.d ((List.range 16).map (fun i => leNat (mread t.mem (e + es * i) es)))) (t.nextPc len)))
    ∧ (f.mn = o.2.2.2.1 →
      Gives (named len o.2.2.1 (.tile r)) s (fun u => ∃ m v w,
        Retired s u r.val { t with mem := m, upset := v, wb := w } (t.nextPc len)
          ∧ (∀ i j, i < 16 → j < es → mget m (e + es * i + j) = BitVec.ofNat 8 ((t.vlanes f.d).getD i 0 / 256 ^ j))
          ∧ (∀ a, a < e ∨ e + 16 * es ≤ a → mget m a = mget t.mem a)
          ∧ ∀ n, sget .good v n = if e / 4 ≤ n ∧ n < e / 4 + 4 * es then .good else sget .good t.upset n))

/-- The element-wise operations of R280. -/
def Sys2Proof.Tables.vec2 : List ((Hart → Instr) × Mn × (Bool → Machine.Num → Machine.Num → Machine.Num)) :=
  [(.vadd, .vadd, fun _ a b => a.add b), (.vsub, .vsub, fun _ a b => a.add b.neg), (.vmul, .vmul, fun _ a b => a.mul b),
   (.vmin, .vmin, fun z a b => Machine.Num.sel false z a b), (.vmax, .vmax, fun z a b => Machine.Num.sel true z a b)]

/-- An element-wise operation decodes both elements of a lane exactly, operates, and narrows once to FMT (R266, R280). -/
def Sys2Proof.Claims.VectorArithmetic : Prop :=
  ∀ o ∈ Sys2Proof.Tables.vec2, ∀ (s : State) (r : TileId) (f : Fields) (len : Nat) (t : Tile) (a b : List Nat),
    s.issues r.val f len = true → f.mn = o.2.1 → VecAB (s.tile r.val) f t a b →
    Gives (named len o.1 (.tile r)) s (fun u =>
      Retired s u r.val
        (t.setVl f.d (List.zipWith (fun x y =>
          narrow f.fmt f.sat (o.2.2 (t.compat.getLsbD 0) (decNum f.fmt (elemOf f.fmt x)) (decNum f.fmt (elemOf f.fmt y)))) a b))
        ((s.tile r.val).nextPc len))

/-- VMOV, VSPLAT, VEXT, VINS, VCVT, SCVTF and SCVTN (R281 to R283). -/
def Sys2Proof.Claims.VectorMoves : Prop :=
  ∀ (s : State) (r : TileId) (f : Fields) (len : Nat) (t : Tile),
    let npc := (s.tile r.val).nextPc len
    s.issues r.val f len = true →
    (∀ l, (s.tile r.val).srcV f.qa f.a = .got t l →
      (f.mn = .vmov → Gives (named len .vmov (.tile r)) s (fun u => Retired s u r.val (t.setVl f.d l) npc))
      ∧ (f.mn = .vext → Gives (named len .vext (.tile r)) s (fun u =>
          Retired s u r.val (t.setS f.d (BitVec.ofNat 32 (l.getD f.b 0))) npc))
      ∧ (f.mn = .vcvt → Gives (named len .vcvt (.tile r)) s (fun u =>
          Retired s u r.val (t.setVl f.d (l.map (fun x => narrow f.fmt f.sat (decNum f.b (elemOf f.b x))))) npc)))
    ∧ (∀ a, (s.tile r.val).srcS f.qa f.a = .got t a →
      (f.mn = .vsplat → Gives (named len .vsplat (.tile r)) s (fun u =>
          Retired s u r.val (t.setVl f.d (List.replicate 16 (elemOf f.fmt a.toNat))) npc))
      ∧ (f.mn = .vins → Gives (named len .vins (.tile r)) s (fun u =>
          Retired s u r.val (t.setVl f.d ((t.vlanes f.d).set f.b (elemOf f.fmt a.toNat))) npc))
      ∧ (f.mn = .scvtf → Gives (named len .scvtf (.tile r)) s (fun u =>
          Retired s u r.val (t.setS f.d (toF32 (decNum f.fmt (elemOf f.fmt a.toNat)))) npc))
      ∧ (f.mn = .scvtn → Gives (named len .scvtn (.tile r)) s (fun u =>
          Retired s u r.val (t.setS f.d (BitVec.ofNat 32 (narrow f.fmt f.sat (f32 a)))) npc)))

/-- Lattice commands without sources, and the command that each hands over (R285, R293, R299). -/
def Sys2Proof.Tables.lattice : List ((Hart → Instr) × Mn × (Fields → LCmd)) :=
  [(.lzero, .lzero, fun f => .lzero f.d), (.lmov, .lmov, fun f => .lmov f.d f.a), (.ladd, .ladd, fun f => .ladd f.fmt f.d f.a),
   (.lmaxa, .lmaxa, fun f => .lsel true f.fmt f.d f.a), (.lmina, .lmina, fun f => .lsel false f.fmt f.d f.a),
   (.lcvt, .lcvt, fun f => .lcvt f.fmt f.sat (f.fmt == 0) f.d f.a (sInt 5 f.b)),
   (.lcvtq, .lcvtq, fun f => .lcvt 0 false false f.d f.a (sInt 5 f.b)),
   (.lpush, .lpush, fun f => .lpush f.d f.a (sInt 5 f.b))]

/-- A Lattice command reads its sources at issue and is handed to a queue of 4; while the queue is full the core stalls
and pops nothing (R285, R286). LVM also needs its two units to read the same FMT of 0 to 4 (R270, R301). -/
def Sys2Proof.Claims.LatticeIssue : Prop :=
  ∀ (s : State) (r : TileId) (f : Fields) (len : Nat),
    let t := s.tile r.val
    let npc := t.nextPc len
    s.issues r.val f len = true →
    (∀ o ∈ Sys2Proof.Tables.lattice, f.mn = o.2.1 →
      (t.latq.length < 4 → Gives (named len o.1 (.tile r)) s (fun u =>
        Retired s u r.val { t with latq := t.latq ++ [o.2.2 f] } npc))
      ∧ (4 ≤ t.latq.length → Gives (named len o.1 (.tile r)) s (fun u =>
        Held s u r.val t ∧ (u.tile r.val).waiting = false)))
    ∧ (∀ t2 a b, f.mn = .lmac → VecAB t f t2 a b → t.latq.length < 4 →
      Gives (named len .lmac (.tile r)) s (fun u =>
        Retired s u r.val { t2 with latq := t.latq ++ [.lmac f.fmt f.d a b] } npc))
    ∧ (∀ t1 t2 a b, f.mn = .lmacs → t.srcS f.qa f.a = .got t1 a → t1.srcV f.qb f.b = .got t2 b → t.latq.length < 4 →
      Gives (named len .lmacs (.tile r)) s (fun u =>
        Retired s u r.val { t2 with latq := t.latq ++ [.lmac f.fmt f.d (List.replicate 16 (elemOf f.fmt a.toNat)) b] } npc))
    ∧ (∀ t2 a, f.mn = .lwid → t.srcV f.qa f.a = .got t2 a → t.latq.length < 4 →
      Gives (named len .lwid (.tile r)) s (fun u => Retired s u r.val { t2 with latq := t.latq ++ [.lwid f.fmt f.d a] } npc))
    ∧ (∀ k, f.mn = .lvm → (t.unit f.b).readFmt = some k → (t.unit f.fmt).readFmt = some k → k ≤ 4 → t.latq.length < 4 →
      Gives (named len .lvm (.tile r)) s (fun u =>
        Retired s u r.val { t with latq := t.latq ++ [.lvm k f.d (t.sreg f.a).toNat f.b f.fmt] } npc))
    ∧ (f.mn = .lvm → (t.unit f.b).readFmt = none ∨ (t.unit f.fmt).readFmt = none →
      Gives (named len .lvm (.tile r)) s (fun u => Held s u r.val t ∧ (u.tile r.val).waiting = false))
    ∧ (∀ k m, f.mn = .lvm → (t.unit f.b).readFmt = some k → (t.unit f.fmt).readFmt = some m → k ≠ m ∨ 4 < k →
      Gives (named len .lvm (.tile r)) s (fun u => Faults s u r.val 5 (k * 16 + m) 0#64))

/-- LATTICE_CMD_START: the oldest command of the queue executes on the accumulators as Tables 7.4 and 7.5 say, when no
LVM is running (R287, R293, R300, R301). -/
def Sys2Proof.Claims.LatticeStart : Prop :=
  ∀ (s : State) (r : TileId) (rest : List LCmd),
    let t := s.tile r.val
    let gives := fun (v : Tile) =>
      Gives (.latticeCmdStart r) s (fun u => OnlyTile r.val s u ∧ u.tile r.val = { v with latq := rest })
    t.rst = false → t.latRun = none →
    (∀ f d xs ws, t.latq = .lmac f d xs ws :: rest →
      gives (t.setAl d (List.zipWith (fun acc p => macLane f acc p.1 p.2) (t.alanes d) (xs.zip ws))))
    ∧ (∀ d, t.latq = .lzero d :: rest → gives (t.setAl d (List.replicate 16 0)))
    ∧ (∀ d a, t.latq = .lmov d a :: rest → gives (t.setAl d (t.alanes a)))
    ∧ (∀ d a, t.latq = .ladd 0 d a :: rest →
      gives (t.setAl d (List.zipWith (fun x y => (x + y) % 2 ^ 32) (t.alanes d) (t.alanes a))))
    ∧ (∀ f d a, f ≠ 0 → t.latq = .ladd f d a :: rest →
      gives (t.setAl d (List.zipWith (fun x y => narrow 5 false ((decNum 5 x).add (decNum 5 y))) (t.alanes d) (t.alanes a))))
    ∧ (∀ mx d a, t.latq = .lsel mx 0 d a :: rest →
      gives (t.setAl d (List.zipWith (fun x y =>
        if mx then (if sInt 32 x < sInt 32 y then y else x) else (if sInt 32 y ≤ sInt 32 x then y else x))
        (t.alanes d) (t.alanes a))))
    ∧ (∀ mx f d a, f ≠ 0 → t.latq = .lsel mx f d a :: rest →
      gives (t.setAl d (List.zipWith (fun x y => narrow 5 false (Machine.Num.sel mx (t.compat.getLsbD 0) (decNum 5 x) (decNum 5 y)))
        (t.alanes d) (t.alanes a))))
    ∧ (∀ f d xs, t.latq = .lwid f d xs :: rest → gives (t.setAl d (xs.map (widen f))))
    ∧ (∀ f sat int w a sc, t.latq = .lcvt f sat int w a sc :: rest →
      gives (t.setVl w ((t.alanes a).map (narrowLane f sat int sc))))
    ∧ (∀ f d ua uw, t.latq = .lvm f d 0 ua uw :: rest → gives t)
    ∧ (∀ f d n ua uw, n ≠ 0 → t.latq = .lvm f d n ua uw :: rest →
      gives { t with latRun := some { f := f, ad := d, left := n, ua := ua, uw := uw } })
    ∧ (∀ n a sc d, t.latq = .lpush n a sc :: rest → (t.unit n).pushRoom = some d →
      gives (t.setUnit n { t.unit n with taken := (t.unit n).taken + 1,
                                         res := (t.unit n).res ++ [pushLanes d sc (t.alanes a)] }))

/-- LVM_BLOCK: a block takes 16 activations from unit A and 16 positions from unit W. It keeps what it has while unit W has
no more; complete, it accumulates every product and counts itself; where unit W's items come from two modes the lanes are
the free value (R302, R687). While unit A has nothing, nothing happens. -/
def Sys2Proof.Claims.LatticeBlock : Prop :=
  ∀ (s : State) (r : TileId) (v : LvmRun),
    let t := s.tile r.val
    let run := if v.left ≤ 1 then none else some { v with left := v.left - 1, part := none }
    t.rst = false → t.latRun = some v →
    (v.part = none → t.gatherA v.ua = .wait → Gives (.lvmBlock r) s (fun u => u = s))
    ∧ ∀ t1 t2 b0 b, (v.part = some b0 ∧ t1 = t ∨ v.part = none ∧ t.gatherA v.ua = .got t1 b0) →
        t1.gatherW v.uw 16 b0 = (t2, b, none) →
        (b.pos < 16 →
          Gives (.lvmBlock r) s (fun u => OnlyTile r.val s u
            ∧ u.tile r.val = { t2 with latRun := some { v with part := some b }, rst := t.rst }))
        ∧ (16 ≤ b.pos → oneMode b.modes = true →
          Gives (.lvmBlock r) s (fun u => OnlyTile r.val s u
            ∧ u.tile r.val = { t2.setAl v.ad (b.parts.foldl (applyPart v.f b.xs) (t2.alanes v.ad)) with
                             latRun := run, rst := t.rst }))
        ∧ (16 ≤ b.pos → oneMode b.modes = false →
          Gives (.lvmBlock r) s (fun u => u = { s with tiles := u.tiles, freeCtr := s.freeCtr + 1 }
            ∧ (∀ k, k ≠ s.phys r.val → sget {} u.tiles k = sget {} s.tiles k)
            ∧ u.tile r.val = { t2.setAl v.ad ((List.range 16).map (fun j => (Config.lvmMixed s.freeCtr j).toNat)) with
                                 latRun := run, rst := t.rst }))

/-- SDGO takes a checked descriptor into a free command slot and faults DESCRIPTOR otherwise; SDWAIT completes when the unit
holds no command; VPOP takes the next vector of a read command (R295, R296, R298). -/
def Sys2Proof.Claims.StreamInstructions : Prop :=
  ∀ (s : State) (r : TileId) (f : Fields) (len : Nat),
    let t := s.tile r.val
    let npc := t.nextPc len
    s.issues r.val f len = true →
    (∀ d, f.mn = .sdgo → sdCheck (t.unit f.a).desc t.origin = .ok d → (t.unit f.a).act = none →
      Gives (named len .sdgo (.tile r)) s (fun u =>
        Retired s u r.val (t.setUnit f.a { t.unit f.a with
          abort := false, act := some d, nnz := 0#32, dens := 0#32, pos := 0#32, idx := 0, taken := 0, buf := [], sub := 0,
          res := [] }) npc))
    ∧ (∀ d, f.mn = .sdgo → sdCheck (t.unit f.a).desc t.origin = .ok d → (t.unit f.a).act ≠ none → (t.unit f.a).wait = none →
      Gives (named len .sdgo (.tile r)) s (fun u =>
        Retired s u r.val (t.setUnit f.a { t.unit f.a with abort := false, wait := some d }) npc))
    ∧ (∀ d, f.mn = .sdgo → sdCheck (t.unit f.a).desc t.origin = .ok d → (t.unit f.a).act ≠ none → (t.unit f.a).wait ≠ none →
      Gives (named len .sdgo (.tile r)) s (fun u => Held s u r.val t))
    ∧ (∀ e, f.mn = .sdgo → sdCheck (t.unit f.a).desc t.origin = .error e →
      Gives (named len .sdgo (.tile r)) s (fun u =>
        Faults s u r.val 7 (f.a + 16 * e) (BitVec.ofNat 64 (sget 0#32 (t.unit f.a).desc 0).toNat)))
    ∧ (f.mn = .sdwait → (t.unit f.a).act = none → (t.unit f.a).wait = none →
      Gives (named len .sdwait (.tile r)) s (fun u => Retired s u r.val t npc))
    ∧ (f.mn = .sdwait → (t.unit f.a).act ≠ none ∨ (t.unit f.a).wait ≠ none →
      Gives (named len .sdwait (.tile r)) s (fun u => Held s u r.val t))
    ∧ (∀ d l x, f.mn = .vpop → (t.unit f.a).act = some d → Desc.dir d = false → (t.unit f.a).takeImage = some (l, x) →
      Gives (named len .vpop (.tile r)) s (fun u => Retired s u r.val ((t.setUnit f.a x).setVl f.d l) npc))

/-- STREAM_VECTOR: a read unit with room takes its next item into its buffer, and a local write unit stores its oldest
result; STREAM_CMD_END ends a finished command and makes the waiting one active (R189, R192, R297). -/
def Sys2Proof.Claims.StreamUnits : Prop :=
  ∀ (s : State) (r : TileId) (k : UnitId) (d : Desc),
    let t := s.tile r.val
    let x := t.unit k.val
    t.rst = false → x.act = some d → x.paused = false →
    (∀ t2 i, Desc.dir d = false → x.idx < Desc.total d → bufLoad x.buf + (if Desc.mode d = 3 then 2 else 1) ≤ 8 →
      (Desc.mode d < 2 → t.skipLocked k.val = false) → t.fetchItem k.val d = .item t2 i →
      Gives (.streamVector r k) s (fun u => OnlyTile r.val s u ∧ u.tile r.val = { t2 with rst := t.rst }
        ∧ ((u.tile r.val).unit k.val).idx = x.idx + 1 ∧ ((u.tile r.val).unit k.val).buf = x.buf ++ [i]))
    ∧ (∀ l rest, Desc.dir d = true → Desc.remote d = false → x.res = l :: rest →
      Gives (.streamVector r k) s (fun u => OnlyTile r.val s u
        ∧ (u.tile r.val).mem = (t.wrWords (Desc.addr d x.idx / 4) (resWords d l)).mem
        ∧ ((u.tile r.val).unit k.val).idx = x.idx + 1 ∧ ((u.tile r.val).unit k.val).res = rest
        ∧ ((u.tile r.val).unit k.val).paused = (x.pauseReq && rest.isEmpty)
        ∧ (u.tile r.val).sregs = t.sregs ∧ (u.tile r.val).vregs = t.vregs ∧ (u.tile r.val).full = t.full))
    ∧ (x.cmdDone = true → t.sendU ≠ some k.val →
      Gives (.streamCmdEnd r k) s (fun u => OnlyTile r.val s u ∧ ((u.tile r.val).unit k.val).act = x.wait
        ∧ ((u.tile r.val).unit k.val).wait = none ∧ u.tile r.val = t.setUnit k.val ((u.tile r.val).unit k.val)))

/-! ### Instructions of a Press core -/

/-- Table 6.5 on 64 bits (R489): two sources; floating point acts on bits [31:0] and zero-extends. -/
def Sys2Proof.Tables.press2 : List ((Hart → Instr) × Mn × (W64 → W64 → W64)) :=
  [(.add, .add, fun a b => a + b), (.sub, .sub, fun a b => a - b), (.and, .and, fun a b => a &&& b),
   (.or, .or, fun a b => a ||| b), (.xor, .xor, fun a b => a ^^^ b), (.sll, .sll, fun a b => a <<< (b.toNat % 64)),
   (.srl, .srl, fun a b => a >>> (b.toNat % 64)), (.sra, .sra, fun a b => a.sshiftRight (b.toNat % 64)),
   (.slt, .slt, fun a b => if a.toInt < b.toInt then 1#64 else 0#64),
   (.sltu, .sltu, fun a b => if a.toNat < b.toNat then 1#64 else 0#64),
   (.mul, .mul, fun a b => a * b), (.mulh, .mulh, fun a b => BitVec.ofInt 64 (a.toInt * b.toInt / 2 ^ 64)),
   (.mulhu, .mulhu, fun a b => BitVec.ofNat 64 (a.toNat * b.toNat / 2 ^ 64)),
   (.min, .min, fun a b => if b.toInt < a.toInt then b else a), (.max, .max, fun a b => if a.toInt < b.toInt then b else a),
   (.minu, .minu, fun a b => if b.toNat < a.toNat then b else a), (.maxu, .maxu, fun a b => if a.toNat < b.toNat then b else a),
   (.fadd, .fadd, fun a b => (toF32 ((f32 (a.setWidth 32)).add (f32 (b.setWidth 32)))).setWidth 64),
   (.fsub, .fsub, fun a b => (toF32 ((f32 (a.setWidth 32)).add (f32 (b.setWidth 32)).neg)).setWidth 64),
   (.fmul, .fmul, fun a b => (toF32 ((f32 (a.setWidth 32)).mul (f32 (b.setWidth 32)))).setWidth 64)]

/-- Immediate forms: sign- or zero-extended to 64 bits (R489). -/
def Sys2Proof.Tables.pressImm : List ((Hart → Instr) × Mn × (W64 → W32 → W64)) :=
  [(.addi, .addi, fun a i => a + i.signExtend 64), (.andi, .andi, fun a i => a &&& i.setWidth 64),
   (.ori, .ori, fun a i => a ||| i.setWidth 64), (.xori, .xori, fun a i => a ^^^ i.setWidth 64),
   (.slti, .slti, fun a i => if a.toInt < i.toInt then 1#64 else 0#64),
   (.slli, .slli, fun a i => a <<< (i.toNat % 64)), (.srli, .srli, fun a i => a >>> (i.toNat % 64)),
   (.srai, .srai, fun a i => a.sshiftRight (i.toNat % 64))]

/-- The arithmetic of Veluc-H writes rd, and nothing but the core changes (R489). -/
def Sys2Proof.Claims.PressArithmetic : Prop :=
  ∀ (s s' : State) (h : Hart) (c k : Nat) (f : Fields) (len : Nat),
    let q := s'.core c k
    let npc := q.pc + BitVec.ofNat 64 len
    PIssues s h c k s' f len →
    (∀ o ∈ Sys2Proof.Tables.press2, f.mn = o.2.1 →
      Gives (named len o.1 h) s (fun u =>
        u = s'.setCore c k ((q.setX f.d (o.2.2 (q.x f.a) (q.x f.b))).done npc)))
    ∧ (∀ o ∈ Sys2Proof.Tables.pressImm, f.mn = o.2.1 →
      Gives (named len o.1 h) s (fun u =>
        u = s'.setCore c k ((q.setX f.d (o.2.2 (q.x f.a) f.imm)).done npc)))

/-- Branches and jumps of Veluc-H: the same conditions on 64 bits, the target from the instruction's own pc (R489). -/
def Sys2Proof.Claims.PressControlFlow : Prop :=
  ∀ (s s' : State) (h : Hart) (c k : Nat) (f : Fields) (len : Nat),
    let q := s'.core c k
    let npc := q.pc + BitVec.ofNat 64 len
    let tgt := q.pc + f.imm.signExtend 64 * 4#64
    PIssues s h c k s' f len →
    (∀ o ∈ [((.beq : Hart → Instr), Mn.beq, fun (a b : W64) => decide (a = b)), (.bne, .bne, fun a b => decide (a ≠ b)),
        (.blt, .blt, fun a b => decide (a.toInt < b.toInt)), (.bge, .bge, fun a b => decide (b.toInt ≤ a.toInt)),
        (.bltu, .bltu, fun a b => decide (a.toNat < b.toNat)), (.bgeu, .bgeu, fun a b => decide (b.toNat ≤ a.toNat))],
      f.mn = o.2.1 →
      Gives (named len o.1 h) s (fun u =>
        u = s'.setCore c k (q.done (if o.2.2 (q.x f.d) (q.x f.a) then tgt else npc))))
    ∧ (f.mn = .jal → Gives (named len .jal h) s (fun u => u = s'.setCore c k ((q.setX f.d npc).done tgt)))
    ∧ (f.mn = .jalr → (q.x f.a + f.imm.signExtend 64).toNat % 4 = 0 →
      Gives (named len .jalr h) s (fun u =>
        u = s'.setCore c k ((q.setX f.d npc).done (q.x f.a + f.imm.signExtend 64))))

/-- Loads of Veluc-H from scratch: LW, LH and LB sign-extend to 64 bits, LHU and LBU zero-extend, LD takes 8 bytes; the
address is aligned and translated first (R482, R489, R493). -/
def Sys2Proof.Claims.PressLoads : Prop :=
  ∀ o ∈ [((.lw : Hart → Instr), Mn.lw, 4, fun (x : Nat) => (BitVec.ofNat 32 x).signExtend 64),
      (.lh, .lh, 2, fun x => (BitVec.ofNat 16 x).signExtend 64), (.lhu, .lhu, 2, fun x => BitVec.ofNat 64 x),
      (.lb, .lb, 1, fun x => (BitVec.ofNat 8 x).signExtend 64), (.lbu, .lbu, 1, fun x => BitVec.ofNat 64 x),
      (.ld, .ld, 8, fun x => BitVec.ofNat 64 x)],
    ∀ (s s' s2 : State) (h : Hart) (c k : Nat) (f : Fields) (len pa a : Nat) (ca : Bool),
    let va := (s'.core c k).x f.a + f.imm.signExtend 64
    let q := s2.core c k
    PIssues s h c k s' f len → f.mn = o.2.1 → va.toNat % o.2.2.1 = 0 →
    s'.translate c k va .load = (s2, .ok (pa, ca)) → (s2.prs c).target pa o.2.2.1 = .scratch a →
    (s2.prs c).scratchUe a o.2.2.1 = false →
    Gives (named len o.1 h) s (fun u =>
      u = s2.setCore c k ((q.setX f.d (o.2.2.2 (leNat (mread (s2.prs c).scratch a o.2.2.1)))).done
        ((s'.core c k).pc + BitVec.ofNat 64 len)))

/-- Stores of Veluc-H to scratch write the low bytes of the source and no other byte; ATSWP and ATADD read and write an
8-byte word in one access (R489). -/
def Sys2Proof.Claims.PressStores : Prop :=
  ∀ (s s' s2 : State) (h : Hart) (c k : Nat) (f : Fields) (len pa a : Nat) (ca : Bool) (va : W64),
    let q := s'.core c k
    let x := s2.prs c
    let npc := q.pc + BitVec.ofNat 64 len
    let wrote := fun (u : State) (n : Nat) (v : Nat) =>
      (∀ i, i < n → mget (u.prs c).scratch (a + i) = BitVec.ofNat 8 (v / 256 ^ i))
        ∧ (∀ b, b < a ∨ a + n ≤ b → mget (u.prs c).scratch b = mget x.scratch b) ∧ OnlyPress c s2 u
        ∧ (∀ j, j ≠ k → u.core c j = s2.core c j)
    PIssues s h c k s' f len → s'.translate c k va .store = (s2, .ok (pa, ca)) →
    (∀ o ∈ [((.sw : Hart → Instr), Mn.sw, 4), (.sh, .sh, 2), (.sb, .sb, 1), (.sd, .sd, 8)],
      f.mn = o.2.1 → va = q.x f.a + f.imm.signExtend 64 → va.toNat % o.2.2 = 0 → x.target pa o.2.2 = .scratch a →
      (o.2.2 < 8 → x.scratchUe a o.2.2 = false) →
      Gives (named len o.1 h) s (fun u =>
        wrote u o.2.2 (q.x f.d).toNat ∧ u.core c k = (s2.core c k).done npc))
    ∧ (∀ o ∈ [((.atswp : Hart → Instr), Mn.atswp, fun (_ b : W64) => b), (.atadd, .atadd, fun m b => m + b)],
      f.mn = o.2.1 → va = q.x f.a → va.toNat % 8 = 0 → x.target pa 8 = .scratch a → x.scratchUe a 8 = false →
      Gives (named len o.1 h) s (fun u =>
        wrote u 8 (o.2.2 (mread64 x.scratch a) (q.x f.b)).toNat
          ∧ u.core c k = ((s2.core c k).setX f.d (mread64 x.scratch a)).done npc))

/-- The alignment, translation and target of every Veluc-H access to memory are checked in this order: a misaligned one
traps 0x02 with its size, a refused translation with its own code, an address that names nothing 0x03 with DETAIL 0x10, and
an uncorrectable word of scratch 0x03 with DETAIL 0x03 (R482, R493, R576). In this the model rests on log entries 6 and 58,
which are no rules of the spec. -/
def Sys2Proof.Claims.PressAccessTraps : Prop :=
  ∀ o ∈ [((.lw : Hart → Instr), Mn.lw, 4, Acc.load), (.lh, .lh, 2, .load), (.lhu, .lhu, 2, .load), (.lb, .lb, 1, .load),
      (.lbu, .lbu, 1, .load), (.ld, .ld, 8, .load), (.sw, .sw, 4, .store), (.sh, .sh, 2, .store), (.sb, .sb, 1, .store),
      (.sd, .sd, 8, .store), (.atswp, .atswp, 8, .store), (.atadd, .atadd, 8, .store)],
    ∀ (s s' s2 : State) (h : Hart) (c k : Nat) (f : Fields) (len pa a code detail : Nat) (ca : Bool),
    let q := s'.core c k
    let n := o.2.2.1
    let va := if f.mn = .atswp ∨ f.mn = .atadd then q.x f.a else q.x f.a + f.imm.signExtend 64
    PIssues s h c k s' f len → f.mn = o.2.1 →
    (va.toNat % n ≠ 0 → Gives (named len o.1 h) s (fun u => Traps s' u c k 2 n va))
    ∧ (va.toNat % n = 0 → s'.translate c k va o.2.2.2 = (s2, .error (code, detail)) →
      Gives (named len o.1 h) s (fun u => Traps s2 u c k code detail va))
    ∧ (va.toNat % n = 0 → s'.translate c k va o.2.2.2 = (s2, .ok (pa, ca)) → (s2.prs c).target pa n = .none →
      Gives (named len o.1 h) s (fun u => Traps s2 u c k 3 0x10 va))
    ∧ (va.toNat % n = 0 → s'.translate c k va o.2.2.2 = (s2, .ok (pa, ca)) → (s2.prs c).target pa n = .scratch a →
      (s2.prs c).scratchUe a n = true → f.mn ≠ .sd →
      Gives (named len o.1 h) s (fun u => Traps s2 u c k 3 3 va))

/-- A word access through a window of kind 0 to 5 leaves as one packet on C0 with the lowest free tag, the key of the core's
level and the gate as its source (R472, R474, R477, R478): a load blocks the core, a store is posted and completes. -/
def Sys2Proof.Claims.PressWindows : Prop :=
  ∀ (s s' s2 : State) (h : Hart) (c k : Nat) (f : Fields) (len pa kind n : Nat) (ns : List Nat) (g : Ga),
    let q := s'.core c k
    let va := q.x f.a + f.imm.signExtend 64
    let x := s2.prs c
    let r := gateRouter c
    let key := if q.lvl = .m then bits (x.ckeyOf k) 11 0 else bits (x.ckeyOf k) 27 16
    let sent := fun (u : State) (p : Packet) =>
      Sent r .gate p s2.mesh u.mesh ∧ p.h.tag = n ∧ p.h.ch = 0 ∧ p.h.pkey = key ∧ p.h.srckind = true ∧ p.back = .gate
        ∧ p.h.dx = colOf (gaDest g r) ∧ p.h.dy = rowOf (gaDest g r) ∧ p.h.dplate = g.plate
        ∧ u = { s2 with press := u.press, mesh := u.mesh } ∧ (∀ e, e ≠ c → u.prs e = s2.prs e)
        ∧ ∀ j, j ≠ k → u.core c j = s2.core c j
    PIssues s h c k s' f len → va.toNat % 4 = 0 → x.target pa 4 = .win kind g → kind < 6 → (q.lvl ≠ .u ∨ kind = 0) →
    g.bad 4 = false → x.keyOk key = true → x.freeTags = n :: ns → s2.entryShut r .gate = false → s2.canInject r .gate 0 = true →
    (f.mn = .lw → s'.translate c k va .load = (s2, .ok (pa, false)) → g.off % 4 = 0 →
      Gives (named len .lw h) s (fun u => ∃ p b, sent u p ∧ p.h.op = kind + 1 ∧ p.h.long = false
        ∧ p.h.payload = BitVec.ofNat 32 (g.off / 4 + (if g.space = 4 then g.x * 2 ^ 27 else 0))
        ∧ u.core c k = { s2.core c k with blk := some b } ∧ b.kind = .load ∧ b.rd = f.d ∧ b.need = [0]
        ∧ b.npc = q.pc + BitVec.ofNat 64 len ∧ (u.prs c).tags = sput x.tags n { core := k, word := some 0, ch := 0, ga := g.word }))
    ∧ (∀ ca, f.mn = .sw → s'.translate c k va .store = (s2, .ok (pa, ca)) →
      Gives (named len .sw h) s (fun u => ∃ p, sent u p ∧ p.h.op = kind + 8 ∧ p.h.long = true ∧ p.h.off = g.off
        ∧ p.ws = [(q.x f.d).setWidth 32] ∧ u.core c k = (s2.core c k).done (q.pc + BitVec.ofNat 64 len)
        ∧ (u.prs c).tags = sput x.tags n { core := k, word := none, ch := 0, ga := g.word }))

/-- PCRR and PCRW (R490, Table 12.5). A number's class, its bits [11:8], names the lowest level; a read gives the register, TIME,
COREID, what interrupts are pending, or, for the S views, the passed bits of the M register; a write keeps the register's own bits, and
of S_IMASK the passed ones; a saved level of 3 leaves the level field as it was. Below the level, a number that is not listed, and a
write of what is read-only are illegal instructions, code 0x01. In this the model rests on log entry 56, which is no rule of the
spec. -/
def Obligations.PressControlRegisters : Prop :=
  ∀ (s s' : State) (h : Hart) (c k : Nat) (f : Fields) (len : Nat),
    let q := s'.core c k
    let n := f.imm.toNat
    let v := q.x f.a
    let npc := q.pc + BitVec.ofNat 64 len
    let low := if n / 256 = 0 then 0 else if n / 256 = 4 then 1 else 2
    let pass := bits (q.ctlReg 0x807) 47 32
    let mask := (q.ctlReg 0x808).toNat
    PIssues s h c k s' f len →
    (f.mn = .pcrr → low ≤ q.lvl.code → ∀ o ∈ [(0, s'.time), (1, if c = 16 then Config.mgmtCoreId else BitVec.ofNat 64 (4 * c + k)),
        (0x809, BitVec.ofNat 64 (s'.ipend c k)), (0x409, BitVec.ofNat 64 (s'.ipend c k &&& pass)),
        (0x408, BitVec.ofNat 64 (mask &&& pass))], n = o.1 →
      Gives (named len .pcrr h) s (fun u => u = s'.setCore c k ((q.setX f.d o.2).done npc)))
    ∧ (f.mn = .pcrr → low ≤ q.lvl.code → n ≠ 0x408 → ctlMask n ≠ none →
      Gives (named len .pcrr h) s (fun u => u = s'.setCore c k ((q.setX f.d (q.ctlReg n)).done npc)))
    ∧ (∀ m, f.mn = .pcrw → low ≤ q.lvl.code → ctlMask n = some m → n ≠ 0x408 → (n = 0x803 ∨ n = 0x403 → bits v 1 0 ≠ 3) →
      Gives (named len .pcrw h) s (fun u => u = s'.setCore c k ((q.setCtl n (v &&& m)).done npc)))
    ∧ (f.mn = .pcrw → low ≤ q.lvl.code → n = 0x803 ∨ n = 0x403 → bits v 1 0 = 3 →
      Gives (named len .pcrw h) s (fun u => ∃ w, u = s'.setCore c k ((q.setCtl n w).done npc)
        ∧ w.getLsbD 2 = v.getLsbD 2 ∧ bits w 1 0 = bits (q.ctlReg n) 1 0))
    ∧ (f.mn = .pcrw → 1 ≤ q.lvl.code → n = 0x408 →
      Gives (named len .pcrw h) s (fun u => ∃ w, u = s'.setCore c k ((q.setCtl 0x808 w).done npc)
        ∧ ∀ i, w.getLsbD i = if pass.testBit i then v.getLsbD i else mask.testBit i))
    ∧ (f.mn = .pcrr → q.lvl.code < low ∨ ctlMask n = none ∧ n ∉ [0, 1, 0x409, 0x809] →
      Gives (named len .pcrr h) s (fun u => Traps s' u c k 1 0 0#64))
    ∧ (f.mn = .pcrw → q.lvl.code < low ∨ ctlMask n = none →
      Gives (named len .pcrw h) s (fun u => Traps s' u c k 1 0 0#64))

/-- SYSC raises code 7 plus its level with DETAIL from its field, and BRK code 0x0C (R491, Table 12.6); an instruction below its
lowest level is illegal, code 0x01 (Table 12.4). -/
def Sys2Proof.Claims.PressTraps : Prop :=
  ∀ (s s' : State) (h : Hart) (c k : Nat) (f : Fields) (len : Nat),
    let q := s'.core c k
    PIssues s h c k s' f len →
    (f.mn = .sysc → Gives (named len .sysc h) s (fun u => Traps s' u c k (7 + q.lvl.code) f.d 0#64))
    ∧ (f.mn = .brk → Gives (named len .brk h) s (fun u => Traps s' u c k 0xC (f.imm.toNat % 256) 0#64))
    ∧ (∀ o ∈ [((.tret : Hart → Instr), Mn.tret), (.idle, .idle), (.xlinv, .xlinv), (.cinvall, .cinvall), (.barrive, .barrive),
        (.barwait, .barwait), (.bartest, .bartest)],
      f.mn = o.2 → q.lvl = .u → Gives (named len o.1 h) s (fun u => Traps s' u c k 1 0 0#64))

/-- TRET returns to the saved pc at the saved level with the saved enable; IDLE goes on once an enabled interrupt is
pending, and waits otherwise; PFENCE waits for the core's posted stores and traps 0x0A on a latched error, which it clears; XLINV,
CINV and CINVALL drop cached translations and lines (R487, R491, R492, R495, R496). -/
def Sys2Proof.Claims.PressSystem : Prop :=
  ∀ (s s' : State) (h : Hart) (c k : Nat) (f : Fields) (len : Nat),
    let q := s'.core c k
    let x := s'.prs c
    let npc := q.pc + BitVec.ofNat 64 len
    PIssues s h c k s' f len →
    (∀ b, f.mn = .tret → (q.lvl = .m ∧ b = 0x800 ∨ q.lvl = .s ∧ b = 0x400) →
      Gives (named len .tret h) s (fun u =>
        u = s'.setCore c k ({ q.setCtl b (if (q.ctlReg (b + 3)).getLsbD 2 then 1#64 else 0#64) with
          lvl := Lvl.ofCode (bits (q.ctlReg (b + 3)) 1 0) }.done (q.ctlReg (b + 2)))))
    ∧ (f.mn = .idle → q.lvl ≠ .u → s'.ipend c k &&& (q.ctlReg 0x808).toNat ≠ 0 →
      Gives (named len .idle h) s (fun u => u = s'.setCore c k (q.done npc)))
    ∧ (f.mn = .idle → q.lvl ≠ .u → s'.ipend c k &&& (q.ctlReg 0x808).toNat = 0 →
      Gives (named len .idle h) s (fun u => u = s'))
    ∧ (f.mn = .pfence → q.latch = none → q.fence.getD (x.openC0 k) = [] →
      Gives (named len .pfence h) s (fun u => u = s'.setCore c k (q.done npc)))
    ∧ (f.mn = .pfence → q.latch = none → q.fence.getD (x.openC0 k) ≠ [] →
      Gives (named len .pfence h) s (fun u =>
        u = s'.setCore c k { q with fence := some (q.fence.getD (x.openC0 k)) }))
    ∧ (∀ st ga, f.mn = .pfence → q.latch = some (st, ga) →
      Gives (named len .pfence h) s (fun u => Traps s' u c k 0xA st ga ∧ (u.core c k).latch = none))
    ∧ (f.mn = .xlinv → q.lvl ≠ .u →
      Gives (named len .xlinv h) s (fun u => u = s'.setCore c k ({ q with
        tlb := if f.a = 0 then [] else q.tlb.filter (fun t => !decide (t.va ≤ (q.x f.a).toNat ∧ (q.x f.a).toNat < t.va + t.size))
        }.done npc)))
    ∧ (∀ s2 pa ca, f.mn = .cinv → s'.translate c k (q.x f.a) .load = (s2, .ok (pa, ca)) →
      Gives (named len .cinv h) s (fun u => OnlyPress c s2 u
        ∧ (u.prs c).l3 = sdel (s2.prs c).l3 (pa / 64)
        ∧ (u.core c k) = { s2.core c k with l2 := sdel (s2.core c k).l2 (pa / 64) }.done npc
        ∧ (u.prs c).scratch = (s2.prs c).scratch ∧ ∀ j, j ≠ k → u.core c j = s2.core c j))
    ∧ (∀ s2 code detail, f.mn = .cinv → s'.translate c k (q.x f.a) .load = (s2, .error (code, detail)) →
      Gives (named len .cinv h) s (fun u => Traps s2 u c k code detail (q.x f.a)))
    ∧ (f.mn = .cinvall → q.lvl ≠ .u →
      Gives (named len .cinvall h) s (fun u => OnlyPress c s' u ∧ (u.prs c).l3 = []
        ∧ (u.core c k) = { q with l2 := [] }.done npc ∧ (u.prs c).scratch = x.scratch
        ∧ ∀ j, j ≠ k → u.core c j = s'.core c j))

/-- BARRIVE, BARWAIT and BARTEST of a Press core use the core's own pending table; the arrival leaves by the gate on C3, at once when
no posted store of the core is outstanding (R479). Misuse is code 0x0B with the reason of Table 10.6; BARWAIT raises a latched error
as PFENCE does. The management pair has no gate, and there they are illegal: the model's choice, log entry 65. -/
def Sys2Proof.Claims.PressBarriers : Prop :=
  ∀ (s s' : State) (h : Hart) (c k : Nat) (f : Fields) (len n : Nat),
    let q := s'.core c k
    let i := (q.x f.a + f.imm.setWidth 64).toNat % 2 ^ 32
    let npc := q.pc + BitVec.ofNat 64 len
    let r := gateRouter c
    let rows := [((.barrive : Hart → Instr), Mn.barrive), (.barwait, .barwait), (.bartest, .bartest)]
    PIssues s h c k s' f len → q.lvl ≠ .u →
    (c = mgmtUnit → ∀ o ∈ rows, f.mn = o.2 → Gives (named len o.1 h) s (fun u => Traps s' u c k 1 0 0#64))
    ∧ (c ≠ mgmtUnit → 16384 ≤ i → ∀ o ∈ rows, f.mn = o.2 → Gives (named len o.1 h) s (fun u => Traps s' u c k 0xB 1 0#64))
    ∧ (c ≠ mgmtUnit → i < 16384 →
    (f.mn = .barrive → q.pendOf i = none → q.pendFree = some n → q.arrivals = [] → (s'.prs c).openC0 k ≠ [] →
      Gives (named len .barrive h) s (fun u => u = s'.setCore c k ({ q with
        pend := sput q.pend n { valid := true, id := i, waits := (s'.prs c).openC0 k }, arrivals := [n] }.done npc)))
    ∧ (f.mn = .barrive → q.pendOf i = none → q.pendFree = some n → q.arrivals = [] → (s'.prs c).openC0 k = [] →
      s'.entryShut r .gate = false → s'.canInject r .gate 3 = true →
      Gives (named len .barrive h) s (fun u => ∃ p, p.h.op = 0x1C ∧ p.h.ch = 3 ∧ p.h.long = false
        ∧ p.h.payload = BitVec.ofNat 32 i ∧ routerOf p.h.dy p.h.dx = originOf (fieldOfCluster c)
        ∧ Sent r .gate p s'.mesh u.mesh ∧ PressAndMesh c s' u ∧ (∀ j, j ≠ k → u.core c j = s'.core c j)
        ∧ u.core c k = { q with pend := sput q.pend n { valid := true, sent := true, id := i } }.done npc))
    ∧ (f.mn = .barrive → q.pendOf i = some n → Gives (named len .barrive h) s (fun u => Traps s' u c k 0xB 2 0#64))
    ∧ (f.mn = .barrive → q.pendOf i = none → q.pendFree = none →
      Gives (named len .barrive h) s (fun u => Traps s' u c k 0xB 3 0#64))
    ∧ (∀ o ∈ [((.barwait : Hart → Instr), Mn.barwait), (.bartest, .bartest)], f.mn = o.2 → q.pendOf i = none →
      Gives (named len o.1 h) s (fun u => Traps s' u c k 0xB 4 0#64))
    ∧ (f.mn = .barwait → q.pendOf i = some n → q.latch = none → (sget {} q.pend n).released = true →
      Gives (named len .barwait h) s (fun u =>
        u = s'.setCore c k ({ q with pend := sput q.pend n {} }.done npc)))
    ∧ (f.mn = .barwait → q.pendOf i = some n → q.latch = none → (sget {} q.pend n).released = false →
      Gives (named len .barwait h) s (fun u => u = s'))
    ∧ (∀ st ga, f.mn = .barwait → q.pendOf i = some n → q.latch = some (st, ga) →
      Gives (named len .barwait h) s (fun u => Traps s' u c k 0xA st ga ∧ (u.core c k).latch = none))
    ∧ (f.mn = .bartest → q.pendOf i = some n → (sget {} q.pend n).released = true →
      Gives (named len .bartest h) s (fun u =>
        u = s'.setCore c k (({ q with pend := sput q.pend n {} }.setX f.d 1#64).done npc)))
    ∧ (f.mn = .bartest → q.pendOf i = some n → (sget {} q.pend n).released = false →
      Gives (named len .bartest h) s (fun u => u = s'.setCore c k ((q.setX f.d 0#64).done npc))))

/-! ### Tile control -/

/-- The commands of TILE_CTL by a privileged writer in each state of Table 5.11 (R158 to R161); whoever else writes is
refused, which sets TILE_STAT.WREF and changes nothing else (R162, R202). -/
def Sys2Proof.Claims.TileCommands : Prop :=
  ∀ (s : State) (p : Party) (r : TileId),
    let t := s.tile r.val
    let gives := fun (c : Instr) (v : Tile → Tile → Prop) => Gives c s (fun u => OnlyTile r.val s u ∧ v t (u.tile r.val))
    let refused := fun (t v : Tile) => v = { t with wref := true }
    let same := fun (t v : Tile) => v = t
    t.rst = false →
    (p = .pressS ∨ p = .pressM →
      (t.state = .stopped ∨ t.state = .halted →
        gives (.run p r) (fun t v => v = { t with state := .running, streams := v.streams, noted := false }
          ∧ ∀ k, k < 4 → v.unit k = { t.unit k with paused := false, pauseReq := false })
        ∧ gives (.stepCmd p r) (fun t v => v = { t with state := .running, stepping := true, streams := v.streams, noted := false }
          ∧ ∀ k, k < 4 → v.unit k = { t.unit k with paused := false, pauseReq := false })
        ∧ gives (.stop p r) same ∧ gives (.clrf p r) same)
      ∧ (t.state = .faulted → gives (.clrf p r) (fun t v => v = { t with state := .stopped })
        ∧ gives (.run p r) refused ∧ gives (.stepCmd p r) refused ∧ gives (.stop p r) same)
      ∧ (t.state = .running → t.stopping = false →
        gives (.stop p r) (fun t v => v.stopping = true ∧ v.state = .running ∧ v.pc = t.pc ∧ v.sregs = t.sregs ∧ v.mem = t.mem
          ∧ v.queues = t.queues ∧ v.blk = t.blk
          ∧ (t.blk = none → t.sendCh = none → v.waiting = false ∧ v.waiters = t.waiters.filter (fun w => !isCoreW w))
          ∧ (t.blk ≠ none ∨ t.sendCh ≠ none → v = { t with stopping := true }))
        ∧ gives (.run p r) same ∧ gives (.stepCmd p r) refused ∧ gives (.clrf p r) same)
      ∧ (t.state = .running → t.stopping = true →
        gives (.stop p r) same ∧ gives (.run p r) refused ∧ gives (.stepCmd p r) refused ∧ gives (.clrf p r) same))
    ∧ (p ≠ .pressS → p ≠ .pressM → ∀ c ∈ [Instr.run p r, .stop p r, .stepCmd p r, .clrf p r], gives c refused)

/-- STOP_COMPLETE: with no remote instruction in flight, no packet half sent and the Lattice empty the tile enters STOPPED at its pc; each unit
with an active command pauses, or will pause once its vectors are written (R160, R194, R291). -/
def Sys2Proof.Claims.TileStopCompletes : Prop :=
  ∀ (s : State) (r : TileId),
    let t := s.tile r.val
    t.rst = false →
    (t.state = .running → t.stopping = true → t.blk = none → t.sendCh = none → t.latq = [] → t.latRun = none →
      Gives (.stopComplete r) s (fun u => OnlyTile r.val s u
        ∧ (u.tile r.val).state = .stopped ∧ (u.tile r.val).stopping = false ∧ (u.tile r.val).pc = t.pc
        ∧ (u.tile r.val).sregs = t.sregs ∧ (u.tile r.val).vregs = t.vregs ∧ (u.tile r.val).accs = t.accs
        ∧ (u.tile r.val).mem = t.mem ∧ (u.tile r.val).queues = t.queues
        ∧ ∀ k, k < 4 → ((t.unit k).act = none → (u.tile r.val).unit k = t.unit k)
          ∧ ((t.unit k).act ≠ none → (t.unit k).res = [] → (u.tile r.val).unit k = { t.unit k with paused := true })
          ∧ ((t.unit k).act ≠ none → (t.unit k).res ≠ [] → (u.tile r.val).unit k = { t.unit k with pauseReq := true })))
    ∧ (t.blk ≠ none ∨ t.sendCh ≠ none ∨ t.latq ≠ [] ∨ t.latRun ≠ none →
      Gives (.stopComplete r) s (fun u => OnlyTile r.val s u ∧ u.tile r.val = t))

/-- Writes of a tile's registers (R29, R30, R62, R63, R71, R169, R173, R178, R203, R407): accepted from a privileged writer while
the tile is not RUNNING and the value is legal, and otherwise refused with TILE_STAT.WREF and no other change. -/
def Sys2Proof.Claims.TileRegisterWrites : Prop :=
  ∀ (s : State) (p : Party) (r : TileId) (v : W32),
    let t := s.tile r.val
    let idle := (p = .pressS ∨ p = .pressM) ∧ t.state ≠ .running
    let gives := fun (c : Instr) (x : Tile) => Gives c s (fun u => OnlyTile r.val s u ∧ u.tile r.val = x)
    let refused := { t with wref := true }
    t.rst = false →
    (idle → (bit v 2 = bit t.compat 2 ∨ ∀ q, q < 4 → t.queue q = []) →
      gives (.tileCompatWrite p r v) { t with compat := v &&& 7#32 })
    ∧ (bit v 2 ≠ bit t.compat 2 → (∃ q : Fin 4, t.queue q.val ≠ []) → gives (.tileCompatWrite p r v) refused)
    ∧ (idle → originBad (v &&& 0x03FFFFFF#32) = false →
        gives (.tileOriginWrite p r v) { t with origin := v &&& 0x03FFFFFF#32 })
    ∧ (originBad (v &&& 0x03FFFFFF#32) = true → gives (.tileOriginWrite p r v) refused)
    ∧ (idle → gives (.tilePcWrite p r v) { t with pc := v })
    ∧ (p = .pressS ∨ p = .pressM ∨ p = .tileSelf → bits v 11 8 ≤ bits v 15 12 →
        gives (.tileFeLimitWrite p r v) { t with feLimit := v &&& 0xFFFF#32 })
    ∧ (bits v 15 12 < bits v 11 8 → gives (.tileFeLimitWrite p r v) refused)
    ∧ (∀ n, idle → n < 32 → gives (.regWindowWrite p r (0x80 + 4 * n) v) (t.setS n v))
    ∧ (∀ n k, idle → n < 16 → k < 8 → gives (.regWindowWrite p r (0x100 + 32 * n + 4 * k) v)
        { t with vregs := sput t.vregs n (setBits (sget 0#256 t.vregs n) (32 * k + 31) (32 * k) v.toNat) })
    ∧ (∀ k, idle → k < 16 → gives (.regWindowWrite p r (0x340 + 4 * k) v)
        { t with accs := sput t.accs t.accSel.toNat (setBits (sget 0#512 t.accs t.accSel.toNat) (32 * k + 31) (32 * k) v.toNat) })
    ∧ (∀ n, idle → n < 0x300 →
        gives (.feWindowWrite p r (0x20000 + 4 * n) v)
          ((List.range 32).foldl (fun x i => x.setFull (32 * n + i) (v.getLsbD i)) t))
    ∧ (∀ q : QNum, idle → (t.queue q.val).length < (if bit t.compat 2 then 8 else 16) →
        gives (.tileQpush p r q v) (t.setQ q.val (t.queue q.val ++ [{ v := v }])))
    ∧ (∀ q : QNum, (if bit t.compat 2 then 8 else 16) ≤ (t.queue q.val).length → gives (.tileQpush p r q v) refused)
    ∧ (∀ n : Fin 16, idle → v.getLsbD 31 = false ∨ v.getLsbD 29 = true →
        gives (.pendingEntryWrite p r n v) { t with
          pend := sput t.pend n.val { valid := v.getLsbD 31, released := v.getLsbD 30, sent := v.getLsbD 29, cut := v.getLsbD 28,
                                      id := v.toNat % 16384 },
          arrivals := t.arrivals.filter (· != n.val) })
    ∧ (∀ n : Fin 16, v.getLsbD 31 = true → v.getLsbD 29 = false → gives (.pendingEntryWrite p r n v) refused)
    ∧ (¬idle → ∀ c ∈ [Instr.tileCompatWrite p r v, .tileOriginWrite p r v, .tilePcWrite p r v, .regWindowWrite p r 0x84 v,
        .feWindowWrite p r 0x20000 v, .tileQpush p r 0 v, .pendingEntryWrite p r 0 v], gives c refused)

/-- Reads that change a tile: TILE_QPOPn pops for a privileged writer while the tile is not RUNNING, and marks UNDER when
there is nothing (R178); TILE_ECC_STAT is cleared by its read, which returns both counts (R9). -/
def Sys2Proof.Claims.TileRegisterReads : Prop :=
  ∀ (s : State) (p : Party) (r : TileId) (q : QNum),
    let t := s.tile r.val
    t.rst = false →
    (∀ w ws, (p = .pressS ∨ p = .pressM) → t.state ≠ .running → t.queue q.val = w :: ws →
      Gives (.tileQpop p r q) s (fun u => u = { s with tiles := u.tiles, rdata := w.v.setWidth 64 }
        ∧ u.tile r.val = { t.setQ q.val ws with eccCe := if w.e = .ce then satInc t.eccCe 0xFFFF else t.eccCe,
                                                 eccUe := if w.e = .ue then satInc t.eccUe 0xFFFF else t.eccUe }))
    ∧ ((p = .pressS ∨ p = .pressM) → t.state ≠ .running → t.queue q.val = [] →
      Gives (.tileQpop p r q) s (fun u => u = { s with tiles := u.tiles, rdata := 0#64 }
        ∧ u.tile r.val = { t with under := sput t.under q.val true }))
    ∧ ((p ≠ .pressS ∧ p ≠ .pressM) ∨ t.state = .running →
      Gives (.tileQpop p r q) s (fun u => u = { s with tiles := u.tiles, rdata := 0#64 } ∧ u.tile r.val = t))
    ∧ Gives (.tileEccStatRead p r) s (fun u =>
        u = { s with tiles := u.tiles, rdata := (BitVec.ofNat 32 (t.eccUe * 65536 + t.eccCe)).setWidth 64 }
        ∧ u.tile r.val = { t with eccCe := 0, eccUe := 0 })

/-- ECC_WRITEBACK makes the oldest corrected word good (R185); BURNISH_READ reads the next word, corrects it or reports
it, and moves on (R585, R586). The data of a word never changes. In this the model rests on log entry 6, which is no
rule of the spec. -/
def Obligations.TileScrubbing : Prop :=
  ∀ (s : State) (r : TileId),
    let t := s.tile r.val
    let f := fieldOf r.val
    let c := s.fld f
    let n := sget 0 c.burnPos (s.phys r.val)
    t.rst = false →
    (∀ k ks, t.wb = k :: ks → Gives (.eccWriteback r) s (fun u => OnlyTile r.val s u
        ∧ u.tile r.val = { t with wb := ks, upset := (u.tile r.val).upset }
        ∧ sget .good (u.tile r.val).upset k = (if sget .good t.upset k = .ce then .good else sget .good t.upset k)
        ∧ ∀ j, j ≠ k → sget .good (u.tile r.val).upset j = sget .good t.upset j))
    ∧ (c.rst = false → bit c.burnCtl 0 = true → n + 1 < 24576 →
      (sget .good t.upset n = .good → Gives (.burnishRead r) s (fun u =>
        u.tile r.val = t ∧ u.fld f = { c with burnPos := sput c.burnPos (s.phys r.val) (n + 1) }))
      ∧ (sget .good t.upset n = .ce → Gives (.burnishRead r) s (fun u =>
        (u.tile r.val).mem = t.mem ∧ (u.tile r.val).full = t.full ∧ sget .good (u.tile r.val).upset n = .good
          ∧ (u.tile r.val).eccCe = satInc t.eccCe 0xFFFF ∧ (u.fld f).burnCe = satInc c.burnCe 0xFFFFFFFF))
      ∧ (sget .good t.upset n = .ue → Gives (.burnishRead r) s (fun u =>
        (u.tile r.val).mem = t.mem ∧ (u.tile r.val).full = t.full ∧ (u.tile r.val).upset = t.upset
          ∧ (u.tile r.val).eccUe = satInc t.eccUe 0xFFFF ∧ (u.tile r.val).eccAddr = BitVec.ofNat 32 (2 ^ 31 + n)
          ∧ (u.fld f).burnUec = satInc c.burnUec 0xFFFFFFFF ∧ bit (u.fld f).evt 4 = true)))

/-! ### Packets at a tile -/

/-- Memory requests at a tile (R347, R182, R187, R409): RD_MEM answers the word; WR_MEM writes its words and leaves full/empty
bits alone; WR_H and WR_B write only their bytes. An uncorrectable word answers DATA_ERROR, status 3, and is left alone by
a narrow write. -/
def Sys2Proof.Claims.MemoryRequests : Prop :=
  ∀ (s : State) (r : TileId) (q : Packet),
    let t := s.tile r.val
    let n := bits q.h.payload 26 0
    let w := q.h.off / 4
    t.rst = false → s.front r.val .loc 0 = some q → s.canInject r.val .loc 1 = true →
    (q.h.op = 0x01 → sget .good t.upset n ≠ .ue →
      Gives (.rdMem r) s (fun u => Answered s u r.val .loc 0 q false 0 (mread32 t.mem (4 * n)) ∧ TileAndMesh r.val s u
        ∧ u.tile r.val = { t with eccCe := (u.tile r.val).eccCe, wb := (u.tile r.val).wb }
        ∧ (u.tile r.val).eccCe = (if sget .good t.upset n = .ce then satInc t.eccCe 0xFFFF else t.eccCe)
        ∧ (sget .good t.upset n = .good → (u.tile r.val).wb = t.wb)))
    ∧ (q.h.op = 0x01 → sget .good t.upset n = .ue →
      Gives (.rdMem r) s (fun u => Answered s u r.val .loc 0 q false 3 0#32 ∧ TileAndMesh r.val s u
        ∧ (u.tile r.val).mem = t.mem ∧ (u.tile r.val).eccUe = satInc t.eccUe 0xFFFF))
    ∧ (q.h.op = 0x08 → q.h.off % 4 = 0 →
      Gives (.wrMem r) s (fun u => Answered s u r.val .loc 0 q true 0 0#32 ∧ TileAndMesh r.val s u
        ∧ (∀ i, i < q.ws.length → mread32 (u.tile r.val).mem (q.h.off + 4 * i) = q.ws.getD i 0#32)
        ∧ (∀ a, a < q.h.off ∨ q.h.off + 4 * q.ws.length ≤ a → mget (u.tile r.val).mem a = mget t.mem a)
        ∧ (u.tile r.val).full = t.full ∧ (u.tile r.val).sregs = t.sregs ∧ (u.tile r.val).queues = t.queues))
    ∧ (∀ o ∈ [(Instr.wrH r, 0x0E, 2), (.wrB r, 0x0F, 1)], q.h.op = o.2.1 → q.h.off % o.2.2 = 0 →
      (sget .good t.upset w ≠ .ue →
        Gives o.1 s (fun u => Answered s u r.val .loc 0 q true 0 0#32 ∧ TileAndMesh r.val s u
          ∧ (∀ i, i < o.2.2 → mget (u.tile r.val).mem (q.h.off + i)
              = BitVec.ofNat 8 ((q.ws.getD 0 0#32).toNat / 256 ^ (q.h.off % 4 + i)))
          ∧ (∀ a, a < q.h.off ∨ q.h.off + o.2.2 ≤ a → mget (u.tile r.val).mem a = mget t.mem a)
          ∧ (u.tile r.val).full = t.full))
      ∧ (sget .good t.upset w = .ue →
        Gives o.1 s (fun u => Answered s u r.val .loc 0 q true 3 0#32 ∧ TileAndMesh r.val s u ∧ (u.tile r.val).mem = t.mem)))

/-- Full/empty requests at a tile with nothing waiting (R382 to R385): FE_LD on a full word answers it and leaves it empty, FE_ST
on an empty word fills it; otherwise the request is parked, unanswered, and with four parked it is answered NAK. -/
def Sys2Proof.Claims.FullEmptyRequests : Prop :=
  ∀ (s : State) (r : TileId) (q : Packet),
    let t := s.tile r.val
    let n := bits q.h.payload 26 0
    let m := q.h.off / 4
    t.rst = false → s.front r.val .loc 0 = some q → s.canInject r.val .loc 1 = true →
    (q.h.op = 0x07 → sget .good t.upset n = .good → sget false t.full n = true → t.waiters = [] →
      Gives (.feLd r) s (fun u => Answered s u r.val .loc 0 q false 0 (mread32 t.mem (4 * n)) ∧ TileAndMesh r.val s u
        ∧ u.tile r.val = { t with full := sput t.full n false }))
    ∧ (q.h.op = 0x07 → sget .good t.upset n = .good → sget false t.full n = false → t.parked < 4 →
      Gives (.feLd r) s (fun u => TileAndMesh r.val s u
        ∧ u.tile r.val = { t with waiters := t.waiters ++ [.parked false n 0#32 q.h q.back q.gen] }))
    ∧ (q.h.op = 0x07 → sget .good t.upset n = .good → sget false t.full n = false → 4 ≤ t.parked →
      Gives (.feLd r) s (fun u => Answered s u r.val .loc 0 q false 1 0#32 ∧ TileAndMesh r.val s u ∧ u.tile r.val = t))
    ∧ (q.h.op = 0x07 → sget .good t.upset n = .ue →
      Gives (.feLd r) s (fun u => Answered s u r.val .loc 0 q false 3 0#32 ∧ TileAndMesh r.val s u
        ∧ (u.tile r.val).full = t.full ∧ (u.tile r.val).mem = t.mem))
    ∧ (q.h.op = 0x10 → sget .good t.upset m = .good → sget false t.full m = false → t.waiters = [] →
      Gives (.feSt r) s (fun u => Answered s u r.val .loc 0 q false 0 0#32 ∧ TileAndMesh r.val s u
        ∧ u.tile r.val = { t with mem := mwrite32 t.mem (4 * m) (q.ws.getD 0 0#32), upset := sdel t.upset m,
                                  wb := t.wb.filter (· != m), full := sput t.full m true }))
    ∧ (q.h.op = 0x10 → sget .good t.upset m = .good → sget false t.full m = true → t.parked < 4 →
      Gives (.feSt r) s (fun u => TileAndMesh r.val s u
        ∧ u.tile r.val = { t with waiters := t.waiters ++ [.parked true m (q.ws.getD 0 0#32) q.h q.back q.gen] }))
    ∧ (q.h.op = 0x10 → sget .good t.upset m = .good → sget false t.full m = true → 4 ≤ t.parked →
      Gives (.feSt r) s (fun u => Answered s u r.val .loc 0 q false 1 0#32 ∧ TileAndMesh r.val s u ∧ u.tile r.val = t))

/-- Control requests and messages at a tile: RD_CTL and WR_CTL act as the sender's party (R202); QMSG enters its queue whole and
is acknowledged, or waits at the port while the queue lacks room (R177). A tile in reset answers each of them TARGET_RESET,
status 2, and does nothing (R146). -/
def Sys2Proof.Claims.ControlRequests : Prop :=
  ∀ (s : State) (r : TileId) (q : Packet),
    let t := s.tile r.val
    let p := s.partyAt r.val q.h
    let k := q.h.off % 4
    s.canInject r.val .loc 1 = true →
    (t.rst = false → s.front r.val .loc 0 = some q →
      (q.h.op = 0x02 →
        Gives (.rdCtl r) s (fun u =>
          Answered s u r.val .loc 0 q false 0 (t.ctlRead r.val p (4 * bits q.h.payload 26 0)).2 ∧ TileAndMesh r.val s u
            ∧ u.tile r.val = (t.ctlRead r.val p (4 * bits q.h.payload 26 0)).1))
      ∧ (q.h.op = 0x09 →
        Gives (.wrCtl r) s (fun u => Answered s u r.val .loc 0 q true 0 0#32 ∧ TileAndMesh r.val s u
          ∧ u.tile r.val = t.ctlWrite p q.h.off (q.ws.getD 0 0#32))))
    ∧ (t.rst = false → s.front r.val .loc 2 = some q → q.h.op = 0x18 →
      ((t.queue k).length + q.ws.length ≤ t.qdepth →
        Gives (.qmsg r) s (fun u => Answered s u r.val .loc 2 q true 0 0#32 ∧ TileAndMesh r.val s u
          ∧ u.tile r.val = t.setQ k (t.queue k ++ q.ws.map (fun w => { v := w }))))
      ∧ (t.qdepth < (t.queue k).length + q.ws.length → Gives (.qmsg r) s (fun u => u = s)))
    ∧ (t.rst = true → s.front r.val .loc 0 = some q →
      ∀ o ∈ [(Instr.rdMem r, 0x01, false), (.rdCtl r, 0x02, false), (.feLd r, 0x07, false), (.wrMem r, 0x08, true),
          (.wrCtl r, 0x09, true), (.wrH r, 0x0E, true), (.wrB r, 0x0F, true), (.feSt r, 0x10, false)],
        q.h.op = o.2.1 →
        Gives o.1 s (fun u => Answered s u r.val .loc 0 q o.2.2 2 0#32 ∧ u = { s with mesh := u.mesh }))
    ∧ (t.rst = true → s.front r.val .loc 2 = some q → q.h.op = 0x18 →
        Gives (.qmsg r) s (fun u => Answered s u r.val .loc 2 q true 2 0#32 ∧ u = { s with mesh := u.mesh }))

/-- Answers at a tile (R203, R237, R239, R243, R387): RESP OK completes the blocked instruction; NAK is retried after a
backoff, or raises FE_LIMIT after RETRY retries; another status raises REMOTE; an asynchronous fault that waited is taken when the
instruction completes (R197); ACK returns its credit, and an error status is latched. An answer of an earlier life is discarded.
FE_RETRY sends the request again. In this the model rests on log entries 7, 16 and 38, which are no rules of the spec. -/
def Obligations.TileAnswers : Prop :=
  ∀ (s : State) (r : TileId) (q : Packet) (b : Blk),
    let t := s.tile r.val
    let fd := fieldOf r.val
    let resp := Instr.resp (.tile r)
    let done := { t with blk := none, sendCh := none, waiters := t.waiters.filter (fun w => !isCoreW w) }
    let faulted := fun (u : State) (code detail : Nat) (async : Bool) (info : W64) (pc : W32) =>
      let v := u.tile r.val
      v.state = .faulted ∧ v.pc = pc ∧ v.faultPc = pc ∧ v.faultInfo = info ∧ v.vregs = t.vregs ∧ v.accs = t.accs
        ∧ v.mem = t.mem ∧ v.full = t.full ∧ v.queues = t.queues ∧ bits v.fault 7 0 = code % 256 ∧ bits v.fault 15 8 = detail % 256
        ∧ bit v.fault 16 = async ∧ u.fld fd = (s.fld fd).logFault false code (rowOf r.val % 96) (colOf r.val % 96)
        ∧ (∀ g, g ≠ fd → u.fld g = s.fld g) ∧ (∀ k, k ≠ s.phys r.val → sget {} u.tiles k = sget {} s.tiles k)
        ∧ u = { s with tiles := u.tiles, fields := u.fields, mesh := s.mesh.popped r.val .loc 1 }
    t.rst = false →
    (s.front r.val .loc 1 = some q → q.h.op = 0x14 → t.blk = some b → b.backoff = false → q.gen = t.gen → t.state = .running →
      (t.stepping = true → t.stopping = false) →
      (q.h.status = 0 → t.afault = none → Gives resp s (fun u => TileAndMesh r.val s u ∧ u.mesh = s.mesh.popped r.val .loc 1
        ∧ Ends s u r.val (if b.kind = .rste then done else done.setS b.rd q.h.payload) b.npc))
      ∧ (∀ x, q.h.status = 0 → t.afault = some x → Gives resp s (fun u => faulted u x.code x.detail true x.info b.npc
          ∧ (u.tile r.val).sregs = (if b.kind = .rste then t else t.setS b.rd q.h.payload).sregs))
      ∧ (q.h.status = 1 → b.kind ≠ .rlw → b.naks < bits b.limit 7 0 → Gives resp s (fun u => TileAndMesh r.val s u
        ∧ u.mesh = s.mesh.popped r.val .loc 1 ∧ u.tile r.val = { t with blk := some { b with naks := b.naks + 1, backoff := true } }))
      ∧ (q.h.status = 1 → b.kind ≠ .rlw → bits b.limit 7 0 ≤ b.naks → Gives resp s (fun u =>
          faulted u 8 (if b.kind = .rste then 1 else 0) false b.ga t.pc ∧ (u.tile r.val).sregs = t.sregs))
      ∧ (2 ≤ q.h.status → Gives resp s (fun u => faulted u 9 q.h.status false b.ga t.pc ∧ (u.tile r.val).sregs = t.sregs)))
    ∧ (s.front r.val .loc 1 = some q → q.h.op = 0x14 → (t.blk = none ∨ q.gen ≠ t.gen) →
      Gives resp s (fun u => u = s.popFront r.val .loc 1))
    ∧ (∀ x, s.front r.val .loc 1 = some q → q.h.op = 0x15 → q.gen = t.gen → t.out.find? (fun e => e.1 == q.h.tag) = some (q.h.tag, x) →
      t.arrivals = [] →
      Gives (.ack (.tile r)) s (fun u => TileAndMesh r.val s u ∧ u.mesh = s.mesh.popped r.val .loc 1
        ∧ (u.tile r.val).out = sdel t.out q.h.tag ∧ (u.tile r.val).fence = t.fence.map (fun l => l.filter (· != q.h.tag))
        ∧ (u.tile r.val).sregs = t.sregs ∧ (u.tile r.val).mem = t.mem ∧ (u.tile r.val).pc = t.pc ∧ (u.tile r.val).state = t.state
        ∧ (u.tile r.val).latch = (if q.h.status = 0 ∨ t.latch.isSome then t.latch else some (q.h.status, x.ga))
        ∧ (u.tile r.val).latchMore = (t.latchMore || (q.h.status != 0 && t.latch.isSome))))
    ∧ (s.front r.val .loc 1 = some q → q.h.op = 0x15 → (q.gen ≠ t.gen ∨ t.arrivals = [] ∧ t.out.find? (fun e => e.1 == q.h.tag) = none) →
      Gives (.ack (.tile r)) s (fun u => TileAndMesh r.val s u ∧ u.mesh = s.mesh.popped r.val .loc 1 ∧ u.tile r.val = t))
    ∧ (t.blk = some b → b.backoff = true → b.pkt.h.ch = 0 → t.sendCh = none → s.mayEnter r.val 0 0 = true →
      Gives (.feRetry r) s (fun u => TileAndMesh r.val s u
        ∧ u.tile r.val = { t with blk := some { b with backoff := false }, want := t.want.filter (· != 0), lastC0 := 0 }
        ∧ ∃ p : Packet, p.ws = b.pkt.ws ∧ p.h = { b.pkt.h with route := p.h.route } ∧ Sent r.val .loc p s.mesh u.mesh))

/-! ### Packets and registers at field controllers and Press clusters -/

/-- RD_FLD answers the register that its word offset names and clears the fields that a read clears; WR_FLD writes as the sender's
party and is acknowledged whether the write is accepted or refused (R347, R381, R684). -/
def Sys2Proof.Claims.FieldRequests : Prop :=
  ∀ (s : State) (f : FieldId) (q : Packet),
    let c := s.fld f.val
    let o := originOf f.val
    let off := 4 * bits q.h.payload 26 0
    c.rst = false → s.front o .ctl 0 = some q → s.canInject o .ctl 1 = true →
    (q.h.op = 0x03 →
      Gives (.rdFld f) s (fun u => Answered s u o .ctl 0 q false 0 (c.peek off) ∧ FieldAndMesh f.val s u
        ∧ u.fld f.val = c.readClear off))
    ∧ (q.h.op = 0x0A → q.h.off / 4 ≠ 0x201 → q.h.off < 0x420 ∨ 0x43C ≤ q.h.off ∨ srcParty c.topo q.h ≠ .wardenFw →
      Gives (.wrFld f) s (fun u => Answered s u o .ctl 0 q true 0 0#32 ∧ FieldAndMesh f.val s u
        ∧ u.fld f.val = c.write s.sku f.val (srcParty c.topo q.h) (q.h.off / 4 * 4) (q.ws.getD 0 0#32)))

/-- Reads of field counters clear the counter read and no other, and show its value (R9, R381, R581, R583). -/
def Sys2Proof.Claims.FieldCounterReads : Prop :=
  ∀ (s : State) (p : Party) (f : FieldId),
    let c := s.fld f.val
    let gives := fun (i : Instr) (v : W32) (d : Field) =>
      Gives i s (fun u => u = { s with fields := u.fields, rdata := v.setWidth 64 } ∧ u.fld f.val = d
        ∧ ∀ g, g ≠ f.val → u.fld g = s.fld g)
    c.rst = false →
    gives (.fldXdropRead p f) (BitVec.ofNat 32 c.xdrop) { c with xdrop := 0 }
    ∧ gives (.fldSealDropRead p f) (BitVec.ofNat 32 c.sealDrop) { c with sealDrop := 0 }
    ∧ gives (.fldKeyDropRead p f) (BitVec.ofNat 32 c.keyDrop) { c with keyDrop := 0 }
    ∧ gives (.fldHopCeRead p f) (BitVec.ofNat 32 c.hopCe) { c with hopCe := 0 }
    ∧ gives (.fldHopRetryRead p f) (BitVec.ofNat 32 c.hopRetry) { c with hopRetry := 0 }
    ∧ gives (.fldTfltRead p f) (c.fltLog.headD 0#32) { c with fltLog := c.fltLog.drop 1 }
    ∧ gives (.fldBurnCeRead p f) (BitVec.ofNat 32 c.burnCe) { c with burnCe := 0 }
    ∧ gives (.fldBurnUecRead p f) (BitVec.ofNat 32 c.burnUec) { c with burnUec := 0 }

/-- GATE_INBOUND admits a request whose key the cluster's key map holds, and answers another KEY_REJECTED, status 5, with a count in
FLD_KEY_DROP (R375, R476). RD_PRS and WR_PRS act on an admitted request (R480, R488). -/
def Sys2Proof.Claims.GateRequests : Prop :=
  ∀ (s : State) (c : ClusterId) (q : Packet) (rest : List Packet),
    let x := s.prs c.val
    let g := gateRouter c.val
    let fc := fieldOfCluster c.val
    x.rst = false → s.canInject g .gate 1 = true → s.entryShut g .gate = false →
    (∀ ch : Chan, ch = 0 ∨ ch = 2 → s.front g .gate ch.val = some q →
      (q.h.pkey = 0 ∨ (sget 0#32 x.gkeymap (q.h.pkey / 32)).getLsbD (q.h.pkey % 32) = true →
        Gives (.gateInbound c ch) s (fun u => PressAndMesh c.val s u ∧ u.mesh = s.mesh.popped g .gate ch.val
          ∧ u.prs c.val = { x with inq := x.inq ++ [q] }))
      ∧ (q.h.pkey ≠ 0 → (sget 0#32 x.gkeymap (q.h.pkey / 32)).getLsbD (q.h.pkey % 32) = false →
        Gives (.gateInbound c ch) s (fun u =>
          Answered s u g .gate ch.val q (!wantsResp q.h.op) 5 0#32 ∧ FieldAndMesh fc s u
            ∧ (u.fld fc).keyDrop = satInc (s.fld fc).keyDrop 0xFFFFFFFF)))
    ∧ (x.inq = q :: rest →
      (q.h.op = 0x04 → 4 * bits q.h.payload 26 0 + 4 ≤ x.ways * 0x80000 → x.scratchUe (4 * bits q.h.payload 26 0) 4 = false →
        4 * bits q.h.payload 26 0 < 0x800000 →
        Gives (.rdPrs c) s (fun u =>
          Replies s.mesh u.mesh g .gate q false 0 (mread32 x.scratch (4 * bits q.h.payload 26 0)) ∧ PressAndMesh c.val s u
            ∧ u.prs c.val = { x with inq := rest }))
      ∧ (q.h.op = 0x04 → x.ways * 0x80000 < 4 * bits q.h.payload 26 0 + 4 → 4 * bits q.h.payload 26 0 < 0x800000 →
        Gives (.rdPrs c) s (fun u => Replies s.mesh u.mesh g .gate q false 7 0#32 ∧ PressAndMesh c.val s u
          ∧ u.prs c.val = { x with inq := rest }))
      ∧ (q.h.op = 0x04 → 0x800000 ≤ 4 * bits q.h.payload 26 0 →
        Gives (.rdPrs c) s (fun u => Replies s.mesh u.mesh g .gate q false 0
            (if (s.prsWho c.val q.h).reads then x.peek c.val (4 * bits q.h.payload 26 0 - 0x800000) else 0#32)
          ∧ PressAndMesh c.val s u ∧ u.prs c.val = { x with inq := rest }))
      ∧ (q.h.op = 0x0B → 0x800000 ≤ q.h.off →
        Gives (.wrPrs c) s (fun u => Replies s.mesh u.mesh g .gate q true 0 0#32 ∧ PressAndMesh c.val s u
          ∧ u.prs c.val = { x with inq := rest }.write (s.prsWho c.val q.h) (q.h.off - 0x800000) (q.ws.getD 0 0#32)))
      ∧ (q.h.op = 0x0B → q.h.off < 0x800000 → q.h.off + 4 * q.ws.length ≤ x.ways * 0x80000 →
        Gives (.wrPrs c) s (fun u => Replies s.mesh u.mesh g .gate q true 0 0#32 ∧ PressAndMesh c.val s u
          ∧ (u.prs c.val).inq = rest ∧ (u.prs c.val).cores = x.cores
          ∧ (∀ i, i < q.ws.length → mread32 (u.prs c.val).scratch (q.h.off + 4 * i) = q.ws.getD i 0#32)
          ∧ ∀ a, a < q.h.off ∨ q.h.off + 4 * q.ws.length ≤ a → mget (u.prs c.val).scratch a = mget x.scratch a)))

/-- Answers at a gate (R477, R478, R483, R612): a response frees its tag and completes the load that waited for it; an
acknowledgement frees its tag; GATE_FE_RETRY sends a full/empty access again; GATE_TAG_IDLE makes a tag freed by HOLD usable. -/
def Sys2Proof.Claims.GateAnswers : Prop :=
  ∀ (s : State) (c : ClusterId) (q : Packet) (b : PBlk) (t : GTag),
    let x := s.prs c.val
    let g := gateRouter c.val
    x.rst = false →
    (s.front g .gate 1 = some q → q.h.op = 0x14 → x.tags.find? (fun e => e.1 == q.h.tag) = some (q.h.tag, t) → t.word = some 0 →
      t.dead = false → (s.core c.val t.core).blk = some b → q.h.status = 0 → b.kind = .load → b.mn = .lw → b.pos = 0 → b.need = [0] →
      b.got = [] →
      Gives (.resp (.gate c)) s (fun u => PressAndMesh c.val s u ∧ u.mesh = s.mesh.popped g .gate 1
        ∧ (u.prs c.val).tags = sdel x.tags q.h.tag
        ∧ u.core c.val t.core = ((s.core c.val t.core).setX b.rd (q.h.payload.signExtend 64)).done b.npc))
    ∧ (∀ i, s.front g .gate 1 = some q → q.h.op = 0x14 → x.tags.find? (fun e => e.1 == q.h.tag) = some (q.h.tag, t) → t.word = some i →
      t.dead = false → (s.core c.val t.core).blk = some b → 2 ≤ q.h.status →
      Gives (.resp (.gate c)) s (fun u => Traps (s.popFront g .gate 1) u c.val t.core 3 q.h.status b.va))
    ∧ (s.front g .gate 1 = some q → q.h.op = 0x14 → x.tags.find? (fun e => e.1 == q.h.tag) = some (q.h.tag, t) → t.word = some 0 →
      t.dead = false → (s.core c.val t.core).blk = some b → q.h.status = 1 → (b.kind = .feLd ∨ b.kind = .feSt) → b.naks < 64 →
      Gives (.resp (.gate c)) s (fun u => PressAndMesh c.val s u ∧ u.mesh = s.mesh.popped g .gate 1
        ∧ (u.prs c.val).tags = sdel x.tags q.h.tag
        ∧ u.core c.val t.core = { s.core c.val t.core with blk := some { b with naks := b.naks + 1, backoff := true } }))
    ∧ (s.front g .gate 1 = some q → q.h.op = 0x14 → x.tags.find? (fun e => e.1 == q.h.tag) = none →
      Gives (.resp (.gate c)) s (fun u => u = { s with mesh := s.mesh.popped g .gate 1 }))
    ∧ (s.front g .gate 1 = some q → q.h.op = 0x15 → x.tags.find? (fun e => e.1 == q.h.tag) = some (q.h.tag, t) →
      (s.core c.val t.core).arrivals = [] →
      Gives (.ack (.gate c)) s (fun u => PressAndMesh c.val s u ∧ u.mesh = s.mesh.popped g .gate 1
        ∧ (u.prs c.val).tags = sdel x.tags q.h.tag ∧ (u.core c.val t.core).xregs = (s.core c.val t.core).xregs
        ∧ (u.core c.val t.core).latch = (if q.h.status = 0 ∨ (s.core c.val t.core).latch.isSome then (s.core c.val t.core).latch
            else some (q.h.status, t.ga))))
    ∧ (∀ (k : CoreId) (n : Nat) (ns : List Nat), x.runs k.val = true → (s.core c.val k.val).blk = some b → b.backoff = true → x.freeTags = n :: ns →
      s.canInject g .gate 0 = true → s.entryShut g .gate = false →
      Gives (.gateFeRetry c k) s (fun u => PressAndMesh c.val s u
        ∧ u.core c.val k.val = { s.core c.val k.val with blk := some { b with backoff := false } }
        ∧ (u.prs c.val).tags = sput x.tags n { core := k.val, word := some 0, ch := b.pkt.h.ch, ga := b.ga }
        ∧ ∃ p : Packet, p.ws = b.pkt.ws ∧ p.h = { b.pkt.h with tag := n, route := p.h.route } ∧ Sent g .gate p s.mesh u.mesh))
    ∧ (∀ n : Fin 64, Gives (.gateTagIdle c n) s (fun u => OnlyPress c.val s u
        ∧ u.prs c.val = { x with idle := x.idle.filter (· != n.val) }))

/-- Registers of a Press cluster (R481, R488, R492, R497, R498, R499, Table 12.8): a write by Warden firmware or by the cluster's own
Machine level is taken when its value is legal; any software rings a doorbell, whose bits accumulate; anybody else is refused with
PRS_GSTAT.WREF and no other change. -/
def Sys2Proof.Claims.PressRegisters : Prop :=
  ∀ (s : State) (p : Party) (c : ClusterId) (k : CoreId) (v : W32) (w : W64) (n : Fin 16),
    let x := s.prs c.val
    let may := p = .wardenFw ∨ p = .pressM
    let gives := fun (i : Instr) (y : Press) => Gives i s (fun u => OnlyPress c.val s u ∧ u.prs c.val = y)
    let refused := { x with gstat := setBit x.gstat 2 true }
    let t := v.toNat % 32
    x.rst = false →
    (may → 8 ≤ t → t ≤ 24 → gives (.prsClkWrite p c v) { x with clkTgt := t })
    ∧ (t < 8 ∨ 24 < t → gives (.prsClkWrite p c v) refused)
    ∧ gives (.clusterClkDone c) { x with clkEff := min x.clkTgt x.gov }
    ∧ (may → bits w 63 60 < 8 → gives (.prsFwinWrite p c n w) { x with fwin := sput x.fwin n.val (setBits w 23 0 0) })
    ∧ (8 ≤ bits w 63 60 → gives (.prsFwinWrite p c n w) refused)
    ∧ gives (.doorbell p c k v) { x with db := sput x.db k.val (sget 0#32 x.db k.val ||| v) }
    ∧ (may → gives (.doorbellClear p c k v) { x with db := sput x.db k.val (sget 0#32 x.db k.val &&& ~~~v) })
    ∧ (may → gives (.prsIpiWrite p c v) { x with ipi := v &&& 0xF#32 })
    ∧ (¬may → ∀ i ∈ [Instr.prsClkWrite p c v, .prsFwinWrite p c n w, .doorbellClear p c k v, .prsIpiWrite p c v, .coreHold p c k,
        .coreRelease p c k], gives i refused)
    ∧ (∀ m, x.waysNew = some m → x.tags = [] → x.inq = [] → (∀ j, j < 4 → (x.core j).blk = none) →
      gives (.l3lockApply c) { x with ways := m, waysNew := none, l3 := [], scratch := mclr x.scratch (m * 0x80000) 0x800000,
                                      scratchBad := x.scratchBad.filter (· < m * 0x80000) })
    ∧ (∀ m, x.waysNew = some m → x.tags ≠ [] ∨ x.inq ≠ [] ∨ (∃ j : Fin 4, (x.core j.val).blk ≠ none) → gives (.l3lockApply c) x)

/-- CORE_RELEASE starts a held core at Machine level at PRS_BOOTVEC; CORE_HOLD resets it, frees its gate tags for later and leaves
the other cores alone (R498, R612). -/
def Sys2Proof.Claims.PressCoreHold : Prop :=
  ∀ (s : State) (p : Party) (c : ClusterId) (k : CoreId),
    let x := s.prs c.val
    x.rst = false → (p = .wardenFw ∨ p = .pressM) →
    (bit x.hold k.val = true →
      Gives (.coreRelease p c k) s (fun u => OnlyPress c.val s u ∧ bit (u.prs c.val).hold k.val = false
        ∧ u.core c.val k.val = { l2 := (s.core c.val k.val).l2, pc := x.bootvec.setWidth 64 }
        ∧ (u.prs c.val).scratch = x.scratch ∧ (u.prs c.val).tags = x.tags
        ∧ ∀ j : CoreId, j ≠ k → u.core c.val j.val = s.core c.val j.val ∧ bit (u.prs c.val).hold j.val = bit x.hold j.val))
    ∧ (bit x.hold k.val = false →
      Gives (.coreHold p c k) s (fun u => OnlyPress c.val s u ∧ bit (u.prs c.val).hold k.val = true
        ∧ u.core c.val k.val = { l2 := (s.core c.val k.val).l2 }
        ∧ (u.prs c.val).scratch = x.scratch ∧ (u.prs c.val).tags = x.tags.filter (fun e => e.2.core != k.val)
        ∧ ∀ j : CoreId, j ≠ k → u.core c.val j.val = s.core c.val j.val ∧ bit (u.prs c.val).hold j.val = bit x.hold j.val))

/-- The highest interrupt that is pending, enabled and due is taken by a running core, at S when it is passed and else at M: pc, cause,
level and interrupt enable are saved at that level, and the pc is its vector plus 0x80 (R491, R492). TIMER_INTERRUPT brings TIME to the core's compare
value. -/
def Sys2Proof.Claims.PressInterrupts : Prop :=
  ∀ (s : State) (c : ClusterId) (k : CoreId) (i : Nat),
    let q := s.core c.val k.val
    (∀ o ∈ [(false, Lvl.m, 0x800), (true, .s, 0x400)], (s.prs c.val).runs k.val = true → q.blk = none →
      s.irqOf c.val k.val = some i → q.passed.testBit i = o.1 →
      Gives (.interruptTake c k) s (fun u => OnlyPress c.val s u
        ∧ (u.core c.val k.val).lvl = o.2.1 ∧ (u.core c.val k.val).pc = q.ctlReg (o.2.2 + 1) + 0x80#64
        ∧ (u.core c.val k.val).ctlReg (o.2.2 + 2) = q.pc ∧ (u.core c.val k.val).ctlReg (o.2.2 + 4) = BitVec.ofNat 64 (65536 + i)
        ∧ (u.core c.val k.val).ctlReg (o.2.2 + 3)
            = BitVec.ofNat 64 ((if (q.ctlReg o.2.2).getLsbD 0 then 4 else 0) + q.lvl.code)
        ∧ (u.core c.val k.val).ctlReg o.2.2 = 0#64 ∧ (u.core c.val k.val).xregs = q.xregs
        ∧ ∀ j, j ≠ k.val → u.core c.val j = s.core c.val j))
    ∧ (s.irqOf c.val k.val = none → Gives (.interruptTake c k) s (fun u => u = s))
    ∧ Gives (.timerInterrupt c k) s (fun u => u = { s with time := u.time } ∧ (q.ctlReg 0x80A).toNat ≤ u.time.toNat
        ∧ s.time.toNat ≤ u.time.toNat)

/-! ### Barriers at field controllers -/

/-- ARRIVE at a node (R397, R399, R403): one arrival is counted; the last one reloads the node, counts the release, and releases the
field's tiles (a field-wide object) or reports FDONE to the root; an object that is not live is dropped with UNARMED. -/
def Sys2Proof.Claims.BarrierNode : Prop :=
  ∀ (s : State) (f : FieldId) (q : Packet),
    let c := s.fld f.val
    let o := originOf f.val
    let i := bits q.h.payload 13 0
    let e := sget {} c.barNode i
    c.rst = false → s.front o .ctl 3 = some q → q.h.op = 0x1C → bits q.h.payload 16 14 = 0 →
    (e.scope ≠ 0 → 2 ≤ e.remain → Gives (.arrive f) s (fun u => FieldAndMesh f.val s u ∧ u.mesh = s.mesh.popped o .ctl 3
        ∧ u.fld f.val = { c with barNode := sput c.barNode i { e with remain := e.remain - 1 } }))
    ∧ (e.scope = 1 → e.remain = 1 → Gives (.arrive f) s (fun u => FieldAndMesh f.val s u ∧ u.mesh = s.mesh.popped o .ctl 3
        ∧ sget {} (u.fld f.val).barNode i = { e with remain := e.expect, rels := (e.rels + 1) % 65536 }
        ∧ (u.fld f.val).relLog = c.relLog ++ [{ id := i, lastf := f.val, cut := false, epoch := false, src := f.val, miss := s.relMiss f.val }]))
    ∧ (2 ≤ e.scope → e.remain = 1 → Gives (.arrive f) s (fun u => FieldAndMesh f.val s u
        ∧ (u.fld f.val).barNode = sput c.barNode i { e with remain := e.expect, rels := (e.rels + 1) % 65536 }
        ∧ ∃ p, p.h.op = 0x1C ∧ p.h.ch = 3 ∧ p.h.long = false ∧ p.h.payload = BitVec.ofNat 32 (2 ^ 14 + i)
          ∧ p.h.dx = colOf (originOf e.rootf) ∧ p.h.dy = rowOf (originOf e.rootf) ∧ p.h.sx = colOf o ∧ p.h.sy = rowOf o
          ∧ Sent o .ctl p (s.mesh.popped o .ctl 3) u.mesh))
    ∧ (e.scope = 0 → Gives (.arrive f) s (fun u => FieldAndMesh f.val s u ∧ (u.fld f.val).barNode = c.barNode
        ∧ bit (u.fld f.val).barStat 0 = true ∧ bit (u.fld f.val).barStat 4 = true
        ∧ (bit c.barStat 4 = false → (u.fld f.val).barDrop = BitVec.ofNat 32 ((q.h.sy % 96 * 128 + q.h.sx % 96) * 2 ^ 14 + i))))

/-- FDONE, PDONE and PRELEASE at a root (R400, R401, R588): a field counts once; the last one completes the instance, which goes to the
fields of the rectangle that the release's path reaches, to the epoch sequencer by an EVENT, or to the system root; PRELEASE lets the release go with the root's own LASTF; what an
unarmed root receives is dropped with ROOTDROP. -/
def Sys2Proof.Claims.BarrierRoot : Prop :=
  ∀ (s : State) (f : FieldId) (q : Packet),
    let c := s.fld f.val
    let o := originOf f.val
    let i := bits q.h.payload 13 0
    let e := sget {} c.barRoot i
    let g := fieldAt q.h.sy q.h.sx
    let cut := q.h.payload.getLsbD 23
    let event := { s.wdn with evtPend := setBit s.wdn.evtPend f.val true }.sendMsix 2
    let released := fun (u : State) (x : Rel) =>
      ∀ h : FieldId, (u.fld h.val).relF
        = if h.val ∈ s.relReach f.val e.fmask then (s.fld h.val).relF ++ [x] else (s.fld h.val).relF
    c.rst = false → s.front o .ctl 3 = some q → q.h.op = 0x1C →
    (bits q.h.payload 16 14 = 1 → e.armed = true → bit e.fmask g = true → bit e.rcvd g = false →
      (2 ≤ e.remainf → Gives (.fdone f) s (fun u => FieldAndMesh f.val s u ∧ u.mesh = s.mesh.popped o .ctl 3
        ∧ u.fld f.val = { c with
            barRoot := sput c.barRoot i { e with
              rcvd := setBit e.rcvd g true, remainf := e.remainf - 1, cut := e.cut || cut, fcount := true } }))
      ∧ (e.remainf = 1 → e.sys = false → e.epoch = true → Gives (.fdone f) s (fun u =>
          u = { s with fields := u.fields, mesh := s.mesh.popped o .ctl 3, epochQ := u.epochQ, wdn := event }
          ∧ u.epochQ = s.epochQ ++ [{ f := f.val, id := i, cut := e.cut || cut, lastf := g }]
          ∧ (sget {} (u.fld f.val).barRoot i).rcvd = 0#64 ∧ (sget {} (u.fld f.val).barRoot i).remainf = popF e.fmask))
      ∧ (e.remainf = 1 → e.sys = false → e.epoch = false → Gives (.fdone f) s (fun u =>
          u = { s with fields := u.fields, mesh := s.mesh.popped o .ctl 3 }
          ∧ (sget {} (u.fld f.val).barRoot i).rcvd = 0#64
          ∧ released u { id := i, lastf := g, cut := e.cut || cut, epoch := false, src := f.val }))
      ∧ (e.remainf = 1 → e.sys = true → Gives (.fdone f) s (fun u => FieldAndMesh f.val s u
          ∧ (sget {} (u.fld f.val).barRoot i).rcvd = 0#64
          ∧ ∃ p, p.h.op = 0x1C ∧ p.h.dplate = e.rootplate ∧ p.h.dx = colOf o ∧ p.h.dy = rowOf o
            ∧ p.h.payload = BitVec.ofNat 32 ((if e.cut || cut then 2 ^ 23 else 0) + g * 2 ^ 17 + 4 * 2 ^ 14 + i)
            ∧ Sent o .ctl p (s.mesh.popped o .ctl 3) u.mesh)))
    ∧ (bits q.h.payload 16 14 = 1 → e.armed = false ∨ bit e.fmask g = false ∨ bit e.rcvd g = true →
        Gives (.fdone f) s (fun u => FieldAndMesh f.val s u ∧ (u.fld f.val).barRoot = c.barRoot
          ∧ bit (u.fld f.val).barStat 1 = true))
    ∧ (bits q.h.payload 16 14 = 4 → e.armed = true → e.sys = true → e.sysroot = true → 2 ≤ e.remainp →
        Gives (.pdone f) s (fun u => FieldAndMesh f.val s u ∧ u.mesh = s.mesh.popped o .ctl 3
          ∧ u.fld f.val = { c with barRoot := sput c.barRoot i { e with
            remainp := e.remainp - 1, cutp := e.cutp || cut, pcount := true } }))
    ∧ (bits q.h.payload 16 14 = 4 → e.armed = true → e.sys = true → e.sysroot = true → e.remainp = 1 →
        Gives (.pdone f) s (fun u => FieldAndMesh f.val s u
          ∧ (sget {} (u.fld f.val).barRoot i).remainp = e.expectp + 1
          ∧ ∃ p, p.h.op = 0x1C ∧ p.h.payload = BitVec.ofNat 32 ((if e.cutp || cut then 2 ^ 23 else 0) + 5 * 2 ^ 14 + i)
            ∧ p.back = .bridge ∧ p.h.dy = 0 ∧ p.h.dx = 96 * (f.val % 8)
            ∧ Sent o .ctl p (s.mesh.popped o .ctl 3) u.mesh))
    ∧ (bits q.h.payload 16 14 = 5 → e.armed = true → e.sys = true → e.epoch = true →
        Gives (.prelease f) s (fun u => u = { s with mesh := s.mesh.popped o .ctl 3, epochQ := u.epochQ, wdn := event }
          ∧ u.epochQ = s.epochQ ++ [{ f := f.val, id := i, cut := cut, lastf := e.lastf }]))
    ∧ (bits q.h.payload 16 14 = 5 → e.armed = true → e.sys = true → e.epoch = false →
        Gives (.prelease f) s (fun u => u = { s with fields := u.fields, mesh := s.mesh.popped o .ctl 3 }
          ∧ released u { id := i, lastf := e.lastf, cut := cut, epoch := false, src := f.val }))
    ∧ (∀ k ∈ [(Instr.pdone f, 4), (.prelease f, 5)], bits q.h.payload 16 14 = k.2 → e.armed = false →
        Gives k.1 s (fun u => FieldAndMesh f.val s u ∧ (u.fld f.val).barRoot = c.barRoot ∧ bit (u.fld f.val).barStat 1 = true))

/-- Releases (R402 to R405): a field controller takes RELEASE_F when its node is live and the root it names sent it; a tile or a core
marks the sent, unreleased entry with the release's id, and no other; a tile in reset, or one that a failed link cuts off,
keeps its table. -/
def Sys2Proof.Claims.BarrierRelease : Prop :=
  ∀ (s : State) (x : Rel),
    (∀ (f : FieldId) (rest : List Rel),
      let c := s.fld f.val
      let e := sget {} c.barNode x.id
      c.rst = false → c.relF = x :: rest →
      (2 ≤ e.scope → e.rootf = x.src → Gives (.releaseF f) s (fun u => OnlyField f.val s u ∧ (u.fld f.val).relF = rest
          ∧ (u.fld f.val).relLog = c.relLog ++ [{ x with miss := s.relMiss f.val }] ∧ (u.fld f.val).barNode = c.barNode))
      ∧ (e.scope < 2 ∨ e.rootf ≠ x.src → Gives (.releaseF f) s (fun u => OnlyField f.val s u
          ∧ u.fld f.val = { c with relF := rest })))
    ∧ (∀ r : TileId,
      let t := s.tile r.val
      (s.fld (fieldOf r.val)).relLog[t.relSeen]? = some x →
      Gives (.releaseT (.tile r)) s (fun u => OnlyTile r.val s u
        ∧ u.tile r.val = { t with relSeen := t.relSeen + 1, pend := (u.tile r.val).pend }
        ∧ ∀ n, sget {} (u.tile r.val).pend n =
            (if t.rst = false ∧ x.miss.contains (localIdx r.val) = false ∧ (sget {} t.pend n).valid = true ∧ (sget {} t.pend n).id = x.id ∧ (sget {} t.pend n).sent = true
                ∧ (sget {} t.pend n).released = false
              then { sget {} t.pend n with released := true, cut := x.cut } else sget {} t.pend n)))
    ∧ (∀ (c : ClusterId) (k : CoreId),
      (s.prs c.val).rst = false → (s.fld (fieldOfCluster c.val)).relLog[(s.prs c.val).relSeen]? = some x →
      Gives (.releaseT (.gate c)) s (fun u => OnlyPress c.val s u ∧ (u.prs c.val).relSeen = (s.prs c.val).relSeen + 1
        ∧ (∀ y, u.core c.val y = { s.core c.val y with pend := (u.core c.val y).pend })
        ∧ ∀ n, sget {} (u.core c.val k.val).pend n =
            (if x.miss.contains (localIdx (gateOf (fieldOfCluster c.val))) = false ∧ (sget {} (s.core c.val k.val).pend n).valid = true
                ∧ (sget {} (s.core c.val k.val).pend n).id = x.id ∧ (sget {} (s.core c.val k.val).pend n).sent = true
                ∧ (sget {} (s.core c.val k.val).pend n).released = false
              then { sget {} (s.core c.val k.val).pend n with released := true, cut := x.cut }
              else sget {} (s.core c.val k.val).pend n)))

/-- Writes of barrier entries by Warden firmware (R393 to R395): a legal node or root entry is stored with its counters reloaded; a
reserved or running one is refused with FLD_BAR_STAT.WREF; DROPV_CLEAR clears the drop record (R414). -/
def Sys2Proof.Claims.BarrierEntries : Prop :=
  ∀ (s : State) (p : Party) (f : FieldId) (i : Fin 16384) (v : W32),
    let c := s.fld f.val
    let e := sget {} c.barNode i.val
    let x := sget {} c.barRoot i.val
    c.rst = false → p = .wardenFw →
    (e.scope = 0 ∨ e.remain = e.expect → bits v 31 30 = 0 ∨ 1 ≤ bits v 13 0 ∧ bits v 13 0 ≤ 9220 →
      (bits v 31 30 = 1 → bits v 25 20 = f.val) → (bits v 31 30 = 3 → i.val < 0x1000) →
      Gives (.fldBarnodeWrite p f i v) s (fun u => OnlyField f.val s u
        ∧ u.fld f.val = { c with
          barNode := sput c.barNode i.val { e with scope := bits v 31 30, rootf := bits v 25 20, expect := bits v 13 0, remain := bits v 13 0 } }))
    ∧ (e.scope ≠ 0 → e.remain ≠ e.expect →
      Gives (.fldBarnodeWrite p f i v) s (fun u => OnlyField f.val s u ∧ (u.fld f.val).barNode = c.barNode
        ∧ bit (u.fld f.val).barStat 3 = true))
    ∧ (x.armed = false → v.getLsbD 30 = true → i.val < 0x1000 → (v.getLsbD 31 = true → x.fmask ≠ 0#64) →
      Gives (.fldBarrootWrite p f i 0 v) s (fun u => OnlyField f.val s u
        ∧ u.fld f.val = { c with barRoot := sput c.barRoot i.val { x with
            armed := v.getLsbD 31, sys := true, sysroot := v.getLsbD 29, epoch := v.getLsbD 28, rootplate := bits v 25 16,
            expectp := bits v 9 0, remainf := popF x.fmask, remainp := bits v 9 0 + 1, rcvd := 0#64, cut := false, cutp := false, fcount := false, pcount := false } }))
    ∧ (x.armed = true → x.fcount = true ∨ x.pcount = true → ∀ k : Fin 3,
      Gives (.fldBarrootWrite p f i k v) s (fun u => OnlyField f.val s u ∧ (u.fld f.val).barRoot = c.barRoot
        ∧ bit (u.fld f.val).barStat 3 = true))
    ∧ Gives (.dropvClear p f) s (fun u => OnlyField f.val s u
        ∧ u.fld f.val = { c with barStat := c.barStat &&& ~~~0x10#32 })

/-- Cuts (R415, R416, Table 10.9): each level changes what its row says and completes the instance when nothing is left to wait for;
values outside Table 10.9 set CUTERR and change nothing else. -/
def Sys2Proof.Claims.BarrierCuts : Prop :=
  ∀ (s : State) (p : Party) (f : FieldId) (v : W32),
    let c := s.fld f.val
    let i := bits c.barcutSel 13 0
    let g := bits c.barcutSel 21 16
    let e := sget {} c.barNode i
    let x := sget {} c.barRoot i
    let de := bits v 29 16
    let dr := bits v 13 0
    let level := bits c.barcutSel 15 14
    let bad := fun (o : Instr) => Gives o s (fun u => OnlyField f.val s u ∧ (u.fld f.val).barNode = c.barNode
      ∧ (u.fld f.val).barRoot = c.barRoot ∧ bit (u.fld f.val).barStat 2 = true)
    c.rst = false → p = .wardenFw →
    (level = 0 → e.scope ≠ 0 → 0 < de → de < e.expect → dr ≤ de → dr < e.remain →
      Gives (.barcutNode p f v) s (fun u => OnlyField f.val s u ∧ u.fld f.val = { c with
        barNode := sput c.barNode i { e with expect := e.expect - de, remain := e.remain - dr } }))
    ∧ (level = 0 → e.scope = 1 → 0 < de → de < e.expect → dr ≤ de → dr = e.remain →
      Gives (.barcutNode p f v) s (fun u => OnlyField f.val s u
        ∧ sget {} (u.fld f.val).barNode i
            = { e with expect := e.expect - de, remain := e.expect - de, rels := (e.rels + 1) % 65536 }
        ∧ (u.fld f.val).relLog
            = c.relLog ++ [{ id := i, lastf := f.val, cut := true, epoch := false, src := f.val, miss := s.relMiss f.val }]))
    ∧ (level = 0 → e.scope = 0 ∨ de = 0 ∨ e.expect ≤ de ∨ de < dr ∨ e.remain < dr → bad (.barcutNode p f v))
    ∧ (level = 1 → x.armed = true → bit x.fmask g = true → popF x.fmask ≠ 1 → de = 0 → dr = 0 → bit x.rcvd g = true →
      x.remainf ≠ 0 →
      Gives (.barcutRootRemove p f v) s (fun u => OnlyField f.val s u ∧ u.fld f.val = { c with
        barRoot := sput c.barRoot i { x with fmask := setBit x.fmask g false } }))
    ∧ (level = 1 → x.armed = false ∨ bit x.fmask g = false ∨ popF x.fmask = 1 → bad (.barcutRootRemove p f v))
    ∧ (level = 2 → x.armed = true → bit x.fmask g = true → bit x.rcvd g = false → de = 0 → dr = 0 → 2 ≤ x.remainf →
      Gives (.barcutRootCredit p f v) s (fun u => OnlyField f.val s u ∧ u.fld f.val = { c with
        barRoot := sput c.barRoot i { x with rcvd := setBit x.rcvd g true, remainf := x.remainf - 1 } }))
    ∧ (x.armed = true → bit x.fmask g = true → bit x.rcvd g = false → de = 0 → dr = 0 → x.remainf = 1 → x.sys = false →
        x.epoch = false →
      ∀ o ∈ [(Instr.barcutRootRemove p f v, 1, setBit x.fmask g false), (.barcutRootCredit p f v, 2, x.fmask)],
        level = o.2.1 → (o.2.1 = 1 → popF x.fmask ≠ 1) →
        Gives o.1 s (fun u => u = { s with fields := u.fields } ∧ (sget {} (u.fld f.val).barRoot i).rcvd = 0#64
          ∧ (sget {} (u.fld f.val).barRoot i).remainf = popF o.2.2
          ∧ ∀ h : FieldId, h.val ∈ s.relReach f.val o.2.2 →
              (u.fld h.val).relF = (s.fld h.val).relF ++ [{ id := i, lastf := g, cut := true, epoch := false, src := f.val }]))
    ∧ (level = 2 → x.armed = false ∨ bit x.rcvd g = true → bad (.barcutRootCredit p f v))
    ∧ (level = 3 → x.armed = true → x.sysroot = true → 0 < de → de ≤ x.expectp → dr ≤ de → dr < x.remainp →
      Gives (.barcutSysroot p f v) s (fun u => OnlyField f.val s u ∧ u.fld f.val = { c with
        barRoot := sput c.barRoot i { x with expectp := x.expectp - de, remainp := x.remainp - dr } }))
    ∧ (level = 3 → x.armed = true → x.sysroot = true → 0 < de → de ≤ x.expectp → dr ≤ de → dr = x.remainp →
      Gives (.barcutSysroot p f v) s (fun u => FieldAndMesh f.val s u
        ∧ (sget {} (u.fld f.val).barRoot i).remainp = x.expectp - de + 1
        ∧ ∃ q, q.h.op = 0x1C ∧ q.h.payload = BitVec.ofNat 32 (2 ^ 23 + 5 * 2 ^ 14 + i) ∧ q.back = .bridge
          ∧ q.h.dy = 0 ∧ q.h.dx = 96 * (f.val % 8) ∧ Sent (originOf f.val) .ctl q s.mesh u.mesh))
    ∧ (level = 3 → x.sysroot = false → bad (.barcutSysroot p f v))

/-! ### Routers, links and credits -/

/-- Routing by the header and the router's own place (R355, R356): the XY path goes by column and then by row, on lane A; at its end stands
the destination's port. The Hatch path goes by stops, and an off-ramp runs on lane B under ROUTE 5. -/
def Sys2Proof.Claims.MeshRouting : Prop :=
  ∀ (topo : W32) (r : Nat) (h : Hdr) (back : RPort),
    let d := destOf topo h back
    let y := rowOf d.1
    let x := colOf d.1
    (h.route = 0 →
      (colOf r < x → nextHop topo r h back = .link .e false 0) ∧ (x < colOf r → nextHop topo r h back = .link .w false 0)
      ∧ (colOf r = x → rowOf r < y → nextHop topo r h back = .link .s false 0)
      ∧ (colOf r = x → y < rowOf r → nextHop topo r h back = .link .n false 0)
      ∧ (colOf r = x → rowOf r = y → nextHop topo r h back = .here d.2))
    ∧ (h.route = 4 →
      (colOf r < stopOf x → nextHop topo r h back = .link .he false 4)
      ∧ (colOf r = stopOf x → rowOf r < stopOf y → nextHop topo r h back = .link .hs false 4)
      ∧ (colOf r = stopOf x → rowOf r = stopOf y → colOf r < x → nextHop topo r h back = .link .e true 5)
      ∧ (colOf r = stopOf x → rowOf r = stopOf y → colOf r = x → rowOf r = y → nextHop topo r h back = .here d.2))
    ∧ (∀ src dst : Nat, entryRoute src dst
        = (if 24 ≤ Machine.dist (colOf src) (colOf dst) then 1 else 0) + (if 24 ≤ Machine.dist (rowOf src) (rowOf dst) then 2 else 0))

/-- ROUTER_FORWARD with the packet of one flit at the front of an input lane (R81, R86, R351, R352, R354, R355, R361, R370 to R373, R577):
it goes over the link that routing names when the output is free, has a credit and grants the lane, with the new ROUTE, and waits
otherwise; at its destination it is handed over; one that a seal refuses at its entry or its exit is dropped and answered with status
4, and one for a link in discard state is counted and answered with status 6. A corrected flit is counted. -/
def Sys2Proof.Claims.RouterForward : Prop :=
  ∀ (s : State) (l : LaneId) (fl : Flit) (rest : List Flit),
    let r := l.r.val
    let k := laneKey r l.port l.ch.val l.b
    let f := fieldOf r
    let c := s.fld f
    let answer := fun (u : State) (st : Nat) => ∃ p : Packet, p.h.ch = 1 ∧ p.h.status = st ∧ p.h.dx = fl.h.sx ∧ p.h.dy = fl.h.sy
      ∧ p.h.dplate = fl.h.splate ∧ p.h.tag = fl.h.tag ∧ Sent r .loc p (s.mesh.pop k) u.mesh
    let sealed := Gives (.routerForward l .ok) s (fun u => FieldAndMesh f s u
        ∧ (u.fld f).sealDrop = satInc c.sealDrop 0xFFFFFFFF ∧ bit (u.fld f).meshStat 0 = true ∧ bit (u.fld f).meshStat 3 = true
        ∧ (bit c.meshStat 3 = false → (u.fld f).dropHdr = fl.h.word) ∧ answer u 4)
    c.rst = false → s.mesh.lane k = fl :: rest → fl.kind = .single → shas s.mesh.sink k = false →
    s.wdn.epM.contains f = false →
    (∀ out b route n ip, (l.port = .loc → entryOk c.sealAct c.topo fl.h = true) →
      nextHop c.topo r fl.h fl.back = .link out b route → neighbour r out = some (n, ip) → s.linkDead n ip = false →
      let ok := laneKey n ip fl.h.ch b
      let m := ((s.mesh.pop k).push ok { fl with h := { fl.h with route := route } }).grantTo k ok true
      (shas s.mesh.owner ok = false → s.laneCredit ok = true → s.granted r k ok = true →
        Gives (.routerForward l .ok) s (fun u => u = s.setMesh m)
        ∧ (l.port ≠ .loc → l.port ≠ .ctl → Gives (.routerForward l .ce) s (fun u => u.mesh = m ∧ OnlyField f (s.setMesh m) u
            ∧ u.fld f = { c with hopCe := satInc c.hopCe 0xFFFFFFFF })))
      ∧ (shas s.mesh.owner ok = true ∨ s.laneCredit ok = false ∨ s.granted r k ok = false →
        Gives (.routerForward l .ok) s (fun u => u = s)))
    ∧ (∀ out, (l.port = .loc → entryOk c.sealAct c.topo fl.h = true) →
      (exitOk c.sealAct c.topo fl.h = true ∨ l.port = .loc ∧ out = .loc) →
      nextHop c.topo r fl.h fl.back = .here out → out = .loc ∨ out = .ctl → takesOp out fl.h.op = true →
      fl.h.op ≠ 0x1C → fl.h.op ≠ 0x18 → fl.h.ch ≠ 2 → s.portDead r out fl.h = false →
      let ok := laneKey r out fl.h.ch true
      shas s.mesh.owner ok = false → s.granted r k ok = true →
      Gives (.routerForward l .ok) s (fun u => u = s.setMesh
        ({ s.mesh.pop k with
          inbox := sput s.mesh.inbox (portKey r out fl.h.ch)
            (sget [] s.mesh.inbox (portKey r out fl.h.ch) ++ [({ h := fl.h, back := fl.back, gen := fl.gen } : Packet)]) }.grantTo k ok true)))
    ∧ (l.port = .loc → entryOk c.sealAct c.topo fl.h = false → s.canInject r .loc 1 = true → sealed)
    ∧ (∀ out, (l.port = .loc → entryOk c.sealAct c.topo fl.h = true) → nextHop c.topo r fl.h fl.back = .here out →
      exitOk c.sealAct c.topo fl.h = false → (l.port ≠ .loc ∨ out ≠ .loc) → s.canInject r .loc 1 = true → sealed)
    ∧ (∀ out b route n ip, (l.port = .loc → entryOk c.sealAct c.topo fl.h = true) →
      nextHop c.topo r fl.h fl.back = .link out b route → neighbour r out = some (n, ip) → s.linkDead n ip = true →
      (fl.h.ch = 0 ∨ fl.h.ch = 2) → s.canInject r .loc 1 = true →
      Gives (.routerForward l .ok) s (fun u => FieldAndMesh f s u ∧ (u.fld f).xdrop = satInc c.xdrop 0xFFFFFFFF ∧ answer u 6))

/-- Hop errors and credits (R361 to R365, R379, R381, R81, R85): an uncorrectable flit and those behind it on the link are discarded
and resent in their order, until the third failure, which fails the link in both directions and is recorded; a returned credit is
one more at the sender, which a flit that waits at the port takes at once; one that arrives uncorrectable stops its lane. The
statement of a replay is of a direction on which the lane's flits were sent last. In this the model rests on log entries 7 and
40, which are no rules of the spec. -/
def Obligations.HopErrors : Prop :=
  ∀ (s : State) (l : LaneId),
    let r := l.r.val
    let k := laneKey r l.port l.ch.val l.b
    let dir := portKey r l.port 0
    let f := fieldOf r
    let c := s.fld f
    let checked := l.port ≠ .loc ∧ l.port ≠ .ctl
    let fls := s.mesh.lane k
    (∀ pre, checked → c.rst = false → fls ≠ [] → s.wdn.epM.contains f = false →
      sget [] s.mesh.sent dir = pre ++ fls.map (fun x => (k, x)) →
      (sget 0 s.mesh.ueCnt k < 2 →
        Gives (.routerForward l .ue) s (fun u => FieldAndMesh f s u
          ∧ u.mesh.lane k = [] ∧ (∀ j, j ≠ k → u.mesh.lane j = s.mesh.lane j) ∧ u.mesh.used = s.mesh.used
          ∧ sget [] u.mesh.replay dir = fls.map (fun x => (k, x)) ∧ sget 0 u.mesh.ueCnt k = sget 0 s.mesh.ueCnt k + 1
          ∧ u.fld f = { c with hopRetry := satInc c.hopRetry 0xFFFFFFFF }))
      ∧ (2 ≤ sget 0 s.mesh.ueCnt k → c.linkFail.getLsbD 31 = false →
        Gives (.routerForward l .ue) s (fun u =>
          sget false u.mesh.failed dir = true
          ∧ (∀ n ip, neighbour r l.port = some (n, ip) → sget false u.mesh.failed (portKey n ip 0) = true)
          ∧ (u.fld f).linkFail = BitVec.ofNat 32 (2 ^ 31 + portIdx l.port * 2 ^ 14 + (rowOf r % 96) * 2 ^ 7 + colOf r % 96)
          ∧ bit (u.fld f).meshStat 2 = true ∧ u = { s with fields := u.fields, mesh := u.mesh })))
    ∧ (∀ again, sget [] s.mesh.replay dir = again.map (fun x => (k, x)) →
        Gives (.hopReplay l) s (fun u => u = { s with mesh := u.mesh } ∧ u.mesh.lane k = fls ++ again
          ∧ (∀ j, j ≠ k → u.mesh.lane j = s.mesh.lane j) ∧ u.mesh.used = s.mesh.used ∧ shas u.mesh.replay dir = false))
    ∧ (isLink l.port = true → 1 ≤ sget 0 s.mesh.retn k →
        Gives (.creditReturn l false) s (fun u => u = s.setMesh { s.mesh with
          retn := sput s.mesh.retn k (sget 0 s.mesh.retn k - 1), used := sput s.mesh.used k (sget 0 s.mesh.used k - 1) }))
    ∧ (checked → ¬ (l.port = .gate ∧ l.ch.val = 3) → 1 ≤ sget 0 s.mesh.retn k →
        Gives (.creditReturn l true) s (fun u => sget false u.mesh.stopped k = true
          ∧ sget 0 u.mesh.used k = sget 0 s.mesh.used k ∧ bit (u.fld f).linkFail 31 = true ∧ FieldAndMesh f s u))
    ∧ (∀ ue, isLink l.port = false → l.b = false → l.ch.val ≠ 3 → (ue = false ∨ ¬ checked) → 1 ≤ sget 0 s.mesh.retn k →
        sget false s.mesh.stopped k = false → shas s.mesh.replay dir = false →
        let q := s.mesh.queued r l.port l.ch.val
        let n := laneDepth l.port false - (sget 0 s.mesh.used k - 1)
        Gives (.creditReturn l ue) s (fun u =>
          u.mesh.lane k = fls ++ q.take n ∧ u.mesh.queued r l.port l.ch.val = q.drop n
          ∧ sget 0 u.mesh.used k = sget 0 s.mesh.used k - 1 + (q.take n).length
          ∧ (∀ j, j ≠ k → u.mesh.lane j = s.mesh.lane j)
          ∧ (l.port ≠ .loc → u = { s with mesh := u.mesh })
          ∧ (∀ npc, l.port = .loc → q.drop n = [] → (s.tile r).sendCh = some (l.ch.val, npc) → (s.tile r).afault = none →
              (s.tile r).stepping = false →
              TileAndMesh r s u ∧ (u.tile r).pc = npc ∧ (u.tile r).sendCh = none ∧ (u.tile r).state = (s.tile r).state
                ∧ (u.tile r).sregs = (s.tile r).sregs ∧ (u.tile r).mem = (s.tile r).mem)))

/-! ### Field clocks, Slack Harvesting, power -/

/-- FLD_CLK_TGT (R89, R93, R94): a legal write by a legal writer stores the code, and once the field's last sub-wave is released EFF is the
lowest of the four limits; a refused one sets FLD_CLK_STAT.WREF and changes nothing else. -/
def Sys2Proof.Claims.ClockTarget : Prop :=
  ∀ (s : State) (p : Party) (f : FieldId) (v : W32),
    let c := s.fld f.val
    let legal := p = .wardenFw ∨ p = .pressS ∨ p = .pressM
    c.rst = false →
    (legal → bits v 4 0 ≤ 16 → Gives (.fldClkTgtWrite p f v) s (fun u => OnlyField f.val s u
        ∧ (c.tracking = false → u.fld f.val = { c with clkTgt := bits v 4 0 })
        ∧ (c.tracking = true →
            (u.fld f.val).eff = min (min (Config.skuCeil s.sku) c.clkCeil) (min (bits v 4 0) c.shOp)
            ∧ u.fld f.val = { c with clkTgt := bits v 4 0, eff := (u.fld f.val).eff, limit := (u.fld f.val).limit,
                                     change := (u.fld f.val).change, vcode := (u.fld f.val).vcode }
            ∧ (c.change = none → (u.fld f.val).eff < c.op →
                (u.fld f.val).change = some { goal := (u.fld f.val).eff, rising := false } ∧ (u.fld f.val).vcode = c.vcode)
            ∧ (c.change = none → c.op < (u.fld f.val).eff →
                (u.fld f.val).change = some { goal := (u.fld f.val).eff, rising := true }
                ∧ (u.fld f.val).vcode = Config.opVcode (u.fld f.val).eff))))
    ∧ (¬ legal ∨ 16 < bits v 4 0 → Gives (.fldClkTgtWrite p f v) s (fun u => OnlyField f.val s u
        ∧ u.fld f.val = { c with clkWref := true }))

/-- OP_CHANGE_DONE (R90 to R92): a rise whose limit has not fallen below it, and every fall, makes the clock step to its goal; a rise
whose limit has fallen makes none; a fall leaves the supply at the goal's code; only the operating point changes. -/
def Sys2Proof.Claims.ClockChange : Prop :=
  ∀ (s : State) (f : FieldId) (h : OpChange),
    let c := s.fld f.val
    c.rst = false → c.change = some h →
    Gives (.opChangeDone f) s (fun u => OnlyField f.val s u
      ∧ (u.fld f.val).op = (if h.rising = true ∧ c.eff < h.goal then c.op else h.goal)
      ∧ (c.tracking = false → u.fld f.val = { c with change := none, op := (u.fld f.val).op,
                                                      vcode := if h.rising then c.vcode else Config.opVcode h.goal })
      ∧ u.fld f.val = { c with op := (u.fld f.val).op, eff := (u.fld f.val).eff, limit := (u.fld f.val).limit,
                               change := (u.fld f.val).change, vcode := (u.fld f.val).vcode })

/-- Slack Harvesting registers (R94, R100, R102): a change of MODE or WINEXP or of FLD_SH_BAR closes the window without a decision; EN 0
puts FLD_SH_OP at 16; a reserved encoding or another writer is refused. -/
def Sys2Proof.Claims.HarvestControl : Prop :=
  ∀ (s : State) (p : Party) (f : FieldId) (v : W32),
    let c := s.fld f.val
    let legal := p = .wardenFw ∨ p = .pressS ∨ p = .pressM
    let bad := 16 < bits v 11 7 ∨ bits v 6 2 < 16 ∨ 26 < bits v 6 2
    let same := bit v 1 = bit c.shCtl 1 ∧ bits v 6 2 = bits c.shCtl 6 2
    let closed := { c with shOld := c.shWin, shWin := ({} : ShWin), quiet := 0 }
    let gives := fun (i : Instr) (d : Field) => Gives i s (fun u => OnlyField f.val s u ∧ u.fld f.val = d)
    c.rst = false →
    (legal → ¬ bad →
      (same → bit v 0 = true → gives (.fldShCtlWrite p f v) { c with shCtl := v })
      ∧ (¬ same → bit v 0 = true → gives (.fldShCtlWrite p f v) { closed with shCtl := v })
      ∧ (bit v 0 = false → Gives (.fldShCtlWrite p f v) s (fun u => OnlyField f.val s u
          ∧ (u.fld f.val).shCtl = v ∧ (u.fld f.val).shOp = 16 ∧ (same → (u.fld f.val).shWin = c.shWin)
          ∧ (¬ same → (u.fld f.val).shWin = {} ∧ (u.fld f.val).shOld = c.shWin))))
    ∧ (¬ legal ∨ bad → gives (.fldShCtlWrite p f v) { c with clkWref := true })
    ∧ (legal → bits v 13 0 ≠ c.shBar → gives (.fldShBarWrite p f v) { closed with shBar := bits v 13 0 })
    ∧ (legal → bits v 13 0 = c.shBar → gives (.fldShBarWrite p f v) c)
    ∧ (¬ legal → gives (.fldShBarWrite p f v) { c with clkWref := true })

/-- SH_WINDOW_CLOSE (R96, R97, R99, R101): the cycles that the window lacks count in it, its counts are copied and start again at 0;
with EN 1 the rule of R99 sets FLD_SH_OP: an idle window to FLOOR, a window whose field released last in more than half of its
releases one step up. That the command lets those cycles pass is the model's choice, log entry 17. -/
def Sys2Proof.Claims.HarvestWindow : Prop :=
  ∀ (s : State) (f : FieldId),
    let c := s.fld f.val
    let n := (if bit c.shCtl 1 then 2 ^ 26 else 2 ^ bits c.shCtl 6 2) - c.shWin.cyc
    let a := s.activeTiles f.val
    let w := { c.shWin with cyc := c.shWin.cyc + n, act := max c.shWin.act a.1, wait := c.shWin.wait + n * a.2 }
    let en := bit c.shCtl 0
    let eff := min (min (Config.skuCeil s.sku) c.clkCeil) (min c.clkTgt c.shOp)
    c.rst = false →
    Gives (.shWindowClose f) s (fun u => OnlyField f.val s u ∧ (u.fld f.val).shOld = w ∧ (u.fld f.val).shWin = {}
      ∧ (en = false → u.fld f.val = { c with shOld := w, shWin := {}, quiet := 0 })
      ∧ (en = true → w.act = 0 → (u.fld f.val).shOp = bits c.shCtl 11 7 ∧ (u.fld f.val).quiet = 0)
      ∧ (en = true → w.act ≠ 0 → 0 < w.rel → w.rel < 2 * w.last →
          (u.fld f.val).shOp = min (eff + 1) 16 ∧ (u.fld f.val).quiet = 0)
      ∧ (en = true → w.act ≠ 0 → w.rel = 0 → bits c.shCtl 27 20 * (w.act * w.cyc) < w.wait * 256 → eff ≤ bits c.shCtl 11 7 →
          (u.fld f.val).shOp = eff ∧ (u.fld f.val).quiet = 0)
      ∧ (en = true → w.act ≠ 0 → (u.fld f.val).shOp ≤ 16 ∨ (u.fld f.val).shOp = eff ∨ (u.fld f.val).shOp = eff - 1))

/-- The governor's inputs and commands (R103, R104, R107, R108, R513): POWER keeps the report of a field, a Rim die or a Press cluster
that is not in reset; the cap is clamped to 2,500 W and the SKU cap; the alert input puts every ceiling at 0; ALERT clears
only by Warden firmware while the input is away; a refused write sets WDN_RST_STAT.REF; CEIL sets FLD_CLK_CEIL. In this the
model rests on log entries 19 and 35, which are no rules of the spec. -/
def Obligations.PowerInputs : Prop :=
  ∀ (s : State) (p : Party) (f : FieldId) (d : DieId) (e : ClusterId) (n : Nat) (v : W32),
    let c := s.fld f.val
    let w := s.wdn
    let host := (p = .hostPcie ∨ p = .hostWin) ∧ w.periphUp = true ∧ w.zeroWin = false
    let other := p = .tileSelf ∨ p = .tileSw ∨ p = .pressS ∨ p = .pressM ∨ p = .pressU
    let setW := fun (i : Instr) (x : Warden) => Gives i s (fun u => u = { s with wdn := x })
    (c.rst = false → bit w.dead f.val = false → setW (.power (.field f) n) { w with fldW := sput w.fldW f.val n })
    ∧ (c.rst = true ∨ bit w.dead f.val = true → setW (.power (.field f) n) w)
    ∧ ((s.rim d.val).rst = false → setW (.power (.rim d) n) { w with rimW := sput w.rimW d.val n })
    ∧ ((s.prs e.val).rst = false → setW (.power (.press e) n) { w with prsW := sput w.prsW e.val n })
    ∧ (p = .wardenFw ∨ host → setW (.wdnPwrCapWrite p v) { w with pwrCap := max 250 (min (bits v 15 0) (Config.skuCap s.sku)) })
    ∧ (other → setW (.wdnPwrCapWrite p v) { w with rstRef := true })
    ∧ (other ∨ host → setW (.wdnPwrStatWrite p v) { w with rstRef := true })
    ∧ (p = .wardenFw → setW (.wdnPwrStatWrite p v) { w with alert := w.alert && (w.alertPin || !bit v 0) })
    ∧ Gives .pwrAlertAssert s (fun u => u.wdn.alert = true ∧ u.wdn.alertPin = true
        ∧ (w.alert = false → ∀ g : FieldId, u.ceilOf g.val = 0)
        ∧ u = { s with wdn := { w with alert := true, alertPin := true, ceil := u.wdn.ceil }, fields := u.fields }
        ∧ ∀ g, u.fld g = { s.fld g with down := (u.fld g).down })
    ∧ (c.rst = false → bit w.dead f.val = false → styNext c.down true = some .ceil → Gives (.ceil f) s (fun u => OnlyField f.val s u
        ∧ (u.fld f.val).clkCeil = s.ceilOf f.val ∧ (u.fld f.val).down = styPop true c.down
        ∧ (c.tracking = false → u.fld f.val = { c with clkCeil := s.ceilOf f.val, down := styPop true c.down })
        ∧ (c.tracking = true → (u.fld f.val).eff
            = min (min (Config.skuCeil s.sku) (s.ceilOf f.val)) (min c.clkTgt c.shOp))))
    ∧ (c.rst = true ∨ bit w.dead f.val = true → Gives (.ceil f) s (fun u => u = s))

/-- GOV_PERIOD (R105, R107): with P above the cap no live field keeps a ceiling above its EFF, at most 16 of them go one
step lower, those of the highest power first; with P below the cap by more than the headroom at most 16 ceilings rise
by one, none above the SKU ceiling; in between, and while ALERT is 1, no ceiling and no Press cluster changes. In this
the model rests on log entry 17, which is no rule of the spec. -/
def Obligations.Governor : Prop :=
  ∀ (s : State) (n : Nat),
    let w := s.wdn
    let cap := 10 * w.pwrCap
    let live := fun (f : FieldId) => bit w.dead f.val = false
    let m := fun (f : FieldId) => min (s.ceilOf f.val) (s.fld f.val).eff
    Gives (.govPeriod n) s (fun u => u.wdn.pkgW = n ∧ u = { s with wdn := u.wdn, press := u.press, fields := u.fields }
      ∧ (∀ g, u.fld g = { s.fld g with down := (u.fld g).down })
      ∧ (w.alert = true ∨ (n ≤ cap ∧ cap * (256 - w.headroom) ≤ n * 256) → u.wdn.ceil = w.ceil ∧ u.press = s.press)
      ∧ (w.alert = false → cap < n →
          (∀ f : FieldId, live f → u.ceilOf f.val = m f ∨ u.ceilOf f.val = m f - 1)
          ∧ (∀ f g : FieldId, live f → live g → u.ceilOf f.val < m f → 0 < m g → u.ceilOf g.val = m g →
              sget 0 w.fldW g.val ≤ sget 0 w.fldW f.val)
          ∧ (idxs 64 (fun f => !bit w.dead f && decide (u.ceilOf f < min (s.ceilOf f) (s.fld f).eff))).length ≤ 16
          ∧ (∀ f : FieldId, ¬ live f → u.ceilOf f.val = s.ceilOf f.val)
          ∧ (∀ c : ClusterId, (u.prs c.val).gov = (s.prs c.val).gov
              ∨ ((∀ f : FieldId, live f → u.ceilOf f.val = 0) ∧ 8 < min (s.prs c.val).clkTgt (s.prs c.val).gov
                  ∧ (u.prs c.val).gov = min (s.prs c.val).clkTgt (s.prs c.val).gov - 1)))
      ∧ (w.alert = false → n * 256 < cap * (256 - w.headroom) → n ≤ cap →
          (∀ f : FieldId, u.ceilOf f.val = s.ceilOf f.val
            ∨ (live f ∧ (s.fld f.val).eff = s.ceilOf f.val ∧ u.ceilOf f.val = s.ceilOf f.val + 1
                ∧ u.ceilOf f.val ≤ Config.skuCeil s.sku))
          ∧ (idxs 64 (fun f => decide (s.ceilOf f < u.ceilOf f))).length ≤ 16
          ∧ ∀ c : ClusterId, (u.prs c.val).gov = min ((s.prs c.val).gov + 1) 24 ∨ (u.prs c.val).gov = (s.prs c.val).gov)
      ∧ (u.wdn.overCap = true → cap < n))

/-- Field registers (R366, R381, R586, R581): a shadow seal is stored when its source, key and rectangle are legal, and refused with WREF
otherwise; W1C bits clear, BURNUE with the record it reports; Burnish takes a legal rate. -/
def Obligations.FieldRegisters : Prop :=
  ∀ (s : State) (p : Party) (f : FieldId) (v : W32),
    let c := s.fld f.val
    let legal := p = .wardenFw ∨ p = .pressS ∨ p = .pressM
    let inside := bits v 2 0 ≤ f.val / 8 ∧ f.val / 8 ≤ bits v 8 6 ∧ bits v 5 3 ≤ f.val % 8 ∧ f.val % 8 ≤ bits v 11 9
    let gives := fun (i : Instr) (d : Field) => Gives i s (fun u => OnlyField f.val s u ∧ u.fld f.val = d)
    let refused := fun (i : Instr) => Gives i s (fun u => OnlyField f.val s u
      ∧ u.fld f.val = { c with meshStat := (u.fld f.val).meshStat } ∧ bit (u.fld f.val).meshStat 4 = true)
    c.rst = false →
    (p = .wardenFw ∨ p = .pressM → bits v 23 12 ≠ 0 → inside → gives (.fldSealShWrite p f v) { c with sealSh := v &&& 0x01FFFFFF#32 })
    ∧ (¬ (p = .wardenFw ∨ p = .pressM) ∨ bits v 23 12 = 0 ∨ ¬ inside → refused (.fldSealShWrite p f v))
    ∧ (legal → gives (.hdrvClear p f) { c with meshStat := c.meshStat &&& ~~~0x8#32 })
    ∧ (legal → bit v 4 = false → gives (.fldEvtClear p f v) { c with evt := c.evt &&& ~~~(v &&& 0x1FF#32) })
    ∧ (legal → bit v 4 = true → Gives (.fldEvtClear p f v) s (fun u => OnlyField f.val s u
        ∧ u.fld f.val = { c with evt := c.evt &&& ~~~(v &&& 0x1FF#32), burnUea := (u.fld f.val).burnUea }
        ∧ bit (u.fld f.val).burnUea 31 = false))
    ∧ (legal → 4 ≤ bits v 4 1 → gives (.fldBurnCtlWrite p f v) { c with burnCtl := v &&& 0x1F#32 })
    ∧ (legal → bits v 4 1 < 4 → refused (.fldBurnCtlWrite p f v))
    ∧ (¬ legal → refused (.hdrvClear p f) ∧ refused (.fldEvtClear p f v) ∧ refused (.fldBurnCtlWrite p f v))

/-! ### Resets and bring-up -/

/-- The wide classes (R112, R113, R115, R118, R121, R122, R134, R152): POR clears every register and counter of the
Plate and leaves only POR in WDN_RST_CAUSE; TRAY keeps Ground and keep registers; PLATE, which Warden firmware alone
starts, keeps the Warden's memory, the island and the governor; what is fused stays, and tile memory stands as it was until its
field's sequence initialises it; a class that starts under a wider one only sets its bit; TRST* resets the test access port
alone. In this the model rests on log entries 4, 5, 19 and 63, which are no rule of the spec. -/
def Obligations.WideResets : Prop :=
  ∀ (s : State) (ns : Nat),
    let w := s.wdn
    let plate := fun (u : State) => u.fuses = s.fuses ∧ u.pending = s.pending ∧ u.krovas = s.krovas ∧ u.fields = [] ∧ u.mesh = {}
      ∧ u.rims = [] ∧ (∀ c : ClusterId, u.prs c.val = {}) ∧ u.time = 0#64 ∧ u.epochQ = []
      ∧ (∀ r : TileId, (u.tile r.val).rst = true)
      ∧ ∀ k, let t := sget {} u.tiles k
          t.state = .stopped ∧ t.pc = 0#32 ∧ t.sregs = [] ∧ t.vregs = [] ∧ t.queues = [] ∧ t.blk = none ∧ t.out = []
            ∧ t.mem = (sget {} s.tiles k).mem ∧ t.full = (sget {} s.tiles k).full
    Gives .porAssert s (fun u => plate u ∧ u.wdn.cls = .por ∧ u.wdn.asserted = true ∧ u.wdn.stage = 1 ∧ u.wdn.cause = 1#32
        ∧ u.wdn.keep = [] ∧ u.wdn.ground = [] ∧ u.wdn.sram = [] ∧ u.wdn.gap = [] ∧ u.wdn.dead = 0#64
        ∧ u.wdn.pwrCap = Config.skuCap s.sku ∧ u.wdn.supply = false ∧ u.proof = {})
    ∧ (w.trayLow = false → 200 ≤ ns → w.governs .tray = true → Gives (.trayRstAssert ns) s (fun u => plate u
        ∧ u.wdn.cls = .tray ∧ u.wdn.asserted = true ∧ u.wdn.trayLow = true ∧ u.wdn.cause = setBit w.cause 1 true
        ∧ u.wdn.keep = w.keep ∧ u.wdn.ground = w.ground ∧ u.wdn.sram = [] ∧ u.wdn.pwrCap = Config.skuCap s.sku ∧ u.proof = {}))
    ∧ (ns < 100 → Gives (.trayRstAssert ns) s (fun u => u = s))
    ∧ (w.trayLow = false → 100 ≤ ns → ns < 200 → Gives (.trayRstAssert ns) s (fun u => u.freeCtr = s.freeCtr + 1
        ∧ (Config.trayPulse s.freeCtr = false → u = { s with freeCtr := s.freeCtr + 1 })))
    ∧ (w.governs .plate = true → Gives (.plateReset .wardenFw) s (fun u => plate u
        ∧ u.wdn.cls = .plate ∧ u.wdn.asserted = false ∧ u.wdn.stage = 3 ∧ u.wdn.cause = setBit w.cause 3 true
        ∧ u.wdn.keep = w.keep ∧ u.wdn.ground = w.ground ∧ u.wdn.sram = w.sram ∧ u.wdn.pwrCap = w.pwrCap
        ∧ u.wdn.coresUp = w.coresUp ∧ u.island = s.island ∧ u.proof = s.proof))
    ∧ (∀ p : Party, p ≠ .wardenFw → (p = .hostPcie ∨ p = .hostWin → w.periphUp = true ∧ w.zeroWin = false) →
        ∀ c ∈ [Instr.plateReset p, .rstGo p], Gives c s (fun u => u = { s with wdn := { w with rstRef := true } }))
    ∧ (∀ p ∈ [Party.hostPcie, .hostWin], ∀ c ∈ [Instr.plateReset p, .rstGo p],
        (w.zeroWin = true → Gives c s (fun u => u = { s with wdn := { w with cpl := w.cpl ++ [.abort] } }))
        ∧ (w.zeroWin = false → w.periphUp = false → Gives c s (fun u => u = s)))
    ∧ (w.governs .tray = false → w.asserted = false → w.trayLow = false → 200 ≤ ns → Gives (.trayRstAssert ns) s (fun u =>
        u = { s with wdn := { w with trayLow := true, cause := setBit w.cause 1 true } }))
    ∧ (w.governs .plate = false → w.asserted = false → Gives (.plateReset .wardenFw) s (fun u =>
        u = { s with wdn := { w with cause := setBit w.cause 3 true } }))
    ∧ (w.cls ≠ .por ∨ w.asserted = false → Gives .refLoss s (fun u =>
        u = { s with wdn := { w with refOk := false, rstOut := true, cause := setBit w.cause 4 true } }))
    ∧ (w.cls = .por → w.asserted = true → Gives .refLoss s (fun u => u = { s with wdn := { w with refOk := false, rstOut := true } }))
    ∧ (w.refOk = true → Gives .refRestored s (fun u => u = s))
    ∧ (w.refOk = false → w.asserted = true → w.cls = .por → Gives .refRestored s (fun u => u = { s with wdn := { w with refOk := true } }))
    ∧ (w.refOk = false → ¬ (w.asserted = true ∧ w.cls = .por) → Gives .refRestored s (fun u => plate u ∧ u.wdn.cls = .tray ∧ u.wdn.refOk = true
        ∧ u.wdn.asserted = w.trayLow ∧ u.wdn.ground = w.ground))
    ∧ Gives .tapReset s (fun u => u = { s with wdn := { w with tap := {} } })

/-- The release order (R135 to R143, Tables 4.4 and 4.5): each command of it moves the machine one stage on and changes
what that stage releases, and a reset that is asserted holds it. In this the model rests on log entry 3, which is no
rule of the spec. -/
def Obligations.ReleaseOrder : Prop :=
  ∀ (s : State),
    let w := s.wdn
    let setW := fun (i : Instr) (x : Warden) => Gives i s (fun u => u = { s with wdn := x })
    (w.cls = .por → w.asserted = true → w.zeroHold = false → w.refOk = true → s.krovas.pwr = true → w.trayLow = false →
      Gives .porRelease s (fun u => u.wdn.asserted = false ∧ u.wdn.supply = true ∧ u.wdn.stage = w.stage
        ∧ u = { s with wdn := { w with asserted := false, supply := true, colSt := u.wdn.colSt, colBad := u.wdn.colBad } }))
    ∧ (w.cls = .por → w.asserted = true → w.zeroHold = false → w.refOk = true → s.krovas.pwr = true → w.trayLow = true →
      Gives .porRelease s (fun u => u.wdn.cls = .tray ∧ u.wdn.asserted = true ∧ u.wdn.supply = true
        ∧ u.wdn.cause = setBit w.cause 1 true ∧ u.wdn.keep = w.keep ∧ u.wdn.ground = w.ground))
    ∧ (w.trayLow = true → w.cls = .tray → w.asserted = true → w.zeroHold = false →
      Gives .trayRstRelease s (fun u => u.wdn.asserted = false ∧ u.wdn.trayLow = false ∧ u.wdn.stage = w.stage))
    ∧ (w.trayLow = false → Gives .trayRstRelease s (fun u => u = s))
    ∧ (w.asserted = true → Gives .resetStageAdvance s (fun u => u = s) ∧ Gives .fieldWaveRelease s (fun u => u = s))
    ∧ (w.asserted = false → w.refOk = true →
      (w.stage = 1 → setW .resetStageAdvance { w with stage := 2, coresUp := true, bootFrom := w.bootSrc })
      ∧ (w.stage = 2 → setW .resetStageAdvance { w with stage := 3, periphUp := true, zeroWin := false, styUp := ~~~w.dead })
      ∧ (w.stage = 3 → w.clkOn = false → setW .resetStageAdvance { w with clkOn := true, reg := ~~~w.dead })
      ∧ (w.stage = 3 → w.clkOn = true → s.pllsDone = true → Gives .resetStageAdvance s (fun u =>
          u = { s with rims := u.rims, wdn := { w with stage := 5, rstOut := false } }
          ∧ ∀ d : DieId, u.rim d.val = if (s.rim d.val).pllDown then s.rim d.val else { s.rim d.val with rst := false }))
      ∧ (w.stage = 3 → w.clkOn = true → s.pllsDone = false → Gives .resetStageAdvance s (fun u => u = s))
      ∧ (w.stage = 6 → setW .resetStageAdvance { w with stage := 7 })
      ∧ (w.stage = 7 → Gives .resetStageAdvance s (fun u =>
          u = { s with press := u.press, wdn := { w with stage := 0 } }
          ∧ ∀ c : ClusterId, u.prs c.val = if (s.prs c.val).pllDown = true ∨ bit w.dead (fieldOfCluster c.val) = true
              then s.prs c.val else { s.prs c.val with rst := false })))
    ∧ (w.asserted = false → w.stage = 0 ∨ 5 ≤ w.stage → setW (.rstGo .wardenFw) { w with go := true })
    ∧ (w.asserted = true ∨ (1 ≤ w.stage ∧ w.stage ≤ 4) → setW (.rstGo .wardenFw) { w with rstRef := true })
    ∧ (w.asserted = false → w.stage = 5 → w.go = true → w.wave ≤ 7 →
      (w.wave = 0 ∨ ∀ f ∈ waveFields (w.wave - 1), bit w.dead f = true ∨ (s.fld f).seqDone = true) →
      Gives .fieldWaveRelease s (fun u =>
        u = { s with fields := u.fields, wdn := { w with wave := w.wave + 1, stage := if w.wave = 7 then 6 else 5 } }
        ∧ ∀ f : FieldId, u.fld f.val
            = (if (f.val % 8 + f.val / 8) % 8 = w.wave ∧ bit w.dead f.val = false
               then { s.fld f.val with rst := false,
                                       down := (s.fld f.val).down ++ .colmap :: (if s.topoNow = 0#32 then [] else [.topo s.topoNow]) }
               else s.fld f.val)))
    ∧ (w.stage ≠ 5 ∨ w.go = false → Gives .fieldWaveRelease s (fun u => u = s))

/-- A field's bring-up (R50, R77, R87, R93, R123, R131, R132, R141, R426): COLMAP with the steps that follow it, which initialise the
memory of the tiles of IN_USE and SPARE columns and set the crossings to full credit, STYLUS_TOPO, PLL lock and timeout with its
report, and the sub-waves; a sub-wave is one quarter of the field's rows, and the last one starts the move to the effective
operating point. In this the model rests on log entries 44, 51 and 70, which are no rule of the spec. -/
def Obligations.FieldBringUp : Prop :=
  ∀ (s : State) (f : FieldId) (t : W32),
    let w := s.wdn
    let c := s.fld f.val
    let gives := fun (i : Instr) (d : Field) => Gives i s (fun u => OnlyField f.val s u ∧ u.fld f.val = d)
    let ws := s.colState f.val
    (c.rst = false → styNext c.down false = some .colmap →
      Gives (.colmap f) s (fun u => u = { s with fields := u.fields, tiles := u.tiles, mesh := s.mesh.fullCredit f.val }
        ∧ (∀ g, g ≠ f.val → u.fld g = s.fld g)
        ∧ u.fld f.val = { c with seqDone := true, colmap := ws, colmapSh := ws, topo := topoAfter c.topo c.down,
                                 down := c.down.filter (fun q => !q.step1) }
        ∧ (∀ row p, row < 96 → p < 100 →
            sget {} u.tiles (physIdx f.val row p)
              = (if colCode ws p = 2 then sget {} s.tiles (physIdx f.val row p)
                 else { sget {} s.tiles (physIdx f.val row p) with mem := [], full := [], upset := [] }))
        ∧ ∀ k, k / 9600 ≠ f.val → sget {} u.tiles k = sget {} s.tiles k))
    ∧ (styNext c.down false = some (.topo t) → gives (.stylusTopo f) { c with topo := t, down := styPop false c.down })
    ∧ (w.clkOn = true → c.lock = false → c.src = false → bit w.reg f.val = true →
        gives (.fieldPllLock f) { c with lock := true }
        ∧ Gives (.fieldPllTimeout f) s (fun u => (u.fld f.val).src = true ∧ bit (u.fld f.val).evt 2 = true
            ∧ bit u.wdn.unav f.val = true ∧ u = { s with fields := u.fields, wdn := { w with unav := u.wdn.unav } }
            ∧ (∀ g, g ≠ f.val → u.fld g = s.fld g)
            ∧ ∀ r : TileId, fieldOf r.val = f.val → (u.tile r.val).rst = true))
    ∧ (w.asserted = false → bit w.dead f.val = false → c.rst = true → w.cmd = some (.field f.val) → StyCmd.rstF ∉ c.down →
        gives (.tileSubwaveRelease f) { c with rst := false, topo := s.topoNow })
    ∧ (w.asserted = false → bit w.dead f.val = false → c.rst = false → c.seqDone = true → c.src = false →
        (c.subwave < 3 → gives (.tileSubwaveRelease f) { c with subwave := c.subwave + 1 })
        ∧ (c.subwave = 3 → Gives (.tileSubwaveRelease f) s (fun u => OnlyField f.val s u
            ∧ (u.fld f.val).subwave = 4 ∧ (u.fld f.val).tracking = true ∧ (u.fld f.val).clkCeil = s.ceilOf f.val
            ∧ (u.fld f.val).eff = min (min (Config.skuCeil s.sku) (s.ceilOf f.val)) (min c.clkTgt c.shOp)))
        ∧ (c.subwave ≤ 3 → Gives (.tileSubwaveRelease f) s (fun u => ∀ r : TileId, fieldOf r.val = f.val →
            rowOf r.val % 96 / 24 = c.subwave → c.tileRst = [] → (u.tile r.val).rst = false)))
    ∧ (w.clkOn = true → ∀ d : DieId, (s.rim d.val).pllDown = false →
        Gives (.domainPllLock (.rim d)) s (fun u => OnlyRim d.val s u ∧ u.rim d.val = { s.rim d.val with pll := true }))
    ∧ (w.clkOn = true → ∀ d : DieId, (s.rim d.val).pll = false → (s.rim d.val).pllDown = false →
        Gives (.domainPllTimeout (.rim d)) s (fun u => OnlyRim d.val { s with wdn := { w with downRep := w.downRep ++ [.rim d] } } u
          ∧ u.rim d.val = { s.rim d.val with pllDown := true }))
    ∧ (w.clkOn = true → ∀ k : ClusterId, (s.prs k.val).pllDown = false →
        Gives (.domainPllLock (.press k)) s (fun u => OnlyPress k.val s u ∧ u.prs k.val = { s.prs k.val with pll := true }))
    ∧ (w.clkOn = true → ∀ k : ClusterId, (s.prs k.val).pll = false → (s.prs k.val).pllDown = false →
        Gives (.domainPllTimeout (.press k)) s (fun u =>
          OnlyPress k.val { s with wdn := { w with downRep := w.downRep ++ [.press k] } } u
          ∧ u.prs k.val = { s.prs k.val with pllDown := true }))

/-- FIELD and TILE resets (R116, R117, R124, R144 to R147): an accepted request is the one command in progress and goes
down the field's link; RST_F clears the field's tiles, whose memory the sequence initialises after it, and its controller, and no
tile elsewhere; RST_T clears one tile's core state and keeps its memory, full/empty bits and check status. In this the model
rests on log entries 19, 36, 42, 43 and 44, which are no rule of the spec. -/
def Obligations.FieldAndTileResets : Prop :=
  ∀ (s : State) (p : Party) (v : W32) (f : FieldId),
    let w := s.wdn
    let c := s.fld f.val
    let legal := p = .wardenFw ∨ p = .pressM
    let g := bits v 5 0
    let y := bits v 19 10
    let x := bits v 9 0
    let refused := fun (i : Instr) => Gives i s (fun u => u = { s with wdn := { w with rstRef := true } })
    (legal → w.cmd = none → w.asserted = false → w.stage = 0 →
      (bit w.dead g = false → Gives (.fieldReset p v) s (fun u => OnlyField g { s with wdn := { w with cmd := some (.field g) } } u
        ∧ u.fld g = { s.fld g with down := (s.fld g).down ++ [.rstF] }))
      ∧ (y < 768 → x < 768 → bit w.dead (fieldAt y x) = false → Gives (.tileReset p v) s (fun u =>
          OnlyField (fieldAt y x) { s with wdn := { w with cmd := some (.tile (routerOf y x)) } } u
          ∧ u.fld (fieldAt y x) = { s.fld (fieldAt y x) with down := (s.fld (fieldAt y x)).down ++ [.rstT (y % 96) (x % 96)] })))
    ∧ (legal → w.cmd ≠ none ∨ w.asserted = true ∨ w.stage ≠ 0 → refused (.fieldReset p v) ∧ refused (.tileReset p v))
    ∧ (legal → bit w.dead g = true → refused (.fieldReset p v))
    ∧ (legal → 768 ≤ y ∨ 768 ≤ x → refused (.tileReset p v))
    ∧ (∀ q : Party, q ≠ .wardenFw → q ≠ .pressM → (q = .hostPcie ∨ q = .hostWin → w.periphUp = true ∧ w.zeroWin = false) →
        refused (.fieldReset q v) ∧ refused (.tileReset q v))
    ∧ (styNext c.down true = some .rstF → Gives (.rstF f) s (fun u =>
        (u.fld f.val).rst = true ∧ (u.fld f.val).down = styPop true c.down ∧ (u.fld f.val).barNode = [] ∧ (u.fld f.val).fltLog = []
        ∧ (u.fld f.val).sealAct = c.sealAct ∧ (u.fld f.val).barRoot = c.barRoot ∧ (u.fld f.val).colmap = c.colmap
        ∧ (u.fld f.val).clkTgt = 13 ∧ (u.fld f.val).clkCeil = c.clkCeil
        ∧ (∀ r : TileId, fieldOf r.val = f.val → physCol c.colmap (colOf r.val % 96) < 100 →
            (u.tile r.val).mem = (s.tile r.val).mem ∧ (u.tile r.val).sregs = [] ∧ (u.tile r.val).queues = []
            ∧ (u.tile r.val).pc = 0#32 ∧ (u.tile r.val).state = .stopped ∧ (u.tile r.val).rst = true)
        ∧ (∀ k, k / 9600 ≠ f.val → sget {} u.tiles k = sget {} s.tiles k)
        ∧ u.fuses = s.fuses ∧ u.rims = s.rims ∧ u.krovas = s.krovas ∧ u.island = s.island ∧ u.proof = s.proof ∧ u.pending = s.pending))
    ∧ (∀ row col : Nat, row < 96 → col < 96 → styNext c.down true = some (.rstT row col) →
        let r := routerOf (96 * (f.val / 8) + row) (96 * (f.val % 8) + col)
        Gives (.rstT f) s (fun u => (u.fld f.val).down = styPop true c.down
          ∧ (u.tile r).mem = (s.tile r).mem ∧ (u.tile r).full = (s.tile r).full ∧ (u.tile r).upset = (s.tile r).upset
          ∧ (u.tile r).pc = 0#32 ∧ (u.tile r).sregs = [] ∧ (u.tile r).vregs = [] ∧ (u.tile r).queues = []
          ∧ (u.tile r).state = .stopped ∧ (u.tile r).waiters = [] ∧ (u.tile r).blk = none
          ∧ (w.cmd = some (.tile r) → u.wdn.cmd = none)
          ∧ (∀ k, k ≠ s.phys r → sget {} u.tiles k = sget {} s.tiles k)))
    ∧ (w.cmd = some (.field f.val) → c.rst = false → c.seqDone = true → c.src = true ∨ c.subwave = 4 →
        Gives (.fieldResetDone f) s (fun u => u.wdn = { w with cmd := none } ∧ u = { s with fields := u.fields, wdn := u.wdn }
          ∧ ∀ h, h ≠ f.val → u.fld h = s.fld h))

/-- Dead and unavailable fields (R153 to R155, Table 4.10): each timeout declares its field dead, which marks it unavailable, puts it in
reset and ends a command in progress there with CMDFAIL; firmware alone sets the bits, and no bit clears. -/
def Sys2Proof.Claims.DeadFields : Prop :=
  ∀ (s : State) (f : FieldId) (v : W32) (hi : Bool),
    let w := s.wdn
    let c := s.fld f.val
    let died := fun (u : State) => bit u.wdn.dead f.val = true ∧ bit u.wdn.unav f.val = true ∧ (u.fld f.val).rst = true
      ∧ (u.fld f.val).down = [] ∧ bit u.wdn.styUp f.val = false
      ∧ (∀ g : FieldId, g ≠ f → bit u.wdn.dead g.val = bit w.dead g.val)
      ∧ bit u.wdn.reg f.val = false ∧ (∀ r : Nat, w.cmd = some (.field f.val) ∨ (w.cmd = some (.tile r) ∧ fieldOf r = f.val) →
          u.wdn.cmd = none ∧ u.wdn.cmdFail = true) ∧ u.fuses = s.fuses
    (bit w.dead f.val = false →
      (bit w.reg f.val = true → Gives (.regulatorTimeout f) s died)
      ∧ (StyCmd.rstF ∈ c.down ∨ (∃ row col, StyCmd.rstT row col ∈ c.down) → Gives (.stylusAckTimeout f) s died)
      ∧ (c.rst = false → c.seqDone = false → Gives (.fieldInitTimeout f) s died)
      ∧ (f.val / 32 = (if hi then 1 else 0) → v = BitVec.ofNat 32 (2 ^ (f.val % 32)) → Gives (.wdnFldDeadWrite .wardenFw hi v) s died))
    ∧ Gives (.wdnFldUnavWrite .wardenFw hi v) s (fun u => u = { s with wdn := { w with unav := u.wdn.unav } }
        ∧ ∀ g : FieldId, bit u.wdn.unav g.val = (bit w.unav g.val || (decide (g.val / 32 = if hi then 1 else 0) && bit v (g.val % 32))))
    ∧ (∀ p : Party, p ≠ .wardenFw → (p = .hostPcie ∨ p = .hostWin → w.periphUp = true ∧ w.zeroWin = false) →
        ∀ i ∈ [Instr.wdnFldDeadWrite p hi v, .wdnFldUnavWrite p hi v],
        Gives i s (fun u => u = { s with wdn := { w with rstRef := true } }))
    ∧ (bit w.reg f.val = false → Gives (.regulatorTimeout f) s (fun u => u = s))

/-- Reset registers (R126, R127, R150, R156): a gap below its minimum is refused; keep registers 0 to 3 take 64-bit writes of Warden firmware
alone, 4 to 15 and Ground those of Press software at Machine level and of host software too; cause bits clear by writing 1. -/
def Sys2Proof.Claims.ResetRegisters : Prop :=
  ∀ (s : State) (p : Party) (n : Fin 9) (k : Fin 16) (o : Nat) (v : W32) (d : W64),
    let w := s.wdn
    let host := (p = .hostPcie ∨ p = .hostWin) ∧ w.periphUp = true ∧ w.zeroWin = false
    let tile := p = .tileSelf ∨ p = .tileSw
    let setW := fun (i : Instr) (x : Warden) => Gives i s (fun u => u = { s with wdn := x })
    (p = .wardenFw ∨ host → gapMin n.val ≤ bits v 19 0 → setW (.wdnRstGapWrite p n v) { w with gap := sput w.gap n.val (bits v 19 0) })
    ∧ (p = .wardenFw ∨ host → bits v 19 0 < gapMin n.val → setW (.wdnRstGapWrite p n v) { w with rstRef := true })
    ∧ (p = .wardenFw ∨ (4 ≤ k.val ∧ (p = .pressM ∨ host)) →
        setW (.wdnKeepWrite p (0x400 + 8 * k.val) d) { w with keep := sput w.keep k.val d })
    ∧ (k.val < 4 → p = .pressM ∨ p = .pressS ∨ p = .pressU ∨ host → setW (.wdnKeepWrite p (0x400 + 8 * k.val) d) { w with rstRef := true })
    ∧ (p = .wardenFw ∨ p = .pressM ∨ host → o % 8 = 0 → o < 0x10000 → Gives (.wdnKeepWrite p (0x200000 + o) d) s (fun u =>
        mread64 u.wdn.ground o = d ∧ (∀ a, a < o ∨ o + 8 ≤ a → mget u.wdn.ground a = mget w.ground a)
        ∧ u = { s with wdn := { w with ground := u.wdn.ground, bad := u.wdn.bad } }))
    ∧ (tile ∨ p = .pressS ∨ p = .pressU → ∀ i ∈ [Instr.wdnRstGapWrite p n v, .wdnKeepWrite p (0x400 + 8 * k.val) d,
          .wdnKeepWrite p (0x200000 + o % 0x10000) d, .wdnRstCauseWrite p v], setW i { w with rstRef := true })
    ∧ (p = .wardenFw ∨ p = .pressM ∨ host → setW (.wdnRstCauseWrite p v) { w with cause := w.cause &&& ~~~(v &&& 0x1F#32) })
    ∧ (p = .hostPcie ∨ p = .hostWin → w.zeroWin = true → ∀ i ∈ [Instr.wdnRstGapWrite p n v, .wdnKeepWrite p (0x400 + 8 * k.val) d,
          .wdnRstCauseWrite p v], setW i { w with cpl := w.cpl ++ [.abort] })

/-! ### Rim dies, ports and links -/

/-- RIM_DATA (R431, R433, R434, R437, R439, R454, R507), for frames without encryption that carry no acknowledgement, at an enabled
port whose die holds no earlier packet or answer: a good frame in sequence is acknowledged and its packet goes on, into the mesh
by the bridge that faces its destination or to the Warden, and its credits are freed then; one that finds no credit there
stays in the receive buffer, and one whose key the map lacks is counted; a bad frame is counted and nothing else happens; an old
one is acknowledged again; one ahead gets one NAK for the number that is missing, repeated after 1.5 µs. In this the model rests
on log entries 46, 52 and 64, which are no rules of the spec. -/
def Obligations.RimReceive : Prop :=
  ∀ (s : State) (d : DieId) (n : PortId) (b : Bytes) (g : DataFrame) (q : Packet),
    let x := s.rim d.val
    let p := x.port n.val
    let k := crKey g.ch g.rl
    let took := { p with tx := p.tx ++ [ctlFrame 0x8 p.exp 0 0 0], exp := (p.exp + 1) % 65536, got := true, nakFor := none }
    let got := { took with rxFree := sput p.rxFree k ((sget 0 p.rxFree k + frameUnits g.text.length) % 65536) }
    let port := fun (i : Instr) (v : RimPort) => Gives i s (fun u => OnlyRim d.val s u ∧ u.rim d.val = x.setPort n.val v)
    let r := bridgeRouter d.val (bridgeNo d.val q.h.dy q.h.dx)
    let key := (sget 0#32 x.keymap (q.h.pkey / 32)).getLsbD (q.h.pkey % 32)
    let recent := ∃ t, p.nakFor = some (p.exp, t) ∧ s.time.toNat < t + 150
    x.rst = false → bit p.pcfg 0 = true → p.st = 2 →
    (parseData b = none → port (.rimData d n b) { p with crcErr := satInc p.crcErr 65535 })
    ∧ (parseData b = some g → g.enc ≠ p.enc ∨ (g.bulk = true ∧ (p.host = false ∨ g.ch ≠ 0)) →
      port (.rimData d n b) { p with crcErr := satInc p.crcErr 65535 })
    ∧ (parseData b = some g → g.enc = false → p.enc = false → g.ack = none → g.bulk = false →
      (g.seq = p.exp → g.packets g.text = [q] → p.host = false → isOwn x.topo q.h.dplate = true → x.rx = [] → x.ans = [] →
        q.h.ch = g.ch →
        (q.h.op = 0x1D → key = true → x.mgmt = [] →
          Gives (.rimData d n b) s (fun u => OnlyRim d.val s u ∧ u.rim d.val = { x.setPort n.val got with mgmt := [q] }))
        ∧ (q.h.op ≠ 0x1D → key = true → s.entryShut r .bridge = false → s.canInject r .bridge q.h.ch = true →
          Gives (.rimData d n b) s (fun u => u = { s with rims := u.rims, mesh := u.mesh } ∧ u.rim d.val = x.setPort n.val got
            ∧ (∀ e, e ≠ d.val → u.rim e = s.rim e)
            ∧ ∃ z : Packet, z.h = { q.h with route := z.h.route } ∧ z.ws = q.ws ∧ Sent r .bridge z s.mesh u.mesh))
        ∧ (q.h.op ≠ 0x1D → key = true → s.canInject r .bridge q.h.ch = false →
          Gives (.rimData d n b) s (fun u => OnlyRim d.val s u ∧ u.rim d.val
            = { x.setPort n.val took with rx := [⟨n.val, g.rl, frameUnits g.text.length, q⟩] }))
        ∧ (key = false → q.h.ch = 1 ∨ q.h.ch = 3 →
          Gives (.rimData d n b) s (fun u => OnlyRim d.val s u ∧ u.rim d.val
            = { x.setPort n.val got with keydrop := satInc x.keydrop 0xFFFFFFFF, stat := setBit x.stat 2 true })))
      ∧ (g.seq ≠ p.exp → 32768 ≤ (g.seq + 65536 - p.exp) % 65536 →
        port (.rimData d n b) { p with tx := p.tx ++ [ctlFrame 0x8 ((p.exp + 65535) % 65536) 0 0 0] })
      ∧ (g.seq ≠ p.exp → (g.seq + 65536 - p.exp) % 65536 < 32768 → ¬ recent →
        port (.rimData d n b) { p with tx := p.tx ++ [ctlFrame 0x9 p.exp 0 0 0], nakFor := some (p.exp, s.time.toNat) })
      ∧ (g.seq ≠ p.exp → (g.seq + 65536 - p.exp) % 65536 < 32768 → recent → port (.rimData d n b) p))

/-- Acknowledgement, replay and credits (R432, R435 to R437), with no packet waiting to be framed: an acknowledgement
takes the frames it covers out of the replay buffer; a NAK and the replay timer resend frames in order and unchanged,
and after eight replays the port retrains; CREDIT frames carry cumulative counts; a control frame that fails its check
is counted and nothing else happens. In this the model rests on log entry 17, which is no rule of the spec. -/
def Obligations.RimReplay : Prop :=
  ∀ (s : State) (d : DieId) (n : PortId) (b : Bytes) (a : Nat),
    let x := s.rim d.val
    let p := x.port n.val
    let port := fun (i : Instr) (v : RimPort) => Gives i s (fun u => OnlyRim d.val s u ∧ u.rim d.val = x.setPort n.val v)
    let resent : List RepEnt → RimPort := fun l => { p with tx := p.tx ++ l.map (·.frame), count := p.count + 1,
                                                                replays := satInc p.replays 65535 }
    x.rst = false → bit p.pcfg 0 = true → p.st = 2 →
    (parseAck b = some a → x.moved = [] → p.q = [] →
      ((∃ e ∈ p.rep, covers a e.seq = true) → port (.rimAck d n b) { p with rep := p.rep.filter (fun e => !covers a e.seq), count := 0 })
      ∧ ((∀ e ∈ p.rep, covers a e.seq = false) → port (.rimAck d n b) p))
    ∧ (parseNak b = some a → ∀ l, l = p.rep.filter (fun f => !covers ((a + 65535) % 65536) f.seq) →
      (l ≠ [] → port (.rimNak d n b) (resent l)) ∧ (l = [] → port (.rimNak d n b) p))
    ∧ (∀ counts rl, parseCredit b = some (counts, rl) → p.q = [] → Gives (.rimCredit d n b) s (fun u => OnlyRim d.val s u
        ∧ u.rim d.val = x.setPort n.val { p with txFree := ((u.rim d.val).port n.val).txFree }
        ∧ (∀ ch, ch < 4 → sget 0 ((u.rim d.val).port n.val).txFree (2 * ch + b2n rl) = counts.getD ch 0)
        ∧ ∀ ch, ch < 4 → sget 0 ((u.rim d.val).port n.val).txFree (2 * ch + b2n (!rl)) = sget 0 p.txFree (2 * ch + b2n (!rl))))
    ∧ (x.rx = [] → x.ans = [] → Gives (.creditSend d n) s (fun u => OnlyRim d.val s u
        ∧ u.rim d.val = x.setPort n.val { p with tx := ((u.rim d.val).port n.val).tx, rxTold := ((u.rim d.val).port n.val).rxTold }
        ∧ (∀ ch, ch < 4 → ∀ rl : Bool, sget 0 ((u.rim d.val).port n.val).rxTold (2 * ch + b2n rl) = sget 0 p.rxFree (2 * ch + b2n rl))
        ∧ ((∀ ch, ch < 4 → ∀ rl : Bool, sget 0 p.rxTold (2 * ch + b2n rl) = sget 0 p.rxFree (2 * ch + b2n rl)) →
            ((u.rim d.val).port n.val).tx = p.tx)))
    ∧ (p.rep ≠ [] → p.count < 8 → port (.replayTimer d n) (resent p.rep))
    ∧ (p.rep = [] → Gives (.replayTimer d n) s (fun u => u = s))
    ∧ (p.rep ≠ [] → 8 ≤ p.count → Gives (.replayTimer d n) s (fun u => OnlyRim d.val s u
        ∧ u.rim d.val = x.setPort n.val { p with st := 1, train := .keep, pretr := satInc p.pretr 0xFFFFFFFF,
                                                 tx := ((u.rim d.val).port n.val).tx }))
    ∧ (parseAck b = none → port (.rimAck d n b) { p with crcErr := satInc p.crcErr 65535 })
    ∧ (parseNak b = none → port (.rimNak d n b) { p with crcErr := satInc p.crcErr 65535 })
    ∧ (parseCredit b = none → port (.rimCredit d n b) { p with crcErr := satInc p.crcErr 65535 })
    ∧ (parseLinkId b = none → port (.linkId d n b) { p with crcErr := satInc p.crcErr 65535 })
    ∧ (parseFoReq b = none → port (.failoverReq d n b) { p with crcErr := satInc p.crcErr 65535 })
    ∧ (parseFoRsp b = none → port (.failoverRsp d n b) { p with crcErr := satInc p.crcErr 65535 })

/-- Link training (R436, R451): a LINK_ID that fits brings a port UP with the peer it names; one that does not fit sends it DOWN with reason
3, and so does a retrain that takes too long, with reason 2; the Warden is told. -/
def Sys2Proof.Claims.RimTraining : Prop :=
  ∀ (s : State) (d : DieId) (n : PortId) (b : Bytes) (i j c t : Nat),
    let x := s.rim d.val
    let p := x.port n.val
    let down := fun (u : State) (why : Nat) => ((u.rim d.val).port n.val).st = 3 ∧ ((u.rim d.val).port n.val).reason = why
      ∧ bit (u.rim d.val).stat 3 = true ∧ bit u.wdn.evtRim d.val = true ∧ u.fuses = s.fuses
    x.rst = false → bit p.pcfg 0 = true → p.st = 1 →
    (parseLinkId b = some (i, j, c, t) →
      (x.mismatch d.val n.val i j t = true → Gives (.linkId d n b) s (fun u => down u 3))
      ∧ (x.mismatch d.val n.val i j t = false → p.train = .fresh ∨ p.peer = some (i % 4096, j % 16) →
          Gives (.linkId d n b) s (fun u => ((u.rim d.val).port n.val).st = 2 ∧ ((u.rim d.val).port n.val).reason = 0
            ∧ ((u.rim d.val).port n.val).peer = some (i % 4096, j % 16) ∧ ((u.rim d.val).port n.val).pcfg = p.pcfg))
      ∧ (x.mismatch d.val n.val i j t = false → p.train = .keep → p.peer ≠ some (i % 4096, j % 16) →
          Gives (.linkId d n b) s (fun u => down u 1)))
    ∧ (x.loss ≠ .noSignal → Gives (.retrainTimeout d n) s (fun u => down u 2))
    ∧ (x.loss = .noSignal → Gives (.retrainTimeout d n) s (fun u => u = s))
    ∧ (p.host = false → i = i / 1024 % 4 * 1024 → x.mismatch d.val n.val i j t = (decide (j / 16 % 2 = 1)
        || decide (j / 32 % 2 ≠ b2n p.enc) || decide (t ≠ bits x.topo 20 16 + bits x.topo 25 21 * 32)
        || decide (i / 1024 % 4 ≠ (d.val + 2) % 4)))

/-- Failover (R443 to R446): a request is answered on its port with the last number accepted from the port it names; the answer to this
die's own request ends the failover, frames up to LASTRX being done with; the request is repeated on the lowest UP port. -/
def Sys2Proof.Claims.RimFailover : Prop :=
  ∀ (s : State) (d : DieId) (n : PortId) (b : Bytes) (m : Nat) (e : Failover),
    let x := s.rim d.val
    let p := x.port n.val
    x.rst = false → bit p.pcfg 0 = true →
    (∀ k, p.st = 2 → parseFoReq b = some m → k < 16 → ((x.port k).peer.map (·.2)) = some m →
      (∀ j, j < k → ((x.port j).peer.map (·.2)) ≠ some m) →
      Gives (.failoverReq d n b) s (fun u => OnlyRim d.val s u ∧ u.rim d.val = x.setPort n.val { p with
        tx := p.tx ++ [ctlFrame 0xD m (if (x.port k).got then ((x.port k).exp + 65535) % 65536 else 0) (b2n (x.port k).got) 0] }))
    ∧ (∀ a, p.st = 2 → parseFoRsp b = some (m, some a) → x.fo = [e] → e.run = true → e.port = m → x.held = [] →
      (∀ f ∈ e.frames, covers a f.seq = true) →
      Gives (.failoverRsp d n b) s (fun u => OnlyRim d.val s u
        ∧ u.rim d.val = { x with fo := [], moved := x.moved.filter (fun z => z.2 != m) }))
    ∧ (∀ a, p.st = 2 → parseFoRsp b = some (m, a) → x.fo = [e] → e.run = false ∨ e.port ≠ m →
      Gives (.failoverRsp d n b) s (fun u => u = s))
    ∧ (∀ k more, x.fo = [e] → e.run = true → x.upPorts = k :: more →
      Gives (.failoverReqRepeat d) s (fun u => OnlyRim d.val s u ∧ u.rim d.val = x.setPort k
        { x.port k with tx := (x.port k).tx ++ [ctlFrame 0xC e.port 0 0 0] }))
    ∧ (x.fo = [] → Gives (.failoverReqRepeat d) s (fun u => u = s))

/-- Signal and neighbour loss (R449, R450): when every UP port of a die has lost its signal, its fabric ports train from SEQ 0 and the loss
is reported; the signal's return lets them train; a neighbour that does not come back sets RINGBRK. -/
def Sys2Proof.Claims.RimSignal : Prop :=
  ∀ (s : State) (d : DieId) (n : PortId),
    let x := s.rim d.val
    x.rst = false →
    (x.loss ≠ .ok ∨ x.upPorts = [] ∨ (∃ k ∈ x.upPorts, k ≠ n.val ∧ (x.port k).sig = true) →
      Gives (.signalLoss d n) s (fun u => OnlyRim d.val s u ∧ u.rim d.val = x.setPort n.val { x.port n.val with sig := false }))
    ∧ (x.loss = .ok → x.upPorts ≠ [] → (∀ k ∈ x.upPorts, k = n.val ∨ (x.port k).sig = false) →
      Gives (.signalLoss d n) s (fun u => (u.rim d.val).loss = .noSignal ∧ bit (u.rim d.val).stat 4 = true
        ∧ bit u.wdn.evtRim d.val = true ∧ u.fuses = s.fuses
        ∧ ∀ k, k < 16 → (x.port k).fabric = true → (x.port k).st ≠ 3 →
            ((u.rim d.val).port k).st = 1 ∧ ((u.rim d.val).port k).seq = 0 ∧ ((u.rim d.val).port k).exp = 0))
    ∧ (Gives (.signalReturn d) s (fun u => OnlyRim d.val s u
        ∧ (u.rim d.val).loss = (if x.loss = .noSignal then .training else x.loss)
        ∧ ∀ k, k < 16 → ((u.rim d.val).port k).sig = true ∧ ((u.rim d.val).port k).st = (x.port k).st
            ∧ ((u.rim d.val).port k).pretr = (if x.loss = .noSignal ∧ (x.port k).fabric = true ∧ (x.port k).st = 1
                then satInc (x.port k).pretr 0xFFFFFFFF else (x.port k).pretr)))
    ∧ (x.loss = .noSignal ∨ x.loss = .training → Gives (.neighbourWaitTimeout d) s (fun u =>
        (u.rim d.val).loss = .broken ∧ bit (u.rim d.val).stat 5 = true ∧ bit u.wdn.evtRim d.val = true ∧ u.fuses = s.fuses))
    ∧ (x.loss = .ok ∨ x.loss = .broken → Gives (.neighbourWaitTimeout d) s (fun u => u = s))

/-- RIM_BRIDGE_PACKET (R438, R440, R442, R454): a packet for another Plate whose key the die allows goes to the port of
its bucket, and is framed there as credit allows; a die without a Plate id refuses it with status 6 and counts it; a
key outside the key map is refused and counted; a packet waits while an answer of the die waits at its bridge. In this the model
rests on log entry 64, which is no rule of the spec. -/
def Obligations.RimBridge : Prop :=
  ∀ (s : State) (d : DieId) (k : Fin 48) (ch : Chan) (q : Packet) (nbr : Nat),
    let x := s.rim d.val
    let r := bridgeRouter d.val k.val
    let s1 := s.setMesh (s.mesh.popped r .bridge ch.val)
    let key := (sget 0#32 x.keymap (q.h.pkey / 32)).getLsbD (q.h.pkey % 32)
    let n := x.bktPort (bucketOf q.h)
    x.rst = false → s.front r .bridge ch.val = some q → bridgeDie (s.fld (fieldOf r)).topo q.h = d.val →
    validOp q.h.op = true → q.h.dplate < 0x400 → isOwn x.topo q.h.dplate = false →
    (x.ans.any (·.1 == r) = true → Gives (.rimBridgePacket d k ch) s (fun u =>
      sget [] u.mesh.inbox (portKey r .bridge ch.val) = sget [] s.mesh.inbox (portKey r .bridge ch.val) ∧ u.tiles = s.tiles
        ∧ u.fields = s.fields ∧ ∀ e, e ≠ d.val → u.rim e = s.rim e))
    ∧ (x.ans.any (·.1 == r) = false →
    (bit x.topo 31 = true → key = true → onTorus x.topo q.h.dplate = true → x.loss = .ok → x.nbr = some nbr →
      absent x.topo d.val nbr q.h.dplate = false → x.blocked (bucketOf q.h) n = false →
      Gives (.rimBridgePacket d k ch) s (fun u => OnlyRim d.val s1 u ∧ u.rim d.val
        = x.modPort n (fun p => RimPort.drain { p with q := p.q ++ [{ p := q, rl := wraps x.topo d.val nbr }] })))
    ∧ (bit x.topo 31 = true → key = true → onTorus x.topo q.h.dplate = true → x.loss = .ok → x.nbr = some nbr →
      absent x.topo d.val nbr q.h.dplate = false → x.blocked (bucketOf q.h) n = true →
      Gives (.rimBridgePacket d k ch) s (fun u => OnlyRim d.val s1 u
        ∧ u.rim d.val = { x with held := x.held ++ [{ p := q, rl := wraps x.topo d.val nbr }] }))
    ∧ (bit x.topo 31 = true → key = false → q.h.ch = 1 ∨ q.h.ch = 3 → Gives (.rimBridgePacket d k ch) s (fun u => OnlyRim d.val s1 u
        ∧ u.rim d.val = { x with keydrop := satInc x.keydrop 0xFFFFFFFF, stat := setBit x.stat 2 true }))
    ∧ (bit x.topo 31 = true → key = false → q.h.ch = 0 → isOwn x.topo q.h.splate = true → s.entryShut r .bridge = false →
      s.canInject r .bridge 1 = true →
      Gives (.rimBridgePacket d k ch) s (fun u => (u.rim d.val).keydrop = satInc x.keydrop 0xFFFFFFFF
        ∧ ∃ z : Packet, z.h.status = 5 ∧ z.h.ch = 1 ∧ z.h.dx = q.h.sx ∧ z.h.dy = q.h.sy ∧ z.h.tag = q.h.tag
          ∧ Sent r .bridge z s1.mesh u.mesh))
    ∧ (bit x.topo 31 = true → key = false → q.h.ch = 0 → isOwn x.topo q.h.splate = true → s.canInject r .bridge 1 = false →
      Gives (.rimBridgePacket d k ch) s (fun u => OnlyRim d.val s1 u ∧ ∃ z : Packet, z.h.status = 5 ∧ z.h.ch = 1
        ∧ z.h.dx = q.h.sx ∧ z.h.dy = q.h.sy ∧ z.h.tag = q.h.tag
        ∧ u.rim d.val = { x with keydrop := satInc x.keydrop 0xFFFFFFFF, stat := setBit x.stat 2 true, ans := x.ans ++ [(r, z)] }))
    ∧ (bit x.topo 31 = false → q.h.ch = 1 ∨ q.h.ch = 3 → Gives (.rimBridgePacket d k ch) s (fun u => OnlyRim d.val s1 u
        ∧ u.rim d.val = { x with undeliv := satInc x.undeliv 0xFFFFFFFF, stat := setBit x.stat 0 true })))

/-- Rim registers (R425, R426, R447, R450, R460, R469, R470, R565): the topology is written once and reaches every live field controller with the write; a
port starts by EN, and while it is on, a write may only turn it off or switch its key slot; what breaks a rule, or comes from
anyone but Warden firmware, is refused with RIMx_STAT.WREF; counters clear when read. -/
def Obligations.RimRegisters : Prop :=
  ∀ (s : State) (p : Party) (d : DieId) (n : PortId) (v : W32),
    let x := s.rim d.val
    let c := x.port n.val
    let refused := fun (i : Instr) => Gives i s (fun u => OnlyRim d.val s u ∧ u.rim d.val = { x with stat := setBit x.stat 6 true })
    let reads := fun (i : Instr) (w : W32) (y : Rim) => Gives i s (fun u => u = { s with rims := u.rims, rdata := w.setWidth 64 }
      ∧ u.rim d.val = y ∧ ∀ e, e ≠ d.val → u.rim e = s.rim e)
    let w := setBit v 0 true &&& 0xFFFFFC0F#32
    x.rst = false →
    (p ≠ .wardenFw → ∀ i ∈ [Instr.rimxTopoWrite p d v, .portEnable p d n v, .portDisable p d n v, .kselSwitch p d n v], refused i)
    ∧ (bit x.topo 31 = true → refused (.rimxTopoWrite p d v))
    ∧ (bit x.topo 31 = false → onTorus v (bits v 9 0) = true → d.val ≠ 0 → Gives (.rimxTopoWrite .wardenFw d v) s (fun u =>
        OnlyRim d.val s u ∧ u.rim d.val = { x with topo := v &&& 0x83FF03FF#32 }))
    ∧ (bit x.topo 31 = false → onTorus v (bits v 9 0) = true → d.val = 0 →
        Gives (.rimxTopoWrite .wardenFw d v) s (fun u => (u.rim 0).topo = v &&& 0x83FF03FF#32
          ∧ (∀ e, e ≠ 0 → u.rim e = s.rim e) ∧ u = { s with rims := u.rims, fields := u.fields }
          ∧ ∀ f : FieldId, u.fld f.val = if bit s.wdn.dead f.val = true ∨ (s.fld f.val).rst = true then s.fld f.val
              else { s.fld f.val with topo := v &&& 0x83FF03FF#32 }))
    ∧ (bit c.pcfg 0 = false → x.pcfgBad d.val n.val w = false → x.loss ≠ .broken →
        Gives (.portEnable .wardenFw d n v) s (fun u => OnlyRim d.val s u
          ∧ u.rim d.val = { x.setPort n.val { ({ c with pcfg := w } : RimPort).fresh with
              st := 1, reason := 0, train := .fresh, tx := ((u.rim d.val).port n.val).tx } with
              rx := x.rx.map (fun e => if e.port = n.val then { e with units := 0 } else e) }
          ∧ ∃ f, ((u.rim d.val).port n.val).tx = c.tx ++ [f] ∧ bits (BitVec.ofNat 64 (leNat (f.take 8))) 3 0 = 0xB))
    ∧ (bit c.pcfg 0 = false → bit v 1 = true → n.val < 12 → refused (.portEnable .wardenFw d n v))
    ∧ (bit c.pcfg 0 = true → c.pcfg &&& 0xFFFFFC0F#32 = c.pcfg → bit c.pcfg 1 = false →
        Gives (.kselSwitch .wardenFw d n (setBit c.pcfg 3 (!bit c.pcfg 3))) s (fun u => OnlyRim d.val s u
          ∧ u.rim d.val = x.setPort n.val { c with pcfg := setBit c.pcfg 3 (!bit c.pcfg 3) })
        ∧ (c.st = 3 → Gives (.portDisable .wardenFw d n c.pcfg) s (fun u => OnlyRim d.val s u
            ∧ u.rim d.val = x.setPort n.val { c with pcfg := setBit c.pcfg 0 false, st := 0, reason := 0 }))
        ∧ Gives (.portDisable .wardenFw d n c.pcfg) s (fun u => ((u.rim d.val).port n.val).st = 0
            ∧ ((u.rim d.val).port n.val).pcfg = setBit c.pcfg 0 false ∧ ((u.rim d.val).port n.val).reason = 0)
        ∧ (v &&& 0xFFFFFC0F#32 ≠ setBit c.pcfg 0 false → v &&& 0xFFFFFC0F#32 ≠ setBit c.pcfg 3 (!bit c.pcfg 3) →
            refused (.kselSwitch .wardenFw d n v)))
    ∧ (p = .wardenFw ∨ p = .pressS ∨ p = .pressM ∨ p = .hostWin →
        reads (.rimxKeydropRead p d) (BitVec.ofNat 32 x.keydrop) { x with keydrop := 0 }
        ∧ reads (.rimxUndelivRead p d) (BitVec.ofNat 32 x.undeliv) { x with undeliv := 0 }
        ∧ reads (.rimxPerrRead p d n) (BitVec.ofNat 32 (c.replays * 65536 + c.crcErr))
            (x.setPort n.val { c with replays := 0, crcErr := 0 })
        ∧ reads (.rimxPretrRead p d n) (BitVec.ofNat 32 c.pretr) (x.setPort n.val { c with pretr := 0 }))
    ∧ (p = .tileSelf ∨ p = .tileSw ∨ p = .pressU ∨ p = .hostPcie → ∀ i ∈ [Instr.rimxKeydropRead p d, .rimxUndelivRead p d, .rimxPerrRead p d n, .rimxPretrRead p d n],
        Gives i s (fun u => u = { s with rdata := 0#64 }))

/-! ### The Warden -/

/-- Management cores (R500, R502, R555, R558, R628): a lockstep mismatch stops the pair and is told to Krovas and the host; the boot ROM loads
into SRAM and starts the image that the island verifies, from the slot that SET_BOOTSEL names, slot 0 when none comes, or from the
mailbox, by the source that stood in WDN_BOOT.SRC at the cores' release. -/
def Sys2Proof.Claims.ManagementCores : Prop :=
  ∀ (s : State) (b : Bytes) (n : Nat),
    let w := s.wdn
    let setW := fun (i : Instr) (x : Warden) => Gives i s (fun u => u = { s with wdn := x })
    (w.coresUp = true → w.lstep = false →
      setW .lockstepMismatch (({ w with lstep := true, ibi := w.ibi ++ [0x03] } : Warden).sendMsix 1))
    ∧ (w.coresUp = false ∨ w.lstep = true → Gives .lockstepMismatch s (fun u => u = s) ∧ Gives .bootRomStart s (fun u => u = s))
    ∧ (w.coresUp = true → w.lstep = false → w.booted = false →
      (∀ img, (w.bootFrom = false ∧ w.bootSel = some n ∧ img = sget [] w.imgs (8 * n))
            ∨ (w.bootFrom = true ∧ bit w.hdb 0 = true
                ∧ img = mread w.sram 0x400000 (256 + min (leNat (mread w.sram 0x400008 4)) 0xFFF00)) →
        (s.island.st = .operational → s.island.busy = none →
          ∀ r i, ({ s.island with chal := none } : Island).verify 0 img = (r, i) →
          (r = 0 → Gives .bootRomStart s (fun u => u = { s with
              island := i, press := sput s.press mgmtUnit (mgmtStart img),
              wdn := { w with booted := true, ready := true, ibi := w.ibi ++ [0x06] } }))
          ∧ (r ≠ 0 → Gives .bootRomStart s (fun u => u = { s with island := i, wdn := { w with ibi := w.ibi ++ [0x05] } })))
        ∧ (s.island.st = .softErr ∨ s.island.st = .hardErr → setW .bootRomStart { w with ibi := w.ibi ++ [0x05] })
        ∧ (s.island.st ≠ .operational ∨ s.island.busy ≠ none → s.island.st ≠ .softErr → s.island.st ≠ .hardErr →
            Gives .bootRomStart s (fun u => u = s)))
      ∧ (w.bootFrom = false → w.bootSel = none → Gives .bootRomStart s (fun u => u = s))
      ∧ (w.bootFrom = true → bit w.hdb 0 = false → Gives .bootRomStart s (fun u => u = s)))
    ∧ (w.periphUp = true → w.refOk = true → b.length = 1 → setW (.setBootsel b) { w with bootSel := some (leNat b % 2), nack := false })
    ∧ (w.periphUp = false ∨ w.refOk = false ∨ b.length ≠ 1 → setW (.setBootsel b) { w with nack := true })
    ∧ (w.coresUp = true → w.bootSel = none → setW .bootselTimeout { w with bootSel := some 0 })
    ∧ (w.coresUp = true → w.bootSel = some n → Gives .bootselTimeout s (fun u => u = s))

/-- The host's registers (R49, R502, R504, R513, Table 12.11): host software and Press software at Machine level ring the doorbell, Warden
firmware clears it, storing a replacement retirement log from the mailbox where no part of its own can be read, and sends MSI-X
vectors, a masked one as a pending bit; a window takes a GA of a space below 0x8 and a key other than 0; the rest is refused. In
this the model rests on log entries 78 and 79, which are no rules of the spec. -/
def Sys2Proof.Claims.HostRegisters : Prop :=
  ∀ (s : State) (p : Party) (n : Fin 16) (v : W32) (a : W64),
    let w := s.wdn
    let host := (p = .hostPcie ∨ p = .hostWin) ∧ w.periphUp = true ∧ w.zeroWin = false
    let inside := p = .tileSelf ∨ p = .tileSw ∨ p = .pressU ∨ p = .pressS ∨ p = .pressM
    let setW := fun (i : Instr) (x : Warden) => Gives i s (fun u => u = { s with wdn := x })
    let refused := fun (i : Instr) => setW i { w with rstRef := true }
    let stores := v.getLsbD 1 = true ∧ bit w.hdb 1 = true ∧ w.logLost = true
    (host ∨ p = .pressM → setW (.hostDoorbell p v) { w with hdb := w.hdb ||| v })
    ∧ (p = .wardenFw ∨ (inside ∧ p ≠ .pressM) → refused (.hostDoorbell p v))
    ∧ (p = .wardenFw → (¬ stores → setW (.hostDoorbellClear p v) { w with hdb := w.hdb &&& ~~~v })
        ∧ (stores → Gives (.hostDoorbellClear p v) s (fun u =>
            u = { s with wdn := { w with hdb := w.hdb &&& ~~~v, logA := u.wdn.logA, logB := u.wdn.logA } }
            ∧ ∀ k, k < 256 → sget .erased u.wdn.logA k = w.mailSlot k))
        ∧ (w.msixMasked (bits v 4 0) = false → setW (.msiSend p v) { w with msix := w.msix ++ [bits v 4 0] })
        ∧ (w.msixMasked (bits v 4 0) = true → Gives (.msiSend p v) s (fun u => u = { s with wdn := { w with msixTab := u.wdn.msixTab } }
            ∧ mread32 u.wdn.msixTab 0x1000 = setBit (mread32 w.msixTab 0x1000) (bits v 4 0) true
            ∧ ∀ k, k < 0x1000 ∨ 0x1004 ≤ k → mget u.wdn.msixTab k = mget w.msixTab k)))
    ∧ (host ∨ inside → refused (.hostDoorbellClear p v) ∧ refused (.msiSend p v))
    ∧ (p = .wardenFw ∨ host → bits a 63 60 < 8 → setW (.wdnHwinWrite p n false a) { w with hwin := sput w.hwin n.val (setBits a 23 0 0) })
    ∧ (p = .wardenFw ∨ host → bits a 11 0 ≠ 0 →
        setW (.wdnHwinWrite p n true a) { w with hwkey := sput w.hwkey n.val (BitVec.ofNat 32 (bits a 11 0)) })
    ∧ (inside ∨ ((p = .wardenFw ∨ host) ∧ 8 ≤ bits a 63 60) → refused (.wdnHwinWrite p n false a))
    ∧ (inside ∨ ((p = .wardenFw ∨ host) ∧ bits a 11 0 = 0) → refused (.wdnHwinWrite p n true a))

/-- BAR0_ACCESS (R501, R503, R575, R120): a word of Warden space is read and written; a read of an offset that Table 12.9 does not list, or of an
uncorrectable word of SRAM, which is recorded, ends with Completer Abort. -/
def Sys2Proof.Claims.HostBar : Prop :=
  ∀ (s : State) (a : BusAccess),
    let w := s.wdn
    let abort := Gives (.bar0Access a) s (fun u => u.wdn.cpl = w.cpl ++ [.abort])
    a.size = 4 → a.off % 4 = 0 → w.periphUp = true → w.zeroWin = false →
    (a.wr = false → wdnListed a.off = true → w.eccAt a.off = .good → Gives (.bar0Access a) s (fun u => u = { s with
        wdn := { w with cpl := w.cpl ++ [.data [s.wdnPeek .hostPcie a.off]] }, rdata := (s.wdnPeek .hostPcie a.off).setWidth 64 }))
    ∧ (a.wr = false → wdnListed a.off = false → abort)
    ∧ (a.wr = false → 0x400000 ≤ a.off → a.off < 0x500000 → w.eccAt a.off = .ue → abort
        ∧ Gives (.bar0Access a) s (fun u => u = { s with wdn := { w with err := u.wdn.err, errAddr := u.wdn.errAddr, cpl := u.wdn.cpl } }
            ∧ bit u.wdn.err 1 = true))
    ∧ (a.wr = true → 0x400000 ≤ a.off → a.off + 4 ≤ 0x500000 → a.data ≠ [] → Gives (.bar0Access a) s (fun u =>
        mread32 u.wdn.sram a.off = a.data.getD 0 0#32
        ∧ (∀ k, k < a.off ∨ a.off + 4 ≤ k → mget u.wdn.sram k = mget w.sram k)
        ∧ u = { s with wdn := { w with sram := u.wdn.sram, bad := u.wdn.bad } }))
    ∧ (a.wr = true → a.off = 0x500 → a.data = [0x00000001#32] → Gives (.bar0Access a) s (fun u => bit u.wdn.hdb 0 = true
        ∧ u = { s with wdn := { w with hdb := u.wdn.hdb } }))

/-- BAR0_ACCESS from the start of ZERO to the end of stage 2 ends with Completer Abort, read or write (R120); else, before the
Warden's peripherals are released, nothing takes it. -/
def Sys2Proof.Claims.HostBarInReset : Prop :=
  ∀ (s : State) (a : BusAccess),
    (s.wdn.zeroWin = true → Gives (.bar0Access a) s (fun u => u = { s with wdn := { s.wdn with cpl := s.wdn.cpl ++ [.abort] } }))
    ∧ (s.wdn.zeroWin = false → s.wdn.periphUp = false → Gives (.bar0Access a) s (fun u => u = s))

/-- HOST_WINDOW_ACCESS, MESH, ANSWER and HOST_WINDOW_TIMEOUT (R504, R509, R510, R512): a window's read becomes one packet with the window's key in
the field's Stylus queue, and ends with an error for a dead field; MESH injects the queue's packet; the answer completes the read, with Completer Abort when its status is
not 0; a read without answer ends with Completer Abort and RDTO. -/
def Sys2Proof.Claims.HostWindows : Prop :=
  ∀ (s : State) (n : Fin 16) (f : FieldId) (a : BusAccess) (t : Nat) (ts : List Nat) (q : Packet),
    let w := s.wdn
    let ga := sget 0#64 w.hwin n.val ||| BitVec.ofNat 64 (a.off % 2 ^ 24)
    let g := gaOf ga
    let c := s.fld f.val
    let o := originOf f.val
    let key := bits (sget 0#32 w.hwkey n.val) 11 0
    (w.periphUp = true → g.space = 0 ∨ g.space = 6 → key ≠ 0 → isOwn (s.rim 0).topo g.plate = true → fieldAt g.y g.x = f.val →
      ({ g with space := 0 } : Ga).bad 4 = false → g.off % 4 = 0 → a.wr = false → a.size = 4 → shas w.hostRd n.val = false → bit w.dead f.val = false → c.rst = false →
      styPlain c.down < 6 → w.freeReqs f.val = t :: ts →
      Gives (.hostWindowAccess n a) s (fun u => OnlyField f.val { s with wdn := u.wdn } u
        ∧ u.wdn = { w with req := sput w.req (64 * f.val + t) { win := some n.val, rd := true, word := 0, words := 1 },
                           hostRd := sput w.hostRd n.val { words := 1 } }
        ∧ ∃ p : Packet, (u.fld f.val) = { c with down := c.down ++ [.mesh p] } ∧ p.h.op = (if g.space = 6 then 0x07 else 0x01) ∧ p.h.ch = 0 ∧ p.h.long = false
            ∧ p.h.dx = g.x ∧ p.h.dy = g.y ∧ p.h.tag = t ∧ p.h.pkey = key
            ∧ p.h.payload = BitVec.ofNat 32 (g.off / 4)))
    ∧ (w.periphUp = true → g.space = 0 → key ≠ 0 → isOwn (s.rim 0).topo g.plate = true → fieldAt g.y g.x = f.val →
      g.bad 4 = false → g.off % 4 = 0 → a.wr = false → a.size = 4 → shas w.hostRd n.val = false → bit w.dead f.val = true →
      Gives (.hostWindowAccess n a) s (fun u => u.wdn.cpl = w.cpl ++ [.abort] ∧ bit u.wdn.hostStat 1 = true
        ∧ u = { s with wdn := { w with cpl := u.wdn.cpl, hostStat := u.wdn.hostStat } }))
    ∧ (w.periphUp = true → g.space = 0 ∨ g.space = 6 → key = 0 → shas w.hostRd n.val = false →
      Gives (.hostWindowAccess n a) s (fun u => u = { s with wdn :=
        if a.wr then w else { w with hostStat := setBit w.hostStat 1 true, cpl := w.cpl ++ [.abort] } }))
    ∧ (c.rst = false → bit w.dead f.val = false → styNext c.down false = some (.mesh q) → s.canInject o .ctl q.h.ch = true →
      Gives (.mesh f none) s (fun u => FieldAndMesh f.val s u ∧ u.fld f.val = { c with down := styPop false c.down }
        ∧ ∃ p : Packet, p.h = { q.h with route := p.h.route } ∧ p.ws = q.ws ∧ Sent o .ctl p s.mesh u.mesh))
    ∧ (c.rst = false → bit w.dead f.val = false → styNext c.down false = some (.mesh q) → s.canInject o .ctl q.h.ch = false →
      Gives (.mesh f none) s (fun u => u = s))
    ∧ (∀ k e, c.rst = false → bit w.dead f.val = false → s.front o .ctl 1 = some q →
      w.req.find? (fun e => e.1 == 64 * f.val + q.h.tag) = some (k, e) →
      (e.win = none → Gives (.answer f) s (fun u => u = { s with
          mesh := s.mesh.popped o .ctl 1, rdata := q.h.payload.setWidth 64,
          wdn := { w with req := sdel w.req k, fwAns := w.fwAns ++ [(q.h.status, q.h.payload)] } }))
      ∧ (∀ m, e.win = some m → e.rd = true → q.h.status = 0 → sget { words := 1 } w.hostRd m = { words := 1 } →
          Gives (.answer f) s (fun u => u = { s with
            mesh := s.mesh.popped o .ctl 1, rdata := q.h.payload.setWidth 64,
            wdn := { w with req := sdel w.req k, hostRd := sdel w.hostRd m, cpl := w.cpl ++ [.data [q.h.payload]] } }))
      ∧ (∀ m, e.win = some m → e.rd = true → q.h.status ≠ 0 → Gives (.answer f) s (fun u =>
          u.wdn.cpl = w.cpl ++ [.abort] ∧ bit u.wdn.hostStat 1 = true ∧ shas u.wdn.hostRd m = false
          ∧ u = { s with mesh := s.mesh.popped o .ctl 1, wdn := u.wdn })))
    ∧ (shas w.hostRd n.val = true → Gives (.hostWindowTimeout n) s (fun u =>
        u.wdn.cpl = w.cpl ++ [.abort] ∧ bit u.wdn.hostStat 0 = true ∧ shas u.wdn.hostRd n.val = false ∧ u = { s with wdn := u.wdn }))
    ∧ (shas w.hostRd n.val = false → Gives (.hostWindowTimeout n) s (fun u => u = s))
    ∧ (∀ r : FwReq, w.fwRuns = true → meshField (s.rim 0).topo (gaOf r.ga) = f.val →
        (gaOf r.ga).bad (if r.kind = .queue then 4 else r.size) = true →
        Gives (.mesh f (some r)) s (fun u => u = { s with wdn := { w with fwAns := w.fwAns ++ [(7, 0#32)] } }))

/-- The Stylus link (R501, R510, R511, R584): REG reads and writes field controller space for Warden firmware, behind the commands that
wait on the link; EVENT sets the field's pending bit and sends MSI-X vector 2; requests for Warden and Rim registers are relayed
and answered in the links' turn, and wait otherwise. In this the model rests on log entries 18, 21 and 36, which are no rules of
the spec. -/
def Obligations.StylusLink : Prop :=
  ∀ (s : State) (f : FieldId) (a : BusAccess) (q : Packet) (k : Nat) (rest : List StyCmd),
    let w := s.wdn
    let c := s.fld f.val
    let o := originOf f.val
    let who := srcParty c.topo q.h
    let off := 4 * bits q.h.payload 26 0
    let die := bits q.h.payload 28 27
    let turn := { w with rrSty := f.val }
    c.rst = false →
    (bit w.dead f.val = false → styPlain c.down ≠ 0 → Gives (.reg f a) s (fun u => u = s))
    ∧ (bit w.dead f.val = false →
      (styPlain c.down = 0 → a.wr = false → Gives (.reg f a) s (fun u => u = { s with fields := u.fields, rdata := (c.peek (a.off / 4 * 4)).setWidth 64 }
        ∧ u.fld f.val = c.readClear (a.off / 4 * 4) ∧ ∀ g, g ≠ f.val → u.fld g = s.fld g))
      ∧ (styPlain c.down = 0 → a.wr = true → a.off / 4 ≠ 0x201 → a.off < 0x420 ∨ 0x43C ≤ a.off → Gives (.reg f a) s (fun u => OnlyField f.val s u
        ∧ u.fld f.val = c.write s.sku f.val .wardenFw (a.off / 4 * 4) (a.data.getD 0 0#32)))
      ∧ (c.up = .event k :: rest → Gives (.event f) s (fun u => OnlyField f.val { s with wdn := u.wdn } u
        ∧ u.fld f.val = { c with up := rest }
        ∧ u.wdn = ({ w with evtPend := setBit w.evtPend f.val true } : Warden).sendMsix 2)))
    ∧ (s.styTurn f.val = false → ∀ i ∈ [Instr.rdWdn f, .wrWdn f, .rdRim f, .wrRim f], Gives i s (fun u => u = s))
    ∧ (s.styTurn f.val = true → s.front o .ctl 0 = some q →
      (q.h.op = 0x06 → tileParty who = false → wdnListed off = true → w.eccAt off = .good →
        Gives (.rdWdn f) s (fun u => Answered s u o .ctl 0 q false 0 (s.wdnPeek who off) ∧ u = { s with mesh := u.mesh, wdn := turn }))
      ∧ (q.h.op = 0x06 → tileParty who = true → wdnListed off = true →
        Gives (.rdWdn f) s (fun u => Answered s u o .ctl 0 q false 0 (if off = 0 then s.wdnId else 0#32) ∧ u = { s with mesh := u.mesh, wdn := turn }))
      ∧ (q.h.op = 0x06 → wdnListed off = false →
        Gives (.rdWdn f) s (fun u => Answered s u o .ctl 0 q false 7 0#32 ∧ u = { s with mesh := u.mesh, wdn := turn }))
      ∧ (q.h.op = 0x0D → tileParty who = true → 0x1000 ≤ q.h.off → q.h.off < 0x2000 →
        Gives (.wrWdn f) s (fun u => Answered s u o .ctl 0 q true 0 0#32 ∧ u = { s with mesh := u.mesh, wdn := turn }))
      ∧ (q.h.op = 0x0D → tileParty who = true → q.h.off / 4 * 4 = 0x300 ∨ q.h.off / 4 * 4 = 0x30C ∨ q.h.off / 4 * 4 = 0x308 →
        Gives (.wrWdn f) s (fun u => Answered s u o .ctl 0 q true 0 0#32
          ∧ u = { s with mesh := u.mesh, wdn := { turn with rstRef := true } }))
      ∧ (q.h.op = 0x0D → who = .pressM → q.h.off / 4 * 4 = 0x500 →
        Gives (.wrWdn f) s (fun u => Answered s u o .ctl 0 q true 0 0#32
          ∧ u = { s with mesh := u.mesh, wdn := { turn with hdb := w.hdb ||| q.ws.getD 0 0#32 } }))
      ∧ (q.h.op = 0x05 → (s.rim die).rst = false → who = .pressS ∨ who = .pressM ∨ who = .wardenFw ∨ who = .hostWin →
        Gives (.rdRim f) s (fun u => Answered s u o .ctl 0 q false 0 ((s.rim die).peek die off)
          ∧ u = { s with mesh := u.mesh, rims := u.rims, wdn := turn } ∧ u.rim die = (s.rim die).readClear off
          ∧ ∀ e, e ≠ die → u.rim e = s.rim e))
      ∧ (q.h.op = 0x0C → (s.rim q.h.sel).rst = false → who = .wardenFw → ∀ i, i < 8 → q.h.off = 0x40 + 4 * i →
        Gives (.wrRim f) s (fun u => Answered s u o .ctl 0 q true 0 0#32 ∧ u = { s with mesh := u.mesh, rims := u.rims, wdn := turn }
          ∧ u.rim q.h.sel = { s.rim q.h.sel with bktSh := sput (s.rim q.h.sel).bktSh i (q.ws.getD 0 0#32) }
          ∧ ∀ e, e ≠ q.h.sel → u.rim e = s.rim e))
      ∧ (q.h.op = 0x0C → (s.rim q.h.sel).rst = false → who ≠ .wardenFw → q.h.off / 4 * 4 = 0 →
        Gives (.wrRim f) s (fun u => Answered s u o .ctl 0 q true 0 0#32
          ∧ u = { s with mesh := u.mesh, rims := u.rims, wdn := turn }
          ∧ u.rim q.h.sel = { s.rim q.h.sel with stat := setBit (s.rim q.h.sel).stat 6 true }))
      ∧ (∀ i ∈ [(0x05, Instr.rdRim f), (0x06, .rdWdn f), (0x0C, .wrRim f), (0x0D, .wrWdn f)], q.h.op = i.1 →
          Gives (.relay f) s (fun u => exec i.2 s = .next u)))

/-- Krovas and the Warden over I3C (R507, R622, R624 to R627, R639): Warden firmware serves a transfer, which is NACKed while it does not run;
GET_STATE needs the peripherals alone; management frames pass in order in both directions; a staged image is kept at its slot, TYPE and
offset, and STAGE_CHK verifies a slot in the island. A frame of TYPE 0x0101 is carried out as the command it holds. In this the model
rests on log entries 28 and 79, which are no rules of the spec. -/
def Sys2Proof.Claims.WardenTransfers : Prop :=
  ∀ (s : State) (b : Bytes) (d : DieId) (q : Packet) (more : List Packet) (y : Nat × Bytes) (ys : List (Nat × Bytes)),
    let w := s.wdn
    let ad := w.addressed
    let fw := w.fwRuns = true
    let hw := w.periphUp = true ∧ w.refOk = true
    let setW := fun (i : Instr) (x : Warden) => Gives i s (fun u => u = { s with wdn := x })
    (hw → Gives .getState s (fun u => u = { s with krovas := u.krovas, wdn := { ad with i3c := u.wdn.i3c, nack := false } }
        ∧ (s.krovas.standby = false → u.krovas = s.krovas)
        ∧ u.wdn.i3c.length = 16 ∧ u.wdn.i3c.take 4 = natLe 4 s.wdnId.toNat))
    ∧ (¬ hw → Gives .getState s (fun u => u = { s with krovas := u.krovas, wdn := { w with nack := true } }))
    ∧ (fw → w.mgmtIn = [] → setW .mgmtRd { ad with i3c := [0#8, 0#8], nack := false })
    ∧ (fw → w.mgmtIn = y :: ys →
        let s1 : State := { s with wdn := { ad with i3c := natLe 2 y.2.length ++ y.2, nack := false, mgmtIn := ys } }
        (bits ((toWords (y.2.length / 4) y.2).getD 0 0#32) 15 0 ≠ 0x0101 → Gives .mgmtRd s (fun u => u = s1))
        ∧ (∀ h t c : W32, toWords (y.2.length / 4) y.2 = [h, t, c] → bits h 15 0 = 0x0101 → bits c 15 8 = 0 →
            ∀ i ∈ [(1, Instr.hello y.1 t), (2, .bypassIn (.plate y.1) t (BitVec.ofNat 4 (bits c 31 16))),
                (3, .bypassOut (.plate y.1) t (BitVec.ofNat 4 (bits c 31 16))), (5, .powerOff y.1 t),
                (6, .telemSub y.1 t (BitVec.ofNat 16 (bits c 31 16)))],
              bits c 7 0 = i.1 → (i.1 = 2 ∨ i.1 = 3 → bits c 31 16 < 16) → Gives .mgmtRd s (fun u => exec i.2 s1 = .next u))
        ∧ (∀ h t c a b : W32, toWords (y.2.length / 4) y.2 = [h, t, c, a, b] → bits h 15 0 = 0x0101 → bits c 15 0 = 4 →
            Gives .mgmtRd s (fun u => exec (.setTopo (.plate y.1) t a (BitVec.ofNat 10 (bits b 9 0))) s1 = .next u)))
    ∧ (fw → Gives .telemRd s (fun u => u = { s with krovas := u.krovas, wdn := { ad with i3c := u.wdn.i3c, nack := false } }
        ∧ u.wdn.i3c.length = 188 ∧ u.wdn.i3c.take 4 = natLe 4 w.pkgW))
    ∧ (fw → b.length = 8 → Gives (.i3cTopo b) s (fun u => u.wdn.nack = false
        ∧ u.wdn.topoRec = some (BitVec.ofNat 32 (leNat (b.take 4)), leNat ((b.drop 4).take 2) % 1024)
        ∧ u = { s with wdn := { ad with nack := false, topoRec := u.wdn.topoRec }, rims := u.rims, fields := u.fields }
        ∧ ∀ e : DieId, bit (s.rim e.val).topo 31 = true → u.rim e.val = s.rim e.val))
    ∧ (fw → ∀ ty slot n, leNat (b.take 1) = ty → leNat ((b.drop 1).take 1) = slot → leNat ((b.drop 6).take 2) = n → b.length = 8 + n →
        n ≤ 256 → ty ≤ 4 → slot ≤ 1 → Gives (.stageWr b) s (fun u =>
          u = { s with wdn := { ad with nack := false, chk := (0, 0xFF), imgs := u.wdn.imgs },
                       krovas := if s.krovas.standby && slot != s.krovas.run then s.krovas.setBank slot { st := .staging } else s.krovas }
          ∧ (∀ j, j < n → (sget [] u.wdn.imgs (8 * slot + ty)).getD (leNat ((b.drop 2).take 4) + j) 0#8 = b.getD (8 + j) 0#8)
          ∧ ∀ k, k ≠ 8 * slot + ty → sget [] u.wdn.imgs k = sget [] w.imgs k))
    ∧ (fw → b.length = 1 → leNat b ≤ 1 → s.island.st = .operational → Gives (.stageChk b) s (fun u =>
          u.wdn.chk = (stageCheck w.imgs (leNat b) [3, 0, 1, 2, 4] { s.island with chal := none }).2
          ∧ u = { s with island := u.island, wdn := { ad with nack := false, chk := u.wdn.chk, i3c := u.wdn.i3c } }
          ∧ u.wdn.i3c = natLe 2 u.wdn.chk.1 ++ natLe 1 u.wdn.chk.2 ++ natLe 1 1))
    ∧ (fw → ∀ n, leNat (b.take 2) = n → b.length = 2 + n → n ≤ 1024 → w.topoRec = none → s.krovas.frameOut = [] →
        setW (.mgmtWr b) { ad with nack := false })
    ∧ (fw → b.length ≠ 2 + leNat (b.take 2) → s.krovas.frameOut = [] → setW (.mgmtWr b) { ad with nack := true })
    ∧ (∀ i ∈ [Instr.mgmtRd, .i3cTopo b, .stageWr b, .stageChk b, .mgmtWr b], ¬ fw → setW i { w with nack := true })
    ∧ (¬ fw → Gives .telemRd s (fun u => u = { s with krovas := u.krovas, wdn := { w with nack := true } }))
    ∧ (fw → (s.rim d.val).mgmt = q :: more →
      (q.h.long = true → 0x100 ≤ bits (q.ws.getD 0 0#32) 15 0 → bits (q.ws.getD 0 0#32) 15 0 ≤ 0x1FF →
        Gives (.mgmt d) s (fun u => OnlyRim d.val { s with wdn := u.wdn } u ∧ u.rim d.val = { s.rim d.val with mgmt := more }
          ∧ u.wdn = { w with mgmtIn := w.mgmtIn ++ [(q.h.splate, (ofWords q.ws).take (bits (q.ws.getD 0 0#32) 31 16))], ibi := w.ibi ++ [0x01] }))
      ∧ (q.h.long = false ∨ bits (q.ws.getD 0 0#32) 15 0 < 0x100 ∨ 0x1FF < bits (q.ws.getD 0 0#32) 15 0 →
        Gives (.mgmt d) s (fun u => OnlyRim d.val { s with wdn := u.wdn } u ∧ u.rim d.val = { s.rim d.val with mgmt := more }
          ∧ u.wdn = { w with fwFrames := w.fwFrames ++ [q] })))

/-- MGMT_WR (R507, R622, R627, R454): a frame of one packet, for the Plate that it answers or else for the fabric manager, leaves by the die
that R438 chooses, under key 0 of that die's key map. -/
def Sys2Proof.Claims.ManagementFrames : Prop :=
  ∀ (s : State) (b : Bytes) (t : W32) (plate : Nat),
    let w := s.wdn
    let d := chooseDie (s.rim 0).topo plate
    let x := s.rim d
    let s1 : State := { s with wdn := { w.addressed with nack := false }, krovas := { s.krovas with frameOut := s.krovas.frameOut.drop 1 } }
    w.fwRuns = true → (w.topoRec = some (t, plate) ∧ s.krovas.frameOut = []) ∨ (∃ l, s.krovas.frameOut = (plate, b.drop 2) :: l) →
    1 ≤ leNat (b.take 2) → leNat (b.take 2) ≤ 128 →
    b.length = 2 + leNat (b.take 2) → isOwn (s.rim 0).topo plate = false →
    ((sget 0#32 x.keymap 0).getLsbD 0 = false → Gives (.mgmtWr b) s (fun u => OnlyRim d s1 u
        ∧ u.rim d = { x with keydrop := satInc x.keydrop 0xFFFFFFFF, stat := setBit x.stat 2 true }))
    ∧ ((sget 0#32 x.keymap 0).getLsbD 0 = true → x.rst = false → bit x.topo 31 = true → onTorus x.topo plate = true →
        x.loss = .noSignal → Gives (.mgmtWr b) s (fun u => OnlyRim d s1 u
          ∧ ∃ o : OutPkt, u.rim d = { x with held := x.held ++ [o] } ∧ o.p.h.op = 0x1D ∧ o.p.h.ch = 3 ∧ o.p.h.dplate = plate
              ∧ o.p.h.pkey = 0 ∧ o.p.ws = toWords ((leNat (b.take 2) + 3) / 4) (b.drop 2)))

/-! ### The security island -/

/-- Commands of the island in general (R549 to R551): from anyone but Warden firmware they are refused; a write of SIS_CMD starts a
command, which its own row ends; while one is busy another is refused with WREF; in a state that does not offer the command the
RESULT is STATE; a Crypto Officer command without a good signature over the current challenge ends with AUTH; every command
consumes the challenge. In this the model rests on log entries 19 and 22, which are no rules of the spec. -/
def Sys2Proof.Claims.IslandCommands : Prop :=
  ∀ (s : State) (p : Party) (ok : Bool) (ch : Option Bytes) (ga : W64),
    let i := s.island
    let w := s.wdn
    let g := gaOf ga
    let on := w.supply = true ∧ w.asserted = false
    let ops := [(0x01, Instr.selftest p ok), (0x02, .getid p), (0x03, .verify p), (0x04, .islandExtend p), (0x05, .quote p),
      (0x06, .islandImport p), (0x07, .forget p), (0x08, .loadkey p), (0x09, .random p), (0x0A, .challenge p), (0x0B, .setOwner p),
      (0x0C, .zeroize p), (0x0D, .unlock p), (0x0E, .revoke p), (0x0F, .svnraise p)]
    let fin := fun (i : Island) (r : Nat) => { i with chal := none, done := true, result := r }
    (p ≠ .wardenFw → (p = .hostPcie ∨ p = .hostWin → w.periphUp = true ∧ w.zeroWin = false) →
      ∀ c ∈ ops, Gives c.2 s (fun u => u = { s with wdn := { w with rstRef := true } }))
    ∧ (p = .wardenFw → on → i.busy = none →
      (i.st ≠ .operational → i.st ≠ .softErr → ∀ c ∈ ops, Gives c.2 s (fun u => u = { s with island := fin i 1 }))
      ∧ (i.st = .softErr → ∀ c ∈ ops, c.1 ≠ 0x01 → c.1 ≠ 0x0A → Gives c.2 s (fun u => u = { s with island := fin i 1 }))
      ∧ (i.st = .operational → i.owner.isSome = true → i.chal = none →
          ∀ c ∈ ops, 0x0B ≤ c.1 → Gives c.2 s (fun u => u = { s with island := fin i 2 }))
      ∧ (g.space = 5 → g.bad 4 = false → isOwn s.topoNow g.plate = true → g.off = 0x2004 → ∀ c ∈ ops,
          Gives (.registerWrite p ga (BitVec.ofNat 64 c.1) false) s (fun u => u = { s with
            island := { i with busy := some { op := c.1, ch := i.chal }, chal := none, done := false } })))
    ∧ (p = .wardenFw → on → ∀ c ∈ ops, ∀ op, i.busy = some { op := op, ch := ch } →
      (op ≠ c.1 → Gives c.2 s (fun u => u = { s with island := { i with wref := true }, wdn := { w with rstRef := true } }))
      ∧ (op = c.1 → i.st ≠ .operational → i.st ≠ .softErr →
          Gives c.2 s (fun u => u = { s with island := { i with busy := none, done := true, result := 1 } })))
    ∧ (p = .wardenFw → ¬ on → ∀ c ∈ ops, Gives c.2 s (fun u => u = s))

/-- Identity and measurement (R550, R555, R557, R560): GETID returns the public keys, VERIFY checks an image and measures it, EXTEND
extends MREG5 or MREG7 alone, QUOTE returns a quote and counts it. -/
def Sys2Proof.Claims.IslandIdentity : Prop :=
  ∀ (s : State),
    let i := s.island
    let fin := fun (i : Island) (r : Nat) => { i with chal := none, done := true, result := r }
    let gives := fun (c : Instr) (j : Island) => Gives c s (fun u => u = { s with island := j })
    let ty := leNat (mread i.buf 0 1)
    let img := mread s.wdn.sram (leNat (mread i.buf 1 4)) (leNat (mread i.buf 5 4))
    let r := verifyImage i.revoked (sget 0 i.minSvn ty) img
    s.wdn.supply = true → s.wdn.asserted = false → i.st = .operational → i.busy = none →
    Gives (.getid .wardenFw) s (fun u => u = { s with island := { fin i 0 with buf := u.island.buf } }
        ∧ mread u.island.buf 0 97 = dikPub i.dikGen ∧ mread u.island.buf 97 97 = kakPub i.dikGen
        ∧ mread u.island.buf 194 96 = padTo 96 (dikSign i.dikGen (sha (kakPub i.dikGen))))
    ∧ (leNat (mread i.buf 5 4) ≤ 0x1000100 → ty ≤ 4 →
      (r = 0 → ty < 4 → gives (.verify .wardenFw)
          { fin i 0 with mreg := sput i.mreg (ty + 1) (sha (i.mregOf (ty + 1) ++ sha img)) })
      ∧ (r = 0 → ty = 4 → gives (.verify .wardenFw) (fin i 0))
      ∧ (r ≠ 0 → gives (.verify .wardenFw) (fin i r)))
    ∧ (0x1000100 < leNat (mread i.buf 5 4) ∨ 4 < ty → gives (.verify .wardenFw) (fin i 3))
    ∧ (ty = 5 ∨ ty = 7 → gives (.islandExtend .wardenFw)
        { fin i 0 with mreg := sput i.mreg ty (sha (i.mregOf ty ++ mread i.buf 1 48)) })
    ∧ (ty ≠ 5 → ty ≠ 7 → gives (.islandExtend .wardenFw) (fin i 3))
    ∧ (ty ≠ 0 → Gives (.quote .wardenFw) s (fun u =>
        u = { s with island := { fin i 0 with qcount := i.qcount + 1, buf := u.island.buf } }
        ∧ mread u.island.buf 0 4 = natLe 4 0x51534953 ∧ mread u.island.buf 8 4 = natLe 4 s.wdnId.toNat
        ∧ mread u.island.buf 16 8 = natLe 8 s.serial.toNat ∧ mread u.island.buf 32 48 = mread i.buf 1 48))
    ∧ (ty = 0 → gives (.quote .wardenFw) (fin i 3))

/-- Keys (R550, R551, R561 to R563, R572): IMPORT unwraps a master key into its slot, FORGET empties one, LOADKEY derives
a port's keys and restarts their counters, RANDOM and CHALLENGE draw from the random generator. In this the model
rests on log entries 22 and 48, which are no rule of the spec. -/
def Obligations.IslandKeys : Prop :=
  ∀ (s : State),
    let i := s.island
    let fin := fun (i : Island) (r : Nat) => { i with chal := none, done := true, result := r }
    let gives := fun (c : Instr) (j : Island) => Gives c s (fun u => u = { s with island := j })
    let n := leNat (mread i.buf 0 1)
    let k := leNat (mread i.buf 1 2)
    let m := leNat (mread i.buf 0 2)
    let port := leNat (mread i.buf 1 1)
    let ks := leNat (mread i.buf 2 1)
    let gen := leNat (mread i.buf 8 4)
    let x := s.rim n
    s.wdn.supply = true → s.wdn.asserted = false → i.st = .operational → i.busy = none →
    (∀ key, i.dbg = false → n ≤ 64 → n = 0 ∨ (2 ≤ k ∧ k ≤ 0xFFF) →
      (n = 0 ∨ ∀ e ∈ i.slots, e.1 = 0 ∨ e.1 = n ∨ e.2.k ≠ k) →
      importKey i.dikGen (mread i.buf 3 97) (mread i.buf 100 40) = some key →
      gives (.islandImport .wardenFw) { fin i 0 with slots := sput i.slots n { key := padTo 32 key, k := if n = 0 then 0 else k } })
    ∧ (i.dbg = true → gives (.islandImport .wardenFw) (fin i 1))
    ∧ (i.dbg = false → 64 < n → gives (.islandImport .wardenFw) (fin i 3))
    ∧ (i.dbg = false → n = 0 → importKey i.dikGen (mread i.buf 3 97) (mread i.buf 100 40) = none →
        gives (.islandImport .wardenFw) (fin i 6))
    ∧ (n ≤ 64 → gives (.forget .wardenFw) { fin i 0 with slots := sdel i.slots n })
    ∧ (64 < n → gives (.forget .wardenFw) (fin i 3))
    ∧ (i.loadCheck x.topo (x.port port) n port ks (leNat (mread i.buf 3 1)) gen = 0 → Gives (.loadkey .wardenFw) s (fun u =>
        u = { s with rims := u.rims, island := { fin i 0 with gens := sput i.gens (16 * n + port) gen } }
        ∧ (∀ e, e ≠ n → u.rim e = s.rim e)
        ∧ ∃ tx rx : Bytes, tx.length = 36 ∧ rx.length = 36 ∧ u.rim n = x.setPort port { x.port port with
            keys := sput (sput (x.port port).keys (2 * ks) tx) (2 * ks + 1) rx,
            iv := sput (sput (x.port port).iv (2 * ks) 0) (2 * ks + 1) 0 }))
    ∧ (∀ r, i.loadCheck x.topo (x.port port) n port ks (leNat (mread i.buf 3 1)) gen = r → r ≠ 0 → gives (.loadkey .wardenFw) (fin i r))
    ∧ ((x.port port).en = true → (x.port port).ksel = ks → i.dbg = false → bit x.topo 31 = true → n ≤ 3 → port ≤ 15 → ks ≤ 1 →
        leNat (mread i.buf 3 1) = 0 → (x.port port).host = false → shas i.slots 0 = true →
        i.loadCheck x.topo (x.port port) n port ks (leNat (mread i.buf 3 1)) gen = 7)
    ∧ (1 ≤ m → m ≤ 256 → gives (.random .wardenFw)
        { fin i 0 with drawn := i.drawn + 1, buf := mwrite i.buf 0 (padTo m (Config.drbg i.drawn m)) })
    ∧ (m = 0 ∨ 256 < m → gives (.random .wardenFw) (fin i 3))
    ∧ gives (.challenge .wardenFw) { fin i 0 with
        drawn := i.drawn + 1, chal := some (padTo 48 (Config.drbg i.drawn 48)), chalAge := 0,
        buf := mwrite i.buf 0 (padTo 48 (Config.drbg i.drawn 48)) }

/-- The Crypto Officer's commands on a part without an owner, and with a good signature (R551, R552, R566, R570): the owner is replaced, a
fuse of revocation or of a minimum SVN is burnt and never unburnt, and ZEROIZE and UNLOCK start a zeroization, as a tamper trigger
does, which counts it. The test access port reads the challenge, takes an unlock, and while locked treats what R568 does not list
as BYPASS. In this the model rests on log entries 23, 25 and 80, which are no rules of the spec. -/
def Sys2Proof.Claims.IslandOfficer : Prop :=
  ∀ (s : State) (b : Bytes),
    let i := s.island
    let w := s.wdn
    let fin := fun (i : Island) (r : Nat) => { i with chal := none, done := true, result := r }
    let gives := fun (c : Instr) (j : Island) => Gives c s (fun u => u = { s with island := j })
    let good := fun (op n : Nat) => i.officer i.chal (mread i.buf 0 97) (mread i.buf 97 96) op (mread i.buf 193 n) = true
    let event := fun (rec : Bytes) => sput i.mreg 6 (sha (i.mregOf 6 ++ sha rec))
    let a := leNat (mread i.buf 193 1)
    let v := leNat (mread i.buf 194 1)
    let zeroized := fun (u : State) => u.island.st = .zeroizing ∧ u.island.hasDik = false ∧ u.island.slots = [] ∧ u.island.mreg = []
      ∧ u.island.owner = i.owner ∧ u.island.revoked = i.revoked ∧ u.island.minSvn = i.minSvn ∧ u.wdn.cls = .zero
      ∧ u.wdn.asserted = true ∧ u.wdn.sram = [] ∧ u.wdn.ground = [] ∧ u.fields = [] ∧ u.fuses = s.fuses
    let on := w.supply = true ∧ w.asserted = false ∧ i.st = .operational ∧ i.busy = none
    let scan := fun (ir : TapInstr) (dr : Bytes) => ({ s with wdn := { w with tap := { ir := ir, dr := dr } } } : State)
    (i.owner = none → ∀ op n, good op n)
    ∧ (on → good 0x0B 97 → gives (.setOwner .wardenFw)
        { fin i 0 with owner := some (sha (mread i.buf 193 97)), mreg := event (0x0B#8 :: mread i.buf 193 97) })
    ∧ (on → good 0x0E 1 → a ≤ 3 → i.revoked.contains a = false → i.revoked.length < 3 → gives (.revoke .wardenFw)
        { fin i 0 with revoked := a :: i.revoked, mreg := event (0x0E#8 :: mread i.buf 193 1) })
    ∧ (on → good 0x0E 1 → 3 < a → gives (.revoke .wardenFw) (fin i 3))
    ∧ (on → good 0x0F 2 → a ≤ 4 → sget 0 i.minSvn a < v → v ≤ 32 → gives (.svnraise .wardenFw)
        { fin i 0 with minSvn := sput i.minSvn a v, mreg := event (0x0F#8 :: mread i.buf 193 2) })
    ∧ (on → good 0x0F 2 → 4 < a ∨ v ≤ sget 0 i.minSvn a ∨ 32 < v → gives (.svnraise .wardenFw) (fin i 3))
    ∧ (on → w.governs .zero = true →
      (good 0x0C 0 → Gives (.zeroize .wardenFw) s (fun u => zeroized u ∧ u.island.tamper = i.tamper ∧ u.island.unlock = false))
      ∧ (good 0x0D 0 → Gives (.unlock .wardenFw) s (fun u => zeroized u ∧ u.island.tamper = i.tamper ∧ u.island.unlock = true))
      ∧ (b.length = 193 → i.officer i.chal (b.take 97) (b.drop 97) 0x0D [] = true →
          Gives (.tapUnlock ⟨.unlock, b⟩) s (fun u => zeroized u ∧ u.island.unlock = true))
      ∧ (b.length = 193 → i.officer i.chal (b.take 97) (b.drop 97) 0x0D [] = false →
          Gives (.tapUnlock ⟨.unlock, b⟩) s (fun u => u = { scan .unlock [0#8] with island := { i with chal := none } })))
    ∧ (b.length ≠ 193 → Gives (.tapUnlock ⟨.unlock, b⟩) s (fun u => u = scan .unlock [0#8]))
    ∧ Gives (.tapUnlock ⟨.challenge, b⟩) s (fun u => u = scan .challenge (padTo 48 (i.chal.getD [])))
    ∧ Gives (.tapUnlock ⟨.idcode, b⟩) s (fun u => u = scan .idcode Config.tapIdcode)
    ∧ (∀ ir ∈ [TapInstr.sample, .extest], Gives (.tapUnlock ⟨ir, b⟩) s (fun u =>
        u = { scan ir (Config.tapBoundary s.freeCtr) with freeCtr := s.freeCtr + 1 }))
    ∧ (∀ n, ∀ ir ∈ [TapInstr.bypass, .other n], Gives (.tapUnlock ⟨ir, b⟩) s (fun u => u = scan .bypass [0#8]))
    ∧ (w.supply = true → i.st ≠ .zeroizing → w.governs .zero = true →
        Gives .lidTrip s (fun u => zeroized u ∧ u.island.tamper = (if i.tamper < 15 then i.tamper + 1 else i.tamper)))
    ∧ (w.supply = true → i.st = .zeroizing → gives .lidTrip { i with tamper := if i.tamper < 15 then i.tamper + 1 else i.tamper })
    ∧ (w.supply = false → Gives .lidTrip s (fun u => u = s))

/-- Tests and states of the island (R543 to R548, R553, R556, R570): a start whose tests pass, on an image that the ROM's check lets
through, measures the island and enters OPERATIONAL, through KEYGEN when it holds no identity; a failed test of a start, an image
that fails the check, a failed pairwise test of a new key pair, a periodic one or a temperature outside the range ends in
HARD_ERR, a failed conditional test in SOFT_ERR, which SELFTEST leaves; test access opens at ZERO's release after an unlock, pass
or fail. In this the model rests on log entries 24 and 25, which are no rules of the spec. -/
def Sys2Proof.Claims.IslandTests : Prop :=
  ∀ (s : State),
    let i := s.island
    let w := s.wdn
    let hard := fun (u : State) => u = { s with
      island := { i with st := .hardErr, busy := none }, wdn := { w with ibi := w.ibi ++ [0x302] } }
    let on := w.supply = true ∧ w.asserted = false
    let hash := match w.islandImage with
      | some b => sha b
      | none => padTo 48 Config.islandHash
    (on → i.st = .selftest → i.lidLatch = false →
      (i.hardAfter = false → i.imageOk w.islandImage = true →
        (i.hasDik = true → Gives (.islandStart .pass) s (fun u => u.island.st = .operational ∧ u.wdn.ibi = w.ibi ++ [0x102]
            ∧ sget [] u.island.mreg 0 = sha (i.mregOf 0 ++ hash) ∧ u.island.dikGen = i.dikGen ∧ u.island.img = w.islandImage
            ∧ u = { s with island := u.island, wdn := { w with ibi := u.wdn.ibi } }))
        ∧ (i.hasDik = false → i.dikGen < 63 → Gives (.islandStart .pass) s (fun u => u.island.st = .operational
            ∧ u.island.dikGen = i.dikGen + 1 ∧ u.island.hasDik = true ∧ u.island.unlock = false
            ∧ u.wdn.ibi = w.ibi ++ [0x502, 0x102])
          ∧ Gives (.islandStart .pairFail) s (fun u => u.island.st = .hardErr ∧ u.island.dikGen = i.dikGen + 1
            ∧ u.island.hasDik = false ∧ u.wdn.ibi = w.ibi ++ [0x502, 0x302]))
        ∧ (i.hasDik = false → i.dikGen = 63 → Gives (.islandStart .pass) s (fun u => u.island.st = .hardErr ∧ u.island.dikGen = 63)))
      ∧ (i.imageOk w.islandImage = false ∨ i.hardAfter = true → Gives (.islandStart .pass) s hard)
      ∧ Gives (.islandStart .fail) s hard)
    ∧ (i.st = .selftest → ¬ on → Gives (.islandStart .pass) s (fun u => u = s))
    ∧ (on → i.st = .operational → i.busy = none →
        Gives (.periodicSelftest true) s (fun u => u = s) ∧ Gives (.periodicSelftest false) s hard
        ∧ Gives .healthTestFail s (fun u => u = { s with
            island := { i with st := .softErr }, wdn := { w with ibi := w.ibi ++ [0x202] } })
        ∧ Gives .tempExcursion s hard
        ∧ Gives (.selftest .wardenFw true) s (fun u => u = { s with island := { i with chal := none, done := true, result := 0 } })
        ∧ Gives (.selftest .wardenFw false) s (fun u => u = { s with
            island := { i with chal := none, st := .hardErr, done := false }, wdn := { w with ibi := w.ibi ++ [0x302] } }))
    ∧ (on → i.st = .operational → ∀ b, i.busy = some b → Gives .healthTestFail s (fun u => u = { s with
        island := { i with st := .softErr, busy := none }, wdn := { w with ibi := w.ibi ++ [0x202] } }))
    ∧ (on → i.st = .softErr → i.busy = none → Gives (.selftest .wardenFw true) s (fun u => u = { s with
        island := { i with chal := none, st := .operational, done := true, result := 0 }, wdn := { w with ibi := w.ibi ++ [0x102] } }))
    ∧ (i.st = .zeroizing → Gives .tempExcursion s (fun u => u = { s with island := { i with hardAfter := true } }))
    ∧ (i.st = .zeroizing → w.zeroHold = true → w.supply = true → w.sourceOn = false →
        (i.lidLatch = false → i.hardAfter = false → i.hasDik = false → i.dikGen < 63 → i.imageOk w.islandImage = true →
          Gives (.islandStart .pass) s (fun u => u.wdn.asserted = false ∧ u.wdn.zeroHold = false ∧ u.island.st = .operational
            ∧ u.island.dikGen = i.dikGen + 1 ∧ u.island.dbg = i.unlock))
        ∧ Gives (.islandStart .fail) s (fun u => u.wdn.asserted = false ∧ u.island.st = .hardErr ∧ u.island.dbg = i.unlock))

/-! ### The Proof Console -/

/-- Shadow writes, commits and flips (R655 to R665, R673): a legal shadow write is stored; GO is refused when the shadows describe memory beyond
the frame buffer, and otherwise waits for the first latch point that has seen it, where the active block becomes the shadow block but
keeps the Map's base in flip mode; a flip waits for its fence, and one that a commit to MODE 0 finds is dropped. While EN is 0 nothing waits. User software of a Press core is refused, and a tile's
write is ignored. -/
def Sys2Proof.Claims.ProofCommits : Prop :=
  ∀ (s : State) (p : Party) (o : Nat) (v : W32) (go fence : Bool),
    let x := s.proof
    let legal := p = .wardenFw ∨ p = .pressS ∨ p = .pressM
      ∨ (p = .hostPcie ∨ p = .hostWin) ∧ s.wdn.periphUp = true ∧ s.wdn.zeroWin = false
    let gives := fun (i : Instr) (y : Proof) => Gives i s (fun u => u = { s with proof := y })
    let wref := { x with stat := setBit x.stat 0 true }
    let act := if bit (blk x.active 0) 1 then sput x.shadow 1 (blk x.active 1) else x.shadow
    let y := { x with frame := x.frame + 1#32, vblank := true, goOld := true, fenceOld := true,
                      fencePix := if fence || x.fenceOld then x.fence else x.fencePix }
    let seen := x.pending = true ∧ (go = true ∨ x.goOld = true)
    let due := decide ((y.fencePix + 65536 - x.fid) % 65536 < 32768)
    let flipped := fun (b : Sparse W32) => sput b 1 (BitVec.ofNat 32 (x.flipBase * 4096))
    (legal → o < 0x100 → prfMask (o / 4) ≠ 0#32 →
      (x.pending = false → prfBad (o / 4) v = false → o / 4 ≠ 18 → gives (.prfShadowWrite p o v)
          { x with shadow := sput x.shadow (o / 4) (v &&& prfMask (o / 4)) })
      ∧ (x.pending = false → prfBad (o / 4) v = true → gives (.prfShadowWrite p o v) wref)
      ∧ (x.pending = true → gives (.prfShadowWrite p o v) { x with stat := setBit x.stat 2 true }))
    ∧ (legal → x.pending = false → goBad x.shadow = true → gives (.prfCommitGo p) wref)
    ∧ (legal → x.pending = false → goBad x.shadow = false → bit x.ctl 0 = true → gives (.prfCommitGo p) { x with pending := true, goOld := false })
    ∧ (legal → x.pending = false → goBad x.shadow = false → bit x.ctl 0 = false → x.req = false → gives (.prfCommitGo p)
        { x with active := act, cframe := x.frame, fencePix := x.fence, goOld := false })
    ∧ (legal → x.pending = true → gives (.prfCommitGo p) x)
    ∧ (bit x.ctl 0 = true →
      (seen → x.req = false → gives (.latchPoint go fence) { y with active := act, cframe := y.frame, pending := false })
      ∧ (seen → x.req = true → bit (blk act 0) 1 = false → gives (.latchPoint go fence)
          { y with active := act, cframe := y.frame, pending := false, req := false, stat := setBit x.stat 3 true })
      ∧ (seen → x.req = true → bit (blk act 0) 1 = true → due = true → gives (.latchPoint go fence)
          { y with active := flipped act, cframe := y.frame, pending := false, req := false, mapFframe := y.frame })
      ∧ (seen → x.req = true → bit (blk act 0) 1 = true → due = false → gives (.latchPoint go fence)
          { y with active := act, cframe := y.frame, pending := false })
      ∧ (¬ seen → x.req = true → bit (blk x.active 0) 1 = true → due = true → gives (.latchPoint go fence)
          { y with active := flipped x.active, req := false, mapFframe := y.frame })
      ∧ (¬ seen → x.req = false ∨ bit (blk x.active 0) 1 = false ∨ due = false → gives (.latchPoint go fence) y))
    ∧ (bit x.ctl 0 = false → gives (.latchPoint go fence) x)
    ∧ (legal → mapEnd x.active (bits v 25 16 * 4096) ≤ 0x400000 → bit x.ctl 0 = true → gives (.prfMapFlipWrite p v)
        { x with req := true, flipBase := bits v 25 16, fid := bits v 15 0 })
    ∧ (legal → 0x400000 < mapEnd x.active (bits v 25 16 * 4096) → gives (.prfMapFlipWrite p v) wref)
    ∧ (legal → bit x.ctl 0 = true → gives (.prfFenceSigWrite p v)
        { x with fence := bits v 15 0, fencePix := if x.fenceOld then x.fence else x.fencePix, fenceOld := false })
    ∧ (p = .pressU → ∀ i ∈ [Instr.prfCommitGo p, .prfMapFlipWrite p v, .prfFenceSigWrite p v, .prfShadowWrite p (o % 256) v], gives i wref)
    ∧ (p = .tileSelf ∨ p = .tileSw → ∀ i ∈ [Instr.prfCommitGo p, .prfMapFlipWrite p v, .prfFenceSigWrite p v, .prfShadowWrite p o v],
        Gives i s (fun u => u = s))

/-- The output and its registers (R661, R668 to R671, R674): EN is taken when the timing is valid and refused otherwise; PRF_PCLK needs EN 0 and
then LOCK again; a palette entry is one word; an AUX transaction runs alone and ends with its reply or a timeout. -/
def Sys2Proof.Claims.ProofOutput : Prop :=
  ∀ (s : State) (p : Party) (v : W32) (e : BitVec 8) (bank level : Bool) (code : BitVec 4) (b : Bytes),
    let x := s.proof
    let legal := p = .wardenFw ∨ p = .pressS ∨ p = .pressM
      ∨ (p = .hostPcie ∨ p = .hostWin) ∧ s.wdn.periphUp = true ∧ s.wdn.zeroWin = false
    let gives := fun (i : Instr) (y : Proof) => Gives i s (fun u => u = { s with proof := y })
    let wref := { x with stat := setBit x.stat 0 true }
    let c := setBit v 0 true &&& 0x737#32
    (legal → bits v 2 1 ≠ 3 → bits v 10 8 ≤ 4 →
      (x.timingOk c = true → gives (.proofEnable p v) { x with ctl := c })
      ∧ (x.timingOk c = false → gives (.proofEnable p v) wref)
      ∧ (x.pending = false → x.req = false → gives (.proofDisable p v)
          { x with ctl := setBit v 0 false &&& 0x737#32, vblank := false, fencePix := x.fence }))
    ∧ (legal → bit x.ctl 0 = false → gives (.prfPclkWrite p v) { x with pclk := bits v 17 0, lock := false, locking := true })
    ∧ (legal → bit x.ctl 0 = true → gives (.prfPclkWrite p v) wref)
    ∧ (x.locking = true → gives .pixelPllLock { x with lock := true, locking := false })
    ∧ (x.locking = false → gives .pixelPllLock x)
    ∧ (x.hpd ≠ level → gives (.hpdChange level) { x with hpd := level, stat := setBit x.stat 5 true })
    ∧ (x.hpd = level → gives (.hpdChange level) x)
    ∧ (legal → Gives (.prfPalWrite p bank e v) s (fun u => u = { s with proof := { x with pal := u.proof.pal } }
        ∧ sget 0#32 u.proof.pal (256 * b2n bank + e.toNat) = v
        ∧ ∀ k, k ≠ 256 * b2n bank + e.toNat → sget 0#32 u.proof.pal k = sget 0#32 x.pal k))
    ∧ (legal → x.auxBusy = false → bit v 31 = true → gives (.auxRequest p v)
        { x with auxCtl := v &&& 0x8FFFFFFF#32, auxBusy := true, auxTimeout := false })
    ∧ (legal → x.auxBusy = false → bit v 31 = false → gives (.auxRequest p v) { x with auxCtl := v &&& 0x8FFFFFFF#32 })
    ∧ (legal → x.auxBusy = true → gives (.auxRequest p v) { x with auxCtl := v &&& 0x8FFFFFFF#32 })
    ∧ (x.auxBusy = true → gives (.auxDone true code b) { x with auxBusy := false, auxTimeout := true }
        ∧ Gives (.auxDone false code b) s (fun u => u = { s with proof := { x with
            auxBusy := false, auxTimeout := false, auxCode := code.toNat, auxData := u.proof.auxData } }
          ∧ ∀ k, k < 16 → k < b.length → mget u.proof.auxData k = b.getD k 0#8))
    ∧ (x.auxBusy = false → ∀ t, gives (.auxDone t code b) x)
    ∧ (p = .pressU → ∀ i ∈ [Instr.proofEnable p v, .proofDisable p v, .prfPclkWrite p v, .prfPalWrite p bank e v, .auxRequest p v],
        gives i wref)

/-- COMPOSE_LINE (R650, R651, R654, R668): with no error in Warden memory and no test pattern the line is composed of one pixel per place of
the active width: the background alone where no layer is enabled, and the Map's palette entry where the Map at scale 1 covers the
pixel. While TPS selects a test pattern nothing composed is displayed. -/
def Sys2Proof.Claims.ProofLines : Prop :=
  ∀ (s : State) (y : Nat),
    let x := s.proof
    let a := x.active
    (bit x.ctl 0 = true → s.wdn.bad = [] → y < bits x.vtim0 12 0 → bits x.ctl 10 8 ≠ 0 →
      Gives (.composeLine y) s (fun u => u = { s with proof := { x with line := [], lineNo := y, vblank := false } }))
    ∧ (bit x.ctl 0 = true → s.wdn.bad = [] → y < bits x.vtim0 12 0 → bits x.ctl 10 8 = 0 →
      Gives (.composeLine y) s (fun u => u = { s with proof := { x with line := u.proof.line, lineNo := y, vblank := false } }
      ∧ u.proof.line.length = bits x.htim0 12 0
      ∧ (bit (blk a 0) 0 = false → bit (blk a 8) 0 = false → bit (blk a 16) 0 = false →
          ∀ i, i < bits x.htim0 12 0 → u.proof.line.getD i 0#32 = BitVec.ofNat 32 (bits x.bg 23 0))
      ∧ (bit (blk a 0) 0 = true → bits (blk a 0) 6 4 = 1 → bit (blk a 8) 0 = false → bit (blk a 16) 0 = false →
          ∀ i, i < bits x.htim0 12 0 → bits (blk a 4) 12 0 ≤ i → i < bits (blk a 4) 12 0 + bits (blk a 2) 10 0 →
            bits (blk a 4) 28 16 ≤ y → y < bits (blk a 4) 28 16 + bits (blk a 2) 26 16 →
            u.proof.line.getD i 0#32 = BitVec.ofNat 32 (bits (sget 0#32 x.pal (256 * b2n (bit (blk a 0) 2)
              + (mget s.wdn.sram (0x800000 + (bits (blk a 1) 21 12 * 4096 + bits (blk a 3) 11 0 * (y - bits (blk a 4) 28 16)
                  + (i - bits (blk a 4) 12 0)))).toNat)) 23 0))))
    ∧ (bit x.ctl 0 = false ∨ bits x.vtim0 12 0 ≤ y → Gives (.composeLine y) s (fun u => u = s))

/-- REGISTER_WRITE (R13, R57): a register named by its Global Address is written under its own rule: a field's event enables, a Rim die's
shadow bucket map, the governor's headroom; a GA that is malformed or names another Plate writes nothing. -/
def Obligations.RegisterWrites : Prop :=
  ∀ (s : State) (p : Party) (ga v : W64) (wide : Bool),
    let g := gaOf ga
    let lo := BitVec.ofNat 32 (bits v 31 0)
    let own := isOwn s.topoNow g.plate = true
    (g.bad 4 = true → Gives (.registerWrite p ga v false) s (fun u => u = s))
    ∧ (isOwn s.topoNow g.plate = false → Gives (.registerWrite p ga v wide) s (fun u => u = s))
    ∧ (own → g.bad 4 = false → g.space = 2 → g.off = 0x304 → p = .wardenFw ∨ p = .pressS ∨ p = .pressM →
      (s.fld (fieldAt g.y g.x)).rst = false →
      Gives (.registerWrite p ga v false) s (fun u => OnlyField (fieldAt g.y g.x) s u
        ∧ u.fld (fieldAt g.y g.x) = { s.fld (fieldAt g.y g.x) with evtEn := lo &&& 0x1FF#32 }))
    ∧ (own → g.bad 4 = false → g.space = 4 → (s.rim g.x).rst = false → p = .wardenFw → ∀ i, i < 8 → g.off = 0x40 + 4 * i →
      Gives (.registerWrite p ga v false) s (fun u => OnlyRim g.x s u
        ∧ u.rim g.x = { s.rim g.x with bktSh := sput (s.rim g.x).bktSh i lo }))
    ∧ (own → g.bad 4 = false → g.space = 5 → g.off = 0x208 →
      p = .wardenFw ∨ (p = .hostPcie ∨ p = .hostWin) ∧ s.wdn.periphUp = true ∧ s.wdn.zeroWin = false →
      Gives (.registerWrite p ga v false) s (fun u => u = { s with wdn := { s.wdn with headroom := bits lo 7 0 } }))
    ∧ (own → g.bad 4 = false → g.space = 5 → g.off = 0x208 → p ∉ [Party.wardenFw, .hostPcie, .hostWin] →
      Gives (.registerWrite p ga v false) s (fun u => u = { s with wdn := { s.wdn with rstRef := true } }))
    ∧ (own → g.bad 8 = false → g.space = 5 → p = .wardenFw → ∀ k, k < 16 → g.off = 0x400 + 8 * k →
      Gives (.registerWrite p ga v true) s (fun u => u = { s with wdn := { s.wdn with keep := sput s.wdn.keep k v } }))
    ∧ (g.off % 8 ≠ 0 → Gives (.registerWrite p ga v true) s (fun u => u = s))

/-! ### The Krovas tray controller -/

/-- The host's commands (R616, R618 to R621, R632, R639, R641, R645, R646, Tables 16.1 to 16.4): each is answered with its tag, its Krovas code and its
Redfish status; a repeated tag gets the stored answer; power commands switch the package when nothing forbids it, and turn it off
where the fabric manager has asked for off within 5 s; reads are served; a setting in its range is kept; the link class belongs to
the fabric manager, but for a topology record while none is stored. A trial, a fallback or an orphan action answers BUSY, maintenance
hold HOLD, but for reads and a new staging; with no Krovas image that verifies only a staging is taken. In the statuses, in the power
record and in how long an orphan action lasts the model's choice is log entries 31 and 33. -/
def Sys2Proof.Claims.KrovasHost : Prop :=
  ∀ (s : State) (tag v : W32) (item : ReadItem) (which : Setting) (fs : FwSet) (ty : ResetType) (mask : BitVec 4) (fm : BitVec 10),
    let k := s.krovas
    let links := [Instr.bypassIn .host tag mask, .bypassOut .host tag mask]
    let owned := [Instr.redfishOn ⟨tag, ty⟩, .forceOff tag, .forceRestart tag, .settingsWrite tag which v, .setTopo .host tag v fm] ++ links
    let cmds := owned ++ [.powerCycle tag, .firmwarePush tag fs]
    let http := fun (st : Nat) => [204, 403, 409, 409, 503, 503, 400, 409].getD st 400
    let answers := fun (u : State) (st : Nat) => u.krovas.hostOut = k.hostOut ++ [{ tag := tag.toNat, status := st, http := http st }]
      ∧ u.krovas.lastHost = some { tag := tag.toNat, status := st } ∧ u.fuses = s.fuses
    let only := fun (c : Instr) (st : Nat) => Gives c s (fun u => answers u st
      ∧ u = { s with krovas := { k with hostOut := u.krovas.hostOut, lastHost := u.krovas.lastHost } })
    let idle := k.trial = false ∧ k.fallback = false ∧ k.actTill ≤ k.now
    let free := idle ∧ k.hold = false
    let beat := if k.pwr && s.wdn.answers then k.readHb s.wdn.hb else k
    let calm := k.unsafe_ = false ∧ k.conflict .host true = none
    let keeps := fun (c : Instr) (g : Settings → Settings) => Gives c s (fun u => answers u 0
      ∧ u.krovas.settings = g k.settings ∧ u = { s with krovas := u.krovas } ∧ u.krovas.run = k.run ∧ u.krovas.pwr = k.pwr)
    let setting := keeps (.settingsWrite tag which v)
    let n := 1 - k.run
    let asked : PwCmd := { on := true, tag := tag.toNat, at_ := k.now }
    (k.standby = false → ∀ c ∈ Instr.redfishRead tag item :: cmds, Gives c s (fun u => u = s))
    ∧ (k.romOnly = true → ∀ c ∈ Instr.redfishRead tag item :: .powerCycle tag :: owned, Gives c s (fun u => u = s))
    ∧ (∀ a, k.standby = true → k.romOnly = false → k.lastHost = some a → a.tag = tag.toNat →
        (∀ c ∈ cmds, Gives c s (fun u => u = { s with krovas := { k with
          hostOut := k.hostOut ++ [{ tag := a.tag, status := a.status, http := http a.status }] } }))
        ∧ Gives (.redfishRead tag item) s (fun u => u = { s with krovas := { k with hostOut := u.krovas.hostOut } }
          ∧ ∃ h, u.krovas.hostOut = k.hostOut ++ [{ tag := a.tag, status := a.status, http := h }]))
    ∧ (k.standby = true → k.romOnly = false → (∀ a, k.lastHost = some a → a.tag ≠ tag.toNat) →
      (k.trial = true ∨ k.fallback = true → k.pwr = true → ∀ c ∈ cmds, only c 4)
      ∧ (k.now < k.actTill → ∀ c ∈ cmds, only c 4)
      ∧ (k.hold = true → idle → ∀ c ∈ owned, only c 5)
      ∧ (k.hold = true → idle → (k.bank n).st ≠ .staged → only (.powerCycle tag) 5)
      ∧ Gives (.redfishRead tag item) s (fun u => u.krovas.readOut = s.readWords item
          ∧ u.krovas.lastHost = some { tag := tag.toNat, status := 0 }
          ∧ u.krovas.hostOut = k.hostOut ++ [{ tag := tag.toNat, status := 0, http := 200 }]
          ∧ u.krovas.seenHw = (if k.pwr && s.wdn.answers then some (k.now, s.hwTel) else k.seenHw)
          ∧ u.krovas.seenFw = (if k.pwr && s.wdn.fwRuns then some (k.now, s.fwTel) else k.seenFw)
          ∧ u = { s with krovas := { beat with
              hostOut := u.krovas.hostOut, lastHost := u.krovas.lastHost, readOut := u.krovas.readOut,
              seenHw := u.krovas.seenHw, seenFw := u.krovas.seenFw } })
      ∧ (free → ty = .other → only (.redfishOn ⟨tag, ty⟩) 6)
      ∧ (free → k.unsafe_ = true → (ty = .on → only (.redfishOn ⟨tag, ty⟩) 2) ∧ only (.powerCycle tag) 2)
      ∧ (free → calm → ty = .on → k.pwr = true ∨ (k.bank n).st ≠ .staged → Gives (.redfishOn ⟨tag, ty⟩) s (fun u => answers u 0
          ∧ u = { s with krovas := { k with
              pwr := true, pwHost := some asked, hostOut := u.krovas.hostOut, lastHost := u.krovas.lastHost } }))
      ∧ (free → k.unsafe_ = false → k.conflict .host true ≠ none → ty = .on →
        (k.pwr = true → Gives (.redfishOn ⟨tag, ty⟩) s (fun u => answers u 3 ∧ u.krovas.pwr = false ∧ u.wdn.cls = .por
            ∧ u.wdn.asserted = true ∧ u.krovas.pwHost = some asked))
        ∧ (k.pwr = false → Gives (.redfishOn ⟨tag, ty⟩) s (fun u => answers u 3 ∧ u = { s with krovas := { k with
              pwHost := some asked, hostOut := u.krovas.hostOut, lastHost := u.krovas.lastHost } })))
      ∧ (free → k.pwr = true → Gives (.forceOff tag) s (fun u => answers u 0 ∧ u.krovas.pwr = false ∧ u.wdn.cls = .por
          ∧ u.wdn.asserted = true ∧ u.krovas.drv &&& 0x0F#8 = 0#8))
      ∧ (free → k.pwr = false → Gives (.forceOff tag) s (fun u => answers u 0 ∧ u.krovas.pwr = false ∧ u = { s with krovas := u.krovas }))
      ∧ (free → calm → (k.bank n).st ≠ .staged → Gives (.powerCycle tag) s (fun u => answers u 0 ∧ u.krovas.pwr = true
          ∧ (k.pwr = true → u.wdn.cls = .por ∧ u.wdn.asserted = true)))
      ∧ (free → calm → k.pwr = true → s.wdn.trayLow = false → s.wdn.governs .tray = true → Gives (.forceRestart tag) s (fun u =>
          answers u 0 ∧ u.wdn.cls = .tray ∧ u.wdn.asserted = false ∧ u.krovas.pwr = true ∧ u.wdn.ground = s.wdn.ground))
      ∧ (free → k.pwr = false → only (.forceRestart tag) 7)
      ∧ (free → which = .orphanT → (1 ≤ v.toNat → v.toNat ≤ 120 → setting (fun c => { c with orphanT := v.toNat }))
          ∧ (v.toNat = 0 ∨ 120 < v.toNat → only (.settingsWrite tag which v) 6))
      ∧ (free → which = .hbT → 10 ≤ v.toNat → v.toNat ≤ 300 → setting (fun c => { c with hbT := v.toNat }))
      ∧ (free → which = .trialT → 1 ≤ v.toNat → v.toNat ≤ 30 → setting (fun c => { c with trialT := v.toNat }))
      ∧ (free → which = .trayPmax → 2500 ≤ v.toNat → v.toNat ≤ 11 * Config.skuCap s.sku →
          setting (fun c => { c with trayPmax := v.toNat }))
      ∧ (free → which = .policy → v.toNat ≤ 2 → setting (fun c => { c with policy := v.toNat }))
      ∧ (free → which = .topology → k.settings.topo = none → bit v 31 = true → onTorus v (bits v 9 0) = true →
          setting (fun c => { c with topo := some (v, k.fmPend) }))
      ∧ (free → which = .topology → k.settings.topo.isSome = true → only (.settingsWrite tag which v) 1)
      ∧ (free → (∀ c ∈ links, only c 1) ∧ (k.settings.topo.isSome = true → only (.setTopo .host tag v fm) 1))
      ∧ (free → k.settings.topo = none → (topoOk v = false → only (.setTopo .host tag v fm) 6)
          ∧ (topoOk v = true → keeps (.setTopo .host tag v fm) (fun c => { c with topo := some (v, fm.toNat) }))))
    ∧ (k.standby = true → (∀ a, k.lastHost = some a → a.tag ≠ tag.toNat) → idle →
      (k.hold = false → s.wdn.fwRuns = false → only (.firmwarePush tag fs) 7)
      ∧ (k.hold = true ∨ s.wdn.fwRuns = true → Gives (.firmwarePush tag fs) s (fun u =>
          sget [] u.wdn.imgs (8 * n) = fs.warden ∧ sget [] u.wdn.imgs (8 * n + 3) = fs.manifest
          ∧ (answers u 0 ∧ (u.krovas.bank n).st = .staged ∧ (u.krovas.bank n).krovas = fs.krovas
              ∨ answers u 6 ∧ (u.krovas.bank n).st = .empty)
          ∧ (leNat (((fs.manifest.drop 256).drop 8).take 2) ≠ 5 → answers u 6)
          ∧ u.krovas.bank k.run = k.bank k.run)))

/-- The fabric manager's commands (R616 to R619, R622 to R624, R634, R635, R637): each is answered with its tag, by a response frame to the
Plate it came from; from any other Plate than the one of the topology record it gets PREC and nothing else happens; bypass is
always granted, through only with no safety condition standing, the package on and out of reset, and is answered when the switches
are there; POWER_OFF stands above a host's On of the last 5 s, which is answered again. -/
def Sys2Proof.Claims.KrovasFabric : Prop :=
  ∀ (s : State) (src : Nat) (tag t : W32) (mask : BitVec 4) (fm : BitVec 10) (period : BitVec 16),
    let k := s.krovas
    let cmds := [(Instr.bypassIn (.plate src) tag mask, 2), (.bypassOut (.plate src) tag mask, 3), (.setTopo (.plate src) tag t fm, 4),
      (.powerOff src tag, 5)]
    let reads := [(Instr.hello src tag, 1), (.telemSub src tag period, 6)]
    let tells := fun (u : State) (code : Nat) (a : KAns) => u.krovas.fmOut = k.fmOut ++ [a]
      ∧ u.krovas.frameOut = k.frameOut ++ [(src, respFrame code a)] ∧ u.fuses = s.fuses
    let answers := fun (u : State) (code st arg : Nat) => tells u code { tag := tag.toNat, status := st, arg0 := arg }
      ∧ u.krovas.lastFm = some { tag := tag.toNat, status := st, arg0 := arg } ∧ u.krovas.fmTag = some tag.toNat
    let said := fun (x y : Krovas) => { y with fmOut := x.fmOut, frameOut := x.frameOut, lastFm := x.lastFm, fmTag := x.fmTag }
    let gives := fun (c : Instr) (code st arg : Nat) (y : Krovas) =>
      Gives c s (fun u => answers u code st arg ∧ u = { s with krovas := said u.krovas y })
    let only := fun (c : Instr × Nat) (st : Nat) => gives c.1 c.2 st 0 k
    let idle := k.trial = false ∧ k.fallback = false ∧ k.actTill ≤ k.now
    let free := idle ∧ k.hold = false
    let on := k.standby = true ∧ k.romOnly = false
    let mine := k.settings.topo = none ∨ k.settings.topo.map (·.2) = some src
    (¬ on → ∀ c ∈ reads ++ cmds, Gives c.1 s (fun u => u = s))
    ∧ (∀ v p, on → k.settings.topo = some (v, p) → p ≠ src → ∀ c ∈ reads ++ cmds, Gives c.1 s (fun u =>
        tells u c.2 { tag := tag.toNat, status := 1 }
        ∧ u = { s with krovas := { k with fmOut := u.krovas.fmOut, frameOut := u.krovas.frameOut } }))
    ∧ (∀ e ∈ k.wait, on → mine → e.tag = tag.toNat → ∀ c ∈ reads ++ cmds, Gives c.1 s (fun u => u = s))
    ∧ (∀ a, on → mine → k.wait = [] → k.lastFm = some a → a.tag = tag.toNat → ∀ c ∈ reads ++ cmds,
        Gives c.1 s (fun u => tells u c.2 a ∧ u = { s with krovas := { k with fmOut := u.krovas.fmOut, frameOut := u.krovas.frameOut } }))
    ∧ (on → mine → k.wait = [] → (∀ a, k.lastFm = some a → a.tag ≠ tag.toNat) →
      (k.trial = true ∨ k.fallback = true → k.pwr = true → ∀ c ∈ cmds, only c 4)
      ∧ (k.now < k.actTill → ∀ c ∈ cmds, only c 4)
      ∧ (k.hold = true → idle → ∀ c ∈ cmds, only c 5)
      ∧ only (.hello src tag, 1) 0
      ∧ gives (.telemSub src tag period) 6 0 0 { k with telPeriod := period.toNat, telTo := src }
      ∧ (free →
        gives (.bypassIn (.plate src) tag mask) 2 0 0 { k with drv := k.drv &&& ~~~(mask.setWidth 8) }
        ∧ (k.unsafe_ = true → only (.bypassOut (.plate src) tag mask, 3) 2)
        ∧ (k.unsafe_ = false → k.pwr = false ∨ s.wdn.rstOut = true → only (.bypassOut (.plate src) tag mask, 3) 7)
        ∧ (k.pwr = true → s.wdn.rstOut = false → k.unsafe_ = false →
            (k.pos &&& mask.setWidth 8 = mask.setWidth 8 →
              gives (.bypassOut (.plate src) tag mask) 3 0 0 { k with drv := k.drv ||| mask.setWidth 8 })
            ∧ (k.pos &&& mask.setWidth 8 ≠ mask.setWidth 8 → Gives (.bypassOut (.plate src) tag mask) s (fun u =>
                u = { s with krovas := { k with drv := k.drv ||| mask.setWidth 8, fmTag := some tag.toNat, lastFm := none,
                                                wait := [{ tag := tag.toNat, mask := mask.toNat, src := src }] } })))
        ∧ (topoOk t = false → only (.setTopo (.plate src) tag t fm, 4) 6)
        ∧ (topoOk t = true → bit s.topoNow 31 = true → Gives (.setTopo (.plate src) tag t fm) s (fun u => answers u 4 0 1
            ∧ u.krovas.settings.topo = some (t, fm.toNat) ∧ u = { s with krovas := u.krovas }))
        ∧ (topoOk t = true → bit s.topoNow 31 = false → k.pwr = false → Gives (.setTopo (.plate src) tag t fm) s (fun u =>
            answers u 4 0 0 ∧ u.krovas.settings.topo = some (t, fm.toNat) ∧ u = { s with krovas := u.krovas }))
        ∧ (topoOk t = true → bit s.topoNow 31 = false → k.pwr = true → s.wdn.fwRuns = true →
            Gives (.setTopo (.plate src) tag t fm) s (fun u => answers u 4 0 0 ∧ u.wdn.topoRec = some (t, fm.toNat)))
        ∧ (k.pwr = true → Gives (.powerOff src tag) s (fun u => u.krovas.pwr = false ∧ u.wdn.cls = .por ∧ u.wdn.asserted = true
            ∧ u.krovas.pwFm = some { on := false, tag := tag.toNat, at_ := k.now } ∧ answers u 5 0 0
            ∧ (k.conflict .fm false = none → u.krovas.hostOut = k.hostOut)
            ∧ ∀ c, k.conflict .fm false = some c →
                u.krovas.hostOut = k.hostOut ++ [{ tag := c.tag, status := 3, http := 409 }]))
        ∧ (k.pwr = false → k.conflict .fm false = none → gives (.powerOff src tag) 5 0 0
            { k with pwFm := some { on := false, tag := tag.toNat, at_ := k.now } })))

/-- Safety (R630 to R633, R636, R635, R615, Table 16.5): coolant above 45 °C, a package above 110 °C or a leak switches the package off
while Krovas runs; tray power above TRAY_PMAX drives the power alert; the third orphan reset in a day ends with the package off; a
bypass switch that does not follow its drive is logged as failed and goes to bypass. -/
def Sys2Proof.Claims.KrovasSafety : Prop :=
  ∀ (s : State) (inlet c t : Int) (leak : Bool) (w : Nat) (d : DieId),
    let k := s.krovas
    let trips := [(Instr.coolantOvertemp ⟨inlet, c⟩, decide (45 < c), fun (x : Krovas) => x.coolant),
      (.packageOvertemp t, decide (110 < t), fun x => x.pkgHot), (.leakOrSupplyFault leak, leak, fun x => x.leak)]
    let off := fun (u : State) => u.krovas.pwr = false ∧ u.wdn.cls = .por ∧ u.wdn.asserted = true ∧ u.krovas.drv &&& 0x0F#8 = 0#8
      ∧ u.fuses = s.fuses
    let setK := fun (i : Instr) (x : Krovas) => Gives i s (fun u => u = { s with krovas := x })
    (k.standby = true →
      (k.pwr = true → ∀ e ∈ trips, e.2.1 = true →
        Gives e.1 s (fun u => off u ∧ e.2.2 u.krovas = true ∧ KEvent.powerOff ∈ u.krovas.log))
      ∧ (∀ e ∈ trips, e.2.1 = false ∨ k.pwr = false → Gives e.1 s (fun u => e.2.2 u.krovas = e.2.1 ∧ u.krovas.pwr = k.pwr
          ∧ u = { s with krovas := u.krovas } ∧ u.krovas.banks = k.banks ∧ u.krovas.log = k.log))
      ∧ Gives (.coolantOvertemp ⟨inlet, c⟩) s (fun u => u.krovas.inletT = inlet ∧ u.krovas.coolantT = c)
      ∧ Gives (.packageOvertemp t) s (fun u => u.krovas.pkgT = t)
      ∧ (k.settings.trayPmax < w → Gives (.trayOverpower w) s (fun u => u.krovas = { k with trayW := w, overP := true, alertLow := true }
          ∧ u.wdn.alert = true ∧ u.wdn.alertPin = true ∧ (s.wdn.alert = false → ∀ g : FieldId, u.ceilOf g.val = 0)
          ∧ u = { s with krovas := u.krovas, wdn := u.wdn, fields := u.fields }
          ∧ ∀ g, u.fld g = { s.fld g with down := (u.fld g).down }))
      ∧ (w ≤ k.settings.trayPmax → setK (.trayOverpower w) { k with trayW := w, overP := false })
      ∧ (w < k.settings.trayPmax → Gives (.trayPowerNormal w) s (fun u => u = { s with
          krovas := { k with trayW := w, overP := false, alertLow := false }, wdn := { s.wdn with alertPin := false } }))
      ∧ (k.settings.trayPmax ≤ w → setK (.trayPowerNormal w) { k with trayW := w })
      ∧ (let low := decide (s.island.st = .softErr ∨ s.island.st = .hardErr)
         setK .sisErrNChange { k with sisErr := low, log := k.log ++ [.sisErr low] })
      ∧ (k.ready = true → k.hbSeen = none ∨ k.hbSeen = some s.wdn.hb → setK .heartbeatStall { k with stall := true })
      ∧ (k.ready = false → setK .heartbeatStall k)
      ∧ (∀ h, k.hbSeen = some h → h ≠ s.wdn.hb → setK .heartbeatStall k)
      ∧ (k.pwr = true → k.lockstep = true ∨ k.stall = true ∨ k.noReady = true → s.wdn.trayLow = false → s.wdn.governs .tray = true →
        (k.orphans = [] → Gives .orphanTimeout s (fun u => u.wdn.cls = .tray ∧ u.wdn.asserted = false ∧ u.krovas.pwr = true
            ∧ u.krovas.drv &&& 0x0F#8 = 0#8 ∧ u.krovas.orphans = [k.now] ∧ u.krovas.actTill = k.now + 1000 ∧ u.krovas.lockstep = false ∧ u.krovas.stall = false))
        ∧ (∀ a b, k.orphans = [a, b] → k.now < a + 8640000000000 → k.now < b + 8640000000000 →
            Gives .orphanTimeout s (fun u => off u ∧ u.krovas.orphans = [a, b, k.now] ∧ KEvent.orphan ∈ u.krovas.log)))
      ∧ (k.lockstep = false → k.stall = false → k.noReady = false → Gives .orphanTimeout s (fun u => u = s))
      ∧ (bit k.pos d.val ≠ bit k.drv d.val → k.wait = [] → setK (.bypassMismatch d) { k with
          drv := k.drv &&& ~~~(BitVec.ofNat 8 (2 ^ d.val)), failed := setBit k.failed d.val true, log := k.log ++ [.bypFail d.val] })
      ∧ (bit k.pos d.val = bit k.drv d.val → setK (.bypassMismatch d) k)
      ∧ (s.wdn.rstOut = true → k.wait = [] → setK .plateRstOutAssert { k with drv := k.drv &&& ~~~0x0F#8 })
      ∧ (s.wdn.rstOut = false → setK .plateRstOutAssert k)
      ∧ Gives .standbyLoss s (fun u => off u ∧ u.krovas.standby = false ∧ u.krovas.pos = 0#8 ∧ u.krovas.wasOn = k.pwr
          ∧ u.krovas.run = k.run ∧ ∀ n, n < 2 → u.krovas.bank n = if (k.bank n).st = .staging then {} else k.bank n))
    ∧ (k.standby = false →
      (∀ i ∈ [Instr.coolantOvertemp ⟨inlet, c⟩, .packageOvertemp t, .leakOrSupplyFault leak, .trayOverpower w, .trayPowerNormal w,
          .sisErrNChange, .heartbeatStall, .orphanTimeout, .trialTimeout, .bypassMismatch d, .plateRstOutAssert, .standbyLoss,
          .krovasIbi, .telemetryFrame], Gives i s (fun u => u = s))
      ∧ (k.settings.policy = 0 ∨ k.hold = true ∨ k.unsafe_ = true → setK .standbyRestore { k with standby := true })
      ∧ (k.settings.policy = 1 ∨ k.settings.policy = 2 ∧ k.wasOn = true → k.hold = false → k.unsafe_ = false → (k.bank (1 - k.run)).st ≠ .staged →
          (k.trial = true → (k.bank k.run).committed = true) →
          setK .standbyRestore { k with standby := true, pwr := true }))
    ∧ (k.standby = true → Gives .standbyRestore s (fun u => u = s))

/-- Firmware sets in use (R625, R629, R637, R638, R641 to R645, Tables 16.8 to 16.10): a POWER_CYCLE activates a STAGED set, whose trial ends
in ACTIVE once HBCOUNT advances after READY, or with a rejection and the return to the other bank; a fallback that fails ends in
maintenance hold; in-band interrupts are taken in order, and with READY the Warden gets the stored topology record; bypass
positions and telemetry are reported, what the Warden no longer answers as last read. In the reading before the first one the
model's choice is log entry 33. -/
def Sys2Proof.Claims.KrovasSets : Prop :=
  ∀ (s : State) (tag : W32) (d : DieId) (b : Nat) (rest : List Nat),
    let k := s.krovas
    let n := 1 - k.run
    let rejected := fun (u : State) (why : Nat) => u.krovas.run = n ∧ u.krovas.trial = false ∧ u.krovas.fallback = true
      ∧ u.krovas.pwr = true ∧ (u.krovas.bank k.run).st = .rejected ∧ (u.krovas.bank k.run).reason = why ∧ u.wdn.cls = .por
    let held := fun (u : State) => u.krovas.hold = true ∧ u.krovas.fallback = false ∧ u.krovas.pwr = false ∧ u.wdn.cls = .por
    let next := (k.bank n).imageOk = true
    let beat := if k.pwr && s.wdn.answers then k.readHb s.wdn.hb else k
    let setK := fun (i : Instr) (x : Krovas) => Gives i s (fun u => u = { s with krovas := x })
    k.standby = true → k.run < 2 →
    (k.trial = false → k.fallback = false → k.unsafe_ = false → k.conflict .host true = none →
      (∀ a, k.lastHost = some a → a.tag ≠ tag.toNat) → k.romOnly = false → k.actTill ≤ k.now → (k.bank n).st = .staged →
      (k.bank k.run).st ≠ .staging → (k.bank n).committed = false →
      ((k.bank n).imageOk = true → manifestHas (k.bank n).manifest 5 (k.bank n).krovas = true →
        (k.bank n).migMin ≤ (k.bank k.run).copySchema →
        Gives (.powerCycle tag) s (fun u => u.krovas.run = n ∧ u.krovas.trial = true ∧ u.krovas.pwr = true ∧ u.krovas.hold = false
          ∧ (u.krovas.bank n).st = .trial ∧ (u.krovas.bank n).copy = (k.bank k.run).copy ∧ (u.krovas.bank n).committed = true
          ∧ (u.krovas.bank n).copySchema = (k.bank n).schema ∧ u.krovas.bank k.run = k.bank k.run))
      ∧ (∀ why, why = (if (k.bank n).imageOk = false then 1 else if manifestHas (k.bank n).manifest 5 (k.bank n).krovas = false then 2
            else if (k.bank k.run).copySchema < (k.bank n).migMin then 3 else 0) → why ≠ 0 → (k.bank k.run).imageOk = true →
        Gives (.powerCycle tag) s (fun u => u.krovas.run = k.run ∧ (u.krovas.bank n).st = .rejected
          ∧ (u.krovas.bank n).reason = why ∧ u.krovas.pwr = true ∧ u.krovas.fallback = true)))
    ∧ (k.pwr = true → s.wdn.ibi = b :: rest →
      (b % 256 = 6 → k.settings.topo = none → Gives .krovasIbi s (fun u => u = { s with
          krovas := { k with ready := true, noReady := false, hbSeen := none, log := k.log ++ [.ready] },
          wdn := { s.wdn with ibi := rest } }))
      ∧ (∀ t fm, b % 256 = 6 → k.settings.topo = some (t, fm) → fm < 1024 → s.wdn.fwRuns = true →
          Gives .krovasIbi s (fun u => u.krovas.ready = true ∧ u.wdn.ibi = rest ∧ u.wdn.topoRec = some (t, fm)))
      ∧ (b % 256 = 3 → Gives .krovasIbi s (fun u => u = { s with
          krovas := { k with lockstep := true, log := k.log ++ [.lockstep] }, wdn := { s.wdn with ibi := rest } }))
      ∧ (b % 256 = 4 → Gives .krovasIbi s (fun u => u = { s with
          krovas := { k with log := k.log ++ [.overCap] }, wdn := { s.wdn with ibi := rest } }))
      ∧ (b % 256 = 2 → b / 256 ≠ 3 → Gives .krovasIbi s (fun u => u = { s with
          krovas := { k with islandSt := b / 256, log := k.log ++ [.islandState (b / 256)] }, wdn := { s.wdn with ibi := rest } }))
      ∧ (b % 256 = 5 → k.trial = true → next → Gives .krovasIbi s (fun u => rejected u 4))
      ∧ (b % 256 = 5 → k.trial = false → k.fallback = true → Gives .krovasIbi s held)
      ∧ (b % 256 = 2 → b / 256 = 3 → k.trial = true → next → Gives .krovasIbi s (fun u => rejected u 5)))
    ∧ (k.pwr = true →
      (k.trial = true → next → Gives .trialTimeout s (fun u => rejected u 6))
      ∧ (k.trial = true → (k.bank n).imageOk = false → (k.bank n).st ≠ .staging → Gives .trialTimeout s (fun u => held u
          ∧ (u.krovas.bank k.run).st = .rejected ∧ (u.krovas.bank k.run).reason = 6))
      ∧ (k.trial = false → k.fallback = true → Gives .trialTimeout s held)
      ∧ (k.trial = false → k.fallback = false → k.ready = false → setK .trialTimeout { k with noReady := true })
      ∧ (k.trial = false → k.fallback = false → k.ready = true → setK .trialTimeout k))
    ∧ (k.pwr = true → s.wdn.answers = true → k.ready = true →
      (k.hbSeen = none ∨ k.hbSeen = some s.wdn.hb → Gives .getState s (fun u =>
        u.krovas = { k with seenHw := u.krovas.seenHw, seenFw := u.krovas.seenFw, hbSeen := some s.wdn.hb }))
      ∧ (∀ h, k.hbSeen = some h → h ≠ s.wdn.hb → Gives .getState s (fun u => u.krovas.stall = false
          ∧ u.krovas.trial = false ∧ u.krovas.hbSeen = some s.wdn.hb ∧ u.krovas.seenHw = some (k.now, s.hwTel)
          ∧ (k.trial = true → (u.krovas.bank k.run).st = .active)
          ∧ (k.trial = false → u.krovas.fallback = false ∧ u.krovas.banks = k.banks))))
    ∧ (bit k.pos d.val = false → bit k.drv d.val = true → s.wdn.rstOut = false →
      (k.wait = [] → setK (.bypPosChange d true)
        { k with pos := setBit k.pos d.val true, log := k.log ++ [.bypPos d.val true] })
      ∧ (∀ t p, k.wait = [{ tag := t, mask := 2 ^ d.val, src := p }] → Gives (.bypPosChange d true) s (fun u => u.krovas.wait = []
          ∧ u.krovas.fmOut = k.fmOut ++ [{ tag := t, status := 0 }] ∧ bit u.krovas.pos d.val = true
          ∧ u.krovas.frameOut = k.frameOut ++ [(p, respFrame 3 { tag := t, status := 0 })]
          ∧ (k.fmTag ≠ some t → u.krovas.lastFm = k.lastFm))))
    ∧ (bit k.pos d.val = false → bit k.drv d.val = false ∨ s.wdn.rstOut = true → setK (.bypPosChange d true) k)
    ∧ (bit k.pos d.val = true → Gives (.bypPosChange d false) s (fun u => bit u.krovas.pos d.val = false
        ∧ KEvent.bypPos d.val false ∈ u.krovas.log ∧ u = { s with krovas := u.krovas }))
    ∧ (k.telPeriod ≠ 0 → Gives .telemetryFrame s (fun u => ∃ f : TelFrame, u = { s with krovas := { beat with
            telOut := k.telOut ++ [f], frameOut := k.frameOut ++ [(k.telTo, telBytes f)], seenHw := u.krovas.seenHw, seenFw := u.krovas.seenFw } }
          ∧ f.trayW = k.trayW ∧ f.coolant = k.coolantT ∧ f.sisErr = k.sisErr ∧ f.setVer = (k.bank k.run).setVer
          ∧ (k.pwr = true → s.wdn.answers = true → f.hw = { val := s.hwTel, stale := false, age := 0 }
              ∧ u.krovas.seenHw = some (k.now, s.hwTel))
          ∧ (k.pwr = true → s.wdn.fwRuns = true → f.rim.stale = false ∧ f.rim.age = 0
              ∧ f.rim.val = (s.fwTel.portUp, s.fwTel.rimStat, s.fwTel.evtRim))
          ∧ (k.pwr = false → u.krovas.seenHw = k.seenHw ∧ f.hw.stale = true ∧ f.rim.stale = true
              ∧ (∀ t g, k.seenHw = some (t, g) → f.hw.val = g ∧ f.hw.age = k.now - t)
              ∧ ∀ t g, k.seenFw = some (t, g) → f.rim.val = (g.portUp, g.rimStat, g.evtRim) ∧ f.rim.age = k.now - t)))
    ∧ (k.telPeriod = 0 → Gives .telemetryFrame s (fun u => u = s))

/-! ### Epochs and column maps -/

/-- The epoch sequencer (R590, R591, R593, Tables 15.4, 15.5): it runs one epoch at a time, in the order of the roots' events; the commit reaches
every live field and every die once, where shadow registers that differ become active, on a die with no failover under way; a bucket
that has moved waits for its earlier frames; when all have answered, the root sends its release with the epoch's own LASTF and CUT,
unless its field has been reset since. -/
def Sys2Proof.Claims.Epochs : Prop :=
  ∀ (s : State) (f : FieldId) (d : DieId) (e : EpochEv) (rest : List EpochEv),
    let w := s.wdn
    let c := s.fld f.val
    let x := s.rim d.val
    (w.ep = none → s.epochQ = e :: rest → Gives .epochBegin s (fun u =>
        u = { s with epochQ := rest, wdn := { w with ep := some e, epF := u.wdn.epF, epM := [], epD := u.wdn.epD } }
        ∧ (∀ g : FieldId, g.val ∈ u.wdn.epF ↔ bit w.dead g.val = false)
        ∧ ∀ h : DieId, h.val ∈ u.wdn.epD ↔ (s.rim h.val).rst = false))
    ∧ (w.ep = some e ∨ s.epochQ = [] → Gives .epochBegin s (fun u => u = s))
    ∧ (f.val ∈ w.epF → c.rst = false → Gives (.epochCommit (.field f)) s (fun u => OnlyField f.val { s with wdn := u.wdn } u
        ∧ u.fld f.val = { c with sealAct := c.sealSh, sealdone := c.sealdone || decide (c.sealSh ≠ c.sealAct),
                                 ecnt := (c.ecnt + 1) % 65536 }
        ∧ u.wdn = { w with epF := w.epF.filter (· != f.val),
                           epM := if c.colmapSh = c.colmap then w.epM else w.epM ++ [f.val] }))
    ∧ (f.val ∉ w.epF ∨ c.rst = true → Gives (.epochCommit (.field f)) s (fun u => u = s))
    ∧ (d.val ∈ w.epD → x.rst = false →
      (x.bktSh = x.bkt → Gives (.epochCommit (.die d)) s (fun u => OnlyRim d.val { s with wdn := u.wdn } u
          ∧ u.wdn = { w with epD := w.epD.filter (· != d.val) } ∧ u.rim d.val = { x with keymap := x.keymapSh }))
      ∧ (x.bktSh ≠ x.bkt → x.fo ≠ [] → Gives (.epochCommit (.die d)) s (fun u => u = s))
      ∧ (x.bktSh ≠ x.bkt → x.fo = [] → x.held = [] → (∀ b, b < 64 → bits (sget 0#32 x.bktSh (b / 8)) (4 * (b % 8) + 3) (4 * (b % 8)) ∈ x.upPorts) →
          (∀ n : PortId, (x.port n.val).up = true ∨ (x.port n.val).q = []) →
          Gives (.epochCommit (.die d)) s (fun u => OnlyRim d.val { s with wdn := u.wdn } u
            ∧ u.wdn = { w with epD := w.epD.filter (· != d.val) }
            ∧ u.rim d.val = { x with keymap := x.keymapSh, bkt := x.bktSh, moved := (u.rim d.val).moved }
            ∧ ∀ b, (b, x.bktPort b) ∈ (u.rim d.val).moved ↔ (b, x.bktPort b) ∈ x.moved ∨ b < 64
                ∧ bits (sget 0#32 x.bktSh (b / 8)) (4 * (b % 8) + 3) (4 * (b % 8)) ≠ x.bktPort b
                ∧ x.stillMoving (b, x.bktPort b) = true)))
    ∧ (d.val ∉ w.epD ∨ x.rst = true → Gives (.epochCommit (.die d)) s (fun u => u = s))
    ∧ (w.ep = some e → w.epF = [] → w.epM = [] → w.epD = [] →
        let count := { w with ep := none, epCount := (w.epCount + 1) % 65536 }
        (e.lost = true ∨ (s.fld e.f).rst = true → Gives .epochComplete s (fun u => u = { s with wdn := count }))
        ∧ (e.lost = false → (s.fld e.f).rst = false → Gives .epochComplete s (fun u => u = { s with wdn := count, fields := u.fields }
            ∧ ∀ h : FieldId, (u.fld h.val).relF = (s.fld h.val).relF
                ++ (if h.val ∈ s.relReach e.f (sget {} (s.fld e.f).barRoot e.id).fmask
                    then [{ id := e.id, lastf := e.lastf, cut := e.cut, epoch := true, src := e.f }] else []))))
    ∧ (w.epF ≠ [] ∨ w.epM ≠ [] ∨ w.epD ≠ [] ∨ w.ep = none → Gives .epochComplete s (fun u => u = s))

/-- Column maps (R47, R53, R592 to R595): Warden firmware alone writes the shadow map; the write that completes a legal retirement is logged
in both copies of the field's region; at a commit the field takes the shadow map when it describes one legal retirement and its
routers are drained, and restores the shadow with FLD_EPOCH_STAT.COLREF otherwise. -/
def Sys2Proof.Claims.ColumnMaps : Prop :=
  ∀ (s : State) (p : Party) (f : FieldId) (n : Fin 7) (v : W32) (a b : Nat),
    let w := s.wdn
    let c := s.fld f.val
    let sh := lset c.colmapSh n.val (if n.val = 6 then v &&& 0xFF#32 else v)
    c.rst = false →
    (p = .wardenFw → retireOf c.colmap sh = none → Gives (.fldColmapShWrite p f n v) s (fun u => OnlyField f.val s u
        ∧ u.fld f.val = { c with colmapSh := sh }))
    ∧ (p = .wardenFw → retireOf c.colmap sh = some (a, b) → (∀ k, k < 4 → w.slot f.val k = .erased) →
        Gives (.fldColmapShWrite p f n v) s (fun u => OnlyField f.val { s with wdn := u.wdn } u ∧ u.fld f.val = { c with colmapSh := sh }
          ∧ u.wdn.slot f.val 0 = .ok { f := f.val, p := a, s := b, seq := 0 }
          ∧ sget .erased u.wdn.logB (4 * f.val) = .ok { f := f.val, p := a, s := b, seq := 0 }
          ∧ u.wdn = { w with logA := u.wdn.logA, logB := u.wdn.logB }))
    ∧ (p ≠ .wardenFw → Gives (.fldColmapShWrite p f n v) s (fun u => OnlyField f.val s u
        ∧ u.fld f.val = { c with meshStat := setBit c.meshStat 4 true }))
    ∧ (f.val ∈ w.epM → c.colmapSh = c.colmap → Gives (.colmapCommit f) s (fun u => u = { s with wdn := { w with epM := w.epM.filter (· != f.val) } }))
    ∧ (f.val ∈ w.epM → c.colmapSh ≠ c.colmap → s.drained f.val = false → Gives (.colmapCommit f) s (fun u => (u.fld f.val).colref = 2
        ∧ (u.fld f.val).colmapSh = c.colmap ∧ (u.fld f.val).colmap = c.colmap ∧ bit (u.fld f.val).evt 8 = true
        ∧ OnlyField f.val { s with wdn := { w with epM := w.epM.filter (· != f.val) } } u))
    ∧ (f.val ∈ w.epM → c.colmapSh ≠ c.colmap → s.drained f.val = true → retireOf c.colmap c.colmapSh = none → Gives (.colmapCommit f) s (fun u =>
        (u.fld f.val).colref = 1 ∧ (u.fld f.val).colmapSh = c.colmap ∧ (u.fld f.val).colmap = c.colmap
        ∧ OnlyField f.val { s with wdn := { w with epM := w.epM.filter (· != f.val) } } u))
    ∧ (f.val ∈ w.epM → s.drained f.val = true → retireOf c.colmap c.colmapSh = some (a, b) → Gives (.colmapCommit f) s (fun u =>
        (u.fld f.val).colmap = c.colmapSh ∧ (u.fld f.val).colmapSh = c.colmapSh ∧ (u.fld f.val).coldone = true
        ∧ (u.fld f.val).colref = 0 ∧ u.colState f.val = c.colmapSh ∧ f.val ∉ u.wdn.epM ∧ u.fuses = s.fuses))
    ∧ (f.val ∉ w.epM → Gives (.colmapCommit f) s (fun u => u = s))
    ∧ (a < 100 → b < 100 → a ≠ b → colCode c.colmap a = 0 → colCode c.colmap b = 1 → colCode sh a = 2 → colCode sh b = 0 →
        (∀ k, k < 100 → k ≠ a → k ≠ b → colCode c.colmap k = colCode sh k) → retireOf c.colmap sh = some (a, b))

/-! ### The step, reset and what every step keeps -/

/-- One step runs the command at the front of the queue on the state with the rest of the queue. -/
def Obligations.StepTakesFront : Prop :=
  ∀ (c : Instr) (cs : List Instr) (s : State), s.pending = c :: cs → step s = exec c { s with pending := cs }

/-- With no command waiting, a step is 20 ns of time (DESIGN CHOICE, log entry 2): TIME counts by 2 while the reference is
there and no class is asserted; a running tile counts its cycles, and a field's Slack Harvesting window counts them or closes
(R96, R97); nothing else changes. In this the model rests on log entry 2, which is no rule of the spec. -/
def Obligations.IdleStep : Prop :=
  ∀ s : State, s.pending = [] → ∃ u, step s = .next u
    ∧ (s.wdn.refOk = true → s.wdn.asserted = false → u.time = s.time + 2#64)
    ∧ (s.wdn.refOk = false ∨ s.wdn.asserted = true → u = { s with krovas := { s.krovas with now := s.krovas.now + 2 } })
    ∧ u.pending = [] ∧ u.mesh = s.mesh ∧ u.rims = s.rims ∧ u.press = s.press ∧ u.proof = s.proof ∧ u.epochQ = s.epochQ
    ∧ u.fuses = s.fuses
    ∧ (∀ r : TileId, (u.tile r.val) = { s.tile r.val with cyc := (u.tile r.val).cyc }
        ∧ ((s.tile r.val).state ≠ .running → u.tile r.val = s.tile r.val))
    ∧ (∀ f : FieldId,
        let c := s.fld f.val
        let v := u.fld f.val
        v = { c with shWin := v.shWin, shOld := v.shOld, quiet := v.quiet, shOp := v.shOp, eff := v.eff, limit := v.limit,
                     change := v.change, vcode := v.vcode }
        ∧ (c.shWin.cyc + c.cycles < (if bit c.shCtl 1 then 2 ^ 26 else 2 ^ bits c.shCtl 6 2) → v = { c with shWin := v.shWin })
        ∧ (s.wdn.refOk = true → s.wdn.asserted = false → c.rst = false →
            c.shWin.cyc + c.cycles < (if bit c.shCtl 1 then 2 ^ 26 else 2 ^ bits c.shCtl 6 2) → v.shWin.cyc = c.shWin.cyc + c.cycles))
    ∧ (u.wdn = { s.wdn with hb := u.wdn.hb }) ∧ u.island = { s.island with chalAge := u.island.chalAge }
    ∧ u.krovas = { s.krovas with now := s.krovas.now + 2 }

/-- Reset (R112, R118, R121, R123 and the reset columns of Tables 2.4, 3.7, 4.11 to 4.14, 12.11, 14.2, 16.4): POR is
asserted, every field, die and cluster is held in reset, and the registers hold their stated values. In this the model
rests on log entries 3, 4 and 5, which are no rule of the spec. -/
def Obligations.ResetState : Prop :=
  let s := State.reset
  s.pending = [] ∧ s.wdn.cls = .por ∧ s.wdn.asserted = true ∧ s.wdn.cause = 1#32 ∧ s.wdn.dead = 0#64 ∧ s.wdn.headroom = 0x0D
  ∧ s.wdn.pwrCap = Config.skuCap s.sku ∧ s.wdn.evtCl = 0x10#32 ∧ s.wdn.keep = [] ∧ s.time = 0#64
  ∧ (∀ f : FieldId, (s.fld f.val).rst = true ∧ (s.fld f.val).clkTgt = 13 ∧ (s.fld f.val).clkCeil = Config.skuCeil s.sku
      ∧ (s.fld f.val).shCtl = 0x80100059#32 ∧ (s.fld f.val).sealAct = 0x00001FC0#32 ∧ (s.fld f.val).evtEn = 0x1FF#32
      ∧ (s.fld f.val).burnCtl = 0x11#32)
  ∧ (∀ r : TileId, (s.tile r.val).rst = true ∧ (s.tile r.val).state = .stopped ∧ (s.tile r.val).pc = 0#32 ∧ (s.tile r.val).mem = [])
  ∧ (∀ d : DieId, (s.rim d.val).rst = true ∧ (s.rim d.val).topo = 0#32) ∧ (∀ c : ClusterId, (s.prs c.val).rst = true)
  ∧ s.island.st = .selftest ∧ s.krovas.settings.orphanT = 10 ∧ s.krovas.settings.hbT = 30 ∧ s.krovas.settings.trialT = 5
  ∧ PowerCapLegal s ∧ MemoriesCanonical s

/-- R104 over every step, whatever command runs and in whatever state: a power cap between 2,500 W and the SKU cap stays there. -/
def Obligations.PowerCapAlways : Prop :=
  ∀ s u : State, PowerCapLegal s → step s = .next u → PowerCapLegal u

/-- What no command can undo (R2, R3, R41, R552, R554): one step leaves every package fuse as it is, and the island's revocations, minimum security
versions, DIK generation and tamper count only grow. -/
def Obligations.FusesOnlyBurn : Prop :=
  ∀ s u : State, step s = .next u → u.fuses = s.fuses ∧ (∀ n ∈ s.island.revoked, n ∈ u.island.revoked)
    ∧ (∀ ty, sget 0 s.island.minSvn ty ≤ sget 0 u.island.minSvn ty) ∧ s.island.dikGen ≤ u.island.dikGen
    ∧ s.island.tamper ≤ u.island.tamper

/-! ### Families of claims

Each of these states together the claims above that belong to one part of the machine. -/

/-- Arithmetic instructions of a tile write rd and nothing else: TileTwoSource, TileOneSource and TileImmediate. -/
def Obligations.TileArithmetic : Prop :=
  Sys2Proof.Claims.TileTwoSource ∧ Sys2Proof.Claims.TileOneSource ∧ Sys2Proof.Claims.TileImmediate

/-- Register files read back what was written, and s0 is zero: ScalarRegisters and VectorRegisters. -/
def Obligations.RegisterFiles : Prop :=
  Sys2Proof.Claims.ScalarRegisters ∧ Sys2Proof.Claims.VectorRegisters

/-- Loads and stores of a tile's memory, with every byte outside the store unchanged: TileLoads and TileStores. -/
def Obligations.TileMemory : Prop :=
  Sys2Proof.Claims.TileLoads ∧ Sys2Proof.Claims.TileStores

/-- Branches, jumps, HALT and BRK of a tile: TileBranches, TileJumps and TileHaltAndBreak. In this the model rests on
log entry 71, which is no rule of the spec. -/
def Obligations.TileControlFlow : Prop :=
  Sys2Proof.Claims.TileBranches ∧ Sys2Proof.Claims.TileJumps ∧ Sys2Proof.Claims.TileHaltAndBreak

/-- A tile's control space: CRD and CWR, register writes, and reads that change state: TileControlAccess,
TileRegisterWrites and TileRegisterReads. -/
def Obligations.TileControlSpace : Prop :=
  Sys2Proof.Claims.TileControlAccess ∧ Sys2Proof.Claims.TileRegisterWrites ∧ Sys2Proof.Claims.TileRegisterReads

/-- Remote loads, stores, copies and queue sends leave as their packets: TileRemoteBlocking, TilePosted and TileQueueSend.
In this the model rests on log entry 7, which is no rule of the spec. -/
def Obligations.TileRemote : Prop :=
  Sys2Proof.Claims.TileRemoteBlocking ∧ Sys2Proof.Claims.TilePosted ∧ Sys2Proof.Claims.TileQueueSend

/-- REMFENCE, GAXY, queue tests and the barrier instructions: TileRemfence, TileQueueTest and TileBarriers. In this the
model rests on log entry 39, which is no rule of the spec. -/
def Obligations.TileFences : Prop :=
  Sys2Proof.Claims.TileRemfence ∧ Sys2Proof.Claims.TileQueueTest ∧ Sys2Proof.Claims.TileBarriers

/-- Element-wise vector operations, moves and conversions: VectorArithmetic and VectorMoves. -/
def Obligations.VectorOperations : Prop :=
  Sys2Proof.Claims.VectorArithmetic ∧ Sys2Proof.Claims.VectorMoves

/-- Lattice commands at issue, at execution, and the blocks of LVM: LatticeIssue, LatticeStart and LatticeBlock. In this
the model rests on log entries 14 and 10, which are no rule of the spec. -/
def Obligations.LatticeExecution : Prop :=
  Sys2Proof.Claims.LatticeIssue ∧ Sys2Proof.Claims.LatticeStart ∧ Sys2Proof.Claims.LatticeBlock

/-- Stream commands start, wait, read, write and end: StreamInstructions and StreamUnits. -/
def Obligations.Streams : Prop :=
  Sys2Proof.Claims.StreamInstructions ∧ Sys2Proof.Claims.StreamUnits

/-- Arithmetic and control flow of a Press core: PressArithmetic and PressControlFlow. In this the model rests on log
entry 57, which is no rule of the spec. -/
def Obligations.PressComputation : Prop :=
  Sys2Proof.Claims.PressArithmetic ∧ Sys2Proof.Claims.PressControlFlow

/-- Loads, stores and atomic accesses of a Press core to scratch: PressLoads and PressStores. In this the model rests
on log entries 6 and 58, which are no rule of the spec. -/
def Obligations.PressMemory : Prop :=
  Sys2Proof.Claims.PressLoads ∧ Sys2Proof.Claims.PressStores ∧ Sys2Proof.Claims.PressAccessTraps ∧ Sys2Proof.Claims.PressWindows

/-- Traps, returns, fences, invalidations and barrier instructions of a Press core: PressTraps, PressSystem and
PressBarriers. In this the model rests on log entries 53 and 57, which are no rule of the spec. -/
def Obligations.PressEvents : Prop :=
  Sys2Proof.Claims.PressTraps ∧ Sys2Proof.Claims.PressSystem ∧ Sys2Proof.Claims.PressBarriers

/-- TILE_CTL commands in each tile state, and the completion of STOP: TileCommands and TileStopCompletes. -/
def Obligations.TileCommands : Prop :=
  Sys2Proof.Claims.TileCommands ∧ Sys2Proof.Claims.TileStopCompletes

/-- Memory, full/empty, control and message requests that arrive at a tile: MemoryRequests, FullEmptyRequests and
ControlRequests. In this the model rests on log entries 7 and 45, which are no rule of the spec. -/
def Obligations.TileRequests : Prop :=
  Sys2Proof.Claims.MemoryRequests ∧ Sys2Proof.Claims.FullEmptyRequests ∧ Sys2Proof.Claims.ControlRequests

/-- Requests at a field controller, and the counters that a read clears: FieldRequests and FieldCounterReads. In this the
model rests on log entry 7, which is no rule of the spec. -/
def Obligations.FieldRequests : Prop :=
  Sys2Proof.Claims.FieldRequests ∧ Sys2Proof.Claims.FieldCounterReads

/-- Requests and answers at a Press gate: GateRequests and GateAnswers. In this the model rests on log entries 7 and 54,
which are no rule of the spec. -/
def Obligations.GateTraffic : Prop :=
  Sys2Proof.Claims.GateRequests ∧ Sys2Proof.Claims.GateAnswers

/-- Registers, core hold and interrupts of a Press cluster: PressRegisters, PressCoreHold and PressInterrupts. In this the
model rests on log entries 55, 59, 60 and 61, which are no rule of the spec. -/
def Obligations.PressClusters : Prop :=
  Sys2Proof.Claims.PressRegisters ∧ Sys2Proof.Claims.PressCoreHold ∧ Sys2Proof.Claims.PressInterrupts

/-- Barrier arrivals, completions and releases in the counter tree: BarrierNode, BarrierRoot and BarrierRelease. In this
the model rests on log entry 13, which is no rule of the spec. -/
def Obligations.Barriers : Prop :=
  Sys2Proof.Claims.BarrierNode ∧ Sys2Proof.Claims.BarrierRoot ∧ Sys2Proof.Claims.BarrierRelease

/-- Writes of barrier entries, and cuts: BarrierEntries and BarrierCuts. -/
def Obligations.BarrierTables : Prop :=
  Sys2Proof.Claims.BarrierEntries ∧ Sys2Proof.Claims.BarrierCuts

/-- Routing, and one hop of a one-flit packet: MeshRouting and RouterForward. In this the model rests on log entries 7 and
41, which are no rule of the spec. -/
def Obligations.MeshForwarding : Prop :=
  Sys2Proof.Claims.MeshRouting ∧ Sys2Proof.Claims.RouterForward

/-- Field operating points and Slack Harvesting: ClockTarget, ClockChange, HarvestControl and HarvestWindow. In this the
model rests on log entry 17, which is no rule of the spec. -/
def Obligations.FieldClocks : Prop :=
  Sys2Proof.Claims.ClockTarget ∧ Sys2Proof.Claims.ClockChange ∧ Sys2Proof.Claims.HarvestControl ∧ Sys2Proof.Claims.HarvestWindow

/-- Dead fields, and the reset registers: DeadFields and ResetRegisters. In this the model rests on log entry 17, which is
no rule of the spec. -/
def Obligations.DeadFieldsAndResetRegisters : Prop :=
  Sys2Proof.Claims.DeadFields ∧ Sys2Proof.Claims.ResetRegisters

/-- Link training, failover and neighbour loss: RimTraining, RimFailover and RimSignal. In this the model rests on log
entries 17, 47 and 49, which are no rule of the spec. -/
def Obligations.RimLinks : Prop :=
  Sys2Proof.Claims.RimTraining ∧ Sys2Proof.Claims.RimFailover ∧ Sys2Proof.Claims.RimSignal

/-- Management cores, I3C transfers and management frames: ManagementCores, WardenTransfers and ManagementFrames. In
this the model rests on log entries 27, 28 and 79, which are no rule of the spec. -/
def Obligations.ManagementTraffic : Prop :=
  Sys2Proof.Claims.ManagementCores ∧ Sys2Proof.Claims.WardenTransfers ∧ Sys2Proof.Claims.ManagementFrames

/-- The host: doorbells, vectors, BAR0 and windows: HostRegisters, HostBar, HostBarInReset and HostWindows. In this
the model rests on log entries 18, 19, 21, 61, 78 and 79, which are no rule of the spec. -/
def Obligations.HostAccess : Prop :=
  Sys2Proof.Claims.HostRegisters ∧ Sys2Proof.Claims.HostBar ∧ Sys2Proof.Claims.HostBarInReset ∧ Sys2Proof.Claims.HostWindows

/-- Commands of the security island, identity and measurement: IslandCommands and IslandIdentity. In this the model
rests on log entries 19, 22 and 26, which are no rule of the spec. -/
def Obligations.IslandCommands : Prop :=
  Sys2Proof.Claims.IslandCommands ∧ Sys2Proof.Claims.IslandIdentity

/-- Crypto Officer commands, self-tests and zeroization: IslandOfficer and IslandTests. In this the model rests on log
entries 23, 24, 25 and 80, which are no rule of the spec. -/
def Obligations.IslandOfficer : Prop :=
  Sys2Proof.Claims.IslandOfficer ∧ Sys2Proof.Claims.IslandTests

/-- The Proof console: shadows, commits, output and lines: ProofCommits, ProofOutput and ProofLines. In this the model
rests on log entries 12 and 34, which are no rule of the spec. -/
def Obligations.ProofConsole : Prop :=
  Sys2Proof.Claims.ProofCommits ∧ Sys2Proof.Claims.ProofOutput ∧ Sys2Proof.Claims.ProofLines

/-- Commands of the host and of the fabric manager to Krovas: KrovasHost and KrovasFabric. In this the model rests on log
entries 31 and 33, which are no rule of the spec. -/
def Obligations.KrovasMasters : Prop :=
  Sys2Proof.Claims.KrovasHost ∧ Sys2Proof.Claims.KrovasFabric

/-- Tray safety, bypass, and firmware sets in use: KrovasSafety and KrovasSets. In this the model rests on log entries 32,
33 and 35, which are no rule of the spec. -/
def Obligations.KrovasTray : Prop :=
  Sys2Proof.Claims.KrovasSafety ∧ Sys2Proof.Claims.KrovasSets

/-- Epochs and column maps: Epochs and ColumnMaps. In this the model rests on log entries 29, 30 and 62, which are no rule
of the spec. -/
def Obligations.EpochsAndColumnMaps : Prop :=
  Sys2Proof.Claims.Epochs ∧ Sys2Proof.Claims.ColumnMaps
end

