-- ==== Sys2Proof/Laws/Bits.lean ====
section
/-! SUPPORT. Bits and fields of a word: what a bit reads as after a bit is set, and small facts about fields. -/

namespace Sys2Proof.Machine

theorem bit_eq {n : Nat} (w : BitVec n) (i : Nat) : bit w i = w.getLsbD i := rfl

theorem bits_lt {n : Nat} (w : BitVec n) (hi lo : Nat) : bits w hi lo < 2 ^ (hi + 1 - lo) := Nat.mod_lt _ (Nat.two_pow_pos _)

/-- A number split at bit i. -/
theorem split_at (x i : Nat) : x = 2 ^ i * (2 * (x / 2 ^ (i + 1)) + x / 2 ^ i % 2) + x % 2 ^ i := by
  have h : x / 2 ^ (i + 1) = x / 2 ^ i / 2 := by rw [Nat.pow_succ, Nat.div_div_eq_div_mul]
  have h1 : 2 * (x / 2 ^ (i + 1)) + x / 2 ^ i % 2 = x / 2 ^ i := by rw [h]; omega
  rw [h1]; exact (Nat.div_add_mod _ _).symm

theorem toNat_setBit {n : Nat} (w : BitVec n) (i : Nat) (b : Bool) :
    setBit w i b = BitVec.ofNat n (2 ^ i * (2 * (w.toNat / 2 ^ (i + 1)) + b2n b) + w.toNat % 2 ^ i) := by
  unfold setBit setBits bits
  have e : i + 1 - i = 1 := by omega
  have hb : b2n b % 2 = b2n b := by cases b <;> rfl
  rw [e, Nat.pow_one, hb, Nat.shiftRight_eq_div_pow]
  congr 1
  have h := split_at w.toNat i
  have : 2 ^ i * (2 * (w.toNat / 2 ^ (i + 1)) + w.toNat / 2 ^ i % 2)
      = 2 ^ i * (2 * (w.toNat / 2 ^ (i + 1))) + w.toNat / 2 ^ i % 2 * 2 ^ i := by
    rw [Nat.mul_add, Nat.mul_comm (w.toNat / 2 ^ i % 2)]
  have h2 : 2 ^ i * (2 * (w.toNat / 2 ^ (i + 1)) + b2n b)
      = 2 ^ i * (2 * (w.toNat / 2 ^ (i + 1))) + b2n b * 2 ^ i := by
    rw [Nat.mul_add, Nat.mul_comm (b2n b)]
  omega

/-- A bit of a word one of whose bits has been set or cleared. -/
theorem bit_setBit {n : Nat} (w : BitVec n) (i j : Nat) (b : Bool) :
    bit (setBit w i b) j = if j = i then (decide (i < n) && b) else bit w j := by
  rw [toNat_setBit, bit, BitVec.getLsbD_ofNat, Nat.testBit_two_pow_mul_add _ (Nat.mod_lt _ (Nat.two_pow_pos _))]
  by_cases hji : j = i
  · subst hji; simp; cases b <;> simp [b2n]
  · simp only [if_neg hji, bit]
    have hw : w.getLsbD j = (decide (j < n) && w.getLsbD j) := by
      by_cases h : j < n
      · simp [h]
      · simp [h, BitVec.getLsbD_of_ge w j (by omega)]
    rw [hw]
    congr 1
    rw [← BitVec.testBit_toNat]
    rw [show w.toNat.testBit j = (2 ^ i * (2 * (w.toNat / 2 ^ (i + 1)) + w.toNat / 2 ^ i % 2) + w.toNat % 2 ^ i).testBit j
      from congrArg (·.testBit j) (split_at w.toNat i),
      Nat.testBit_two_pow_mul_add _ (Nat.mod_lt _ (Nat.two_pow_pos _))]
    split
    · rfl
    · obtain ⟨k, hk⟩ : ∃ k, j - i = k + 1 := ⟨j - i - 1, by omega⟩
      rw [hk, Nat.testBit_succ, Nat.testBit_succ]
      congr 1
      have : b2n b < 2 := by cases b <;> decide
      omega

end Sys2Proof.Machine
end

