-- ==== Sys2Proof/Laws/Sparse.lean ====
section
/-! SUPPORT. Laws of sparse tables and byte memories: read after write, and the canonical form. -/

namespace Sys2Proof.Machine

@[simp] theorem sget_nil {α : Type} (d : α) (i : Nat) : sget d [] i = d := rfl

@[simp] theorem sget_sput {α : Type} (d : α) (m : Sparse α) (i : Nat) (v : α) : sget d (sput m i v) i = v := by
  induction m with
  | nil => simp [sput, sget]
  | cons e m ih =>
    obtain ⟨k, w⟩ := e
    simp only [sput]
    split
    · simp [sget]
    · split
      · simp [sget]
      · rename_i h
        simp [sget, h, ih]

theorem sget_sput_ne {α : Type} (d : α) (m : Sparse α) {i j : Nat} (v : α) (h : j ≠ i) :
    sget d (sput m i v) j = sget d m j := by
  induction m with
  | nil => simp [sput, sget, h]
  | cons e m ih =>
    obtain ⟨k, w⟩ := e
    simp only [sput]
    split
    · simp [sget, h]
    · split
      · rename_i hk
        subst hk
        simp [sget, h]
      · simp only [sget, ih]

@[simp] theorem sput_sput {α : Type} (m : Sparse α) (i : Nat) (v w : α) : sput (sput m i v) i w = sput m i w := by
  induction m with
  | nil => simp [sput]
  | cons e m ih =>
    obtain ⟨k, x⟩ := e
    simp only [sput]
    split
    · simp [sput]
    · split
      · simp [sput]
      · rename_i h1 h2
        simp [sput, h1, h2, ih]

theorem sget_filter {α : Type} (d : α) (p : Nat → Bool) (m : Sparse α) (j : Nat) :
    sget d (m.filter (fun e => p e.1)) j = if p j then sget d m j else d := by
  induction m with
  | nil => simp
  | cons e m ih =>
    obtain ⟨k, w⟩ := e
    by_cases hk : j = k
    · subst hk
      by_cases hp : p j <;> simp_all [sget]
    · by_cases hp : p k <;> simp_all [sget]

theorem sget_sdel {α : Type} (d : α) (m : Sparse α) (i j : Nat) :
    sget d (sdel m i) j = if j = i then d else sget d m j := by
  have := sget_filter d (fun k => !(k == i)) m j
  simp only [sdel, this]
  by_cases h : j = i <;> simp [h]

/-! ### Byte memories -/

theorem mget_mput (m : Mem) (a b : Nat) (v : W8) : mget (mput m a v) b = if b = a then v else mget m b := by
  unfold mget mput
  split
  · rename_i h
    rw [sget_sdel, h]
  · split
    · rename_i h
      simp [h]
    · rename_i h
      exact sget_sput_ne _ _ _ h

/-- A byte after a write of consecutive bytes: the byte written there, or the byte that was there. -/
theorem mget_mwrite (m : Mem) (a b : Nat) (bs : Bytes) :
    mget (mwrite m a bs) b = if a ≤ b ∧ b < a + bs.length then bs.getD (b - a) 0#8 else mget m b := by
  induction bs generalizing m a with
  | nil =>
    have h : ¬(a ≤ b ∧ b < a + ([] : Bytes).length) := by simp only [List.length_nil]; omega
    rw [if_neg h]
    rfl
  | cons x bs ih =>
    simp only [mwrite, ih, mget_mput, List.length_cons]
    by_cases h1 : b = a
    · rw [if_neg (by omega), if_pos h1, if_pos (by omega), h1, Nat.sub_self]
      rfl
    · rw [if_neg h1]
      by_cases h2 : a + 1 ≤ b ∧ b < a + 1 + bs.length
      · have h4 : b - a = (b - (a + 1)) + 1 := by omega
        rw [if_pos h2, if_pos (by omega), h4]
        rfl
      · rw [if_neg h2, if_neg (by omega)]

/-! ### The canonical form: every memory operation keeps it -/

theorem memFrom_mono {lo lo' : Nat} {m : Mem} (h : lo' ≤ lo) (hm : memFrom lo m = true) : memFrom lo' m = true := by
  cases m with
  | nil => rfl
  | cons e m =>
    obtain ⟨k, v⟩ := e
    simp only [memFrom, Bool.and_eq_true, decide_eq_true_eq] at hm ⊢
    exact ⟨⟨by omega, hm.1.2⟩, hm.2⟩

theorem memFrom_filter {lo : Nat} {m : Mem} (p : Host.Cell → Bool) (hm : memFrom lo m = true) :
    memFrom lo (m.filter p) = true := by
  induction m generalizing lo with
  | nil => rfl
  | cons e m ih =>
    obtain ⟨k, v⟩ := e
    simp only [memFrom, Bool.and_eq_true, decide_eq_true_eq] at hm
    by_cases hp : p (k, v)
    · simp only [List.filter_cons, hp, if_true, memFrom, Bool.and_eq_true, decide_eq_true_eq]
      exact ⟨hm.1, ih hm.2⟩
    · simp only [List.filter_cons, hp]
      exact memFrom_mono (by omega) (ih hm.2)

theorem memFrom_sput {lo a : Nat} {m : Mem} {v : W8} (ha : lo ≤ a) (hv : v ≠ 0#8) (hm : memFrom lo m = true) :
    memFrom lo (sput m a v) = true := by
  induction m generalizing lo with
  | nil => simp [sput, memFrom, ha, hv]
  | cons e m ih =>
    obtain ⟨k, w⟩ := e
    simp only [memFrom, Bool.and_eq_true, decide_eq_true_eq] at hm
    simp only [sput]
    split
    · simp only [memFrom, Bool.and_eq_true, decide_eq_true_eq, bne_iff_ne]
      exact ⟨⟨ha, hv⟩, ⟨⟨by omega, by simpa using hm.1.2⟩, hm.2⟩⟩
    · split
      · rename_i h
        subst h
        simp only [memFrom, Bool.and_eq_true, decide_eq_true_eq, bne_iff_ne]
        exact ⟨⟨ha, hv⟩, hm.2⟩
      · simp only [memFrom, Bool.and_eq_true, decide_eq_true_eq]
        exact ⟨hm.1, ih (by omega) hm.2⟩

/-- A write of one byte keeps the canonical form. -/
theorem mput_wf {m : Mem} (a : Nat) (v : W8) (h : Memory.wf m = true) : Memory.wf (mput m a v) = true := by
  unfold mput
  split
  · exact memFrom_filter _ h
  · exact memFrom_sput (by omega) ‹_› h

/-- A write of consecutive bytes keeps it. -/
theorem mwrite_wf {m : Mem} (a : Nat) (bs : Bytes) (h : Memory.wf m = true) : Memory.wf (mwrite m a bs) = true := by
  induction bs generalizing m a with
  | nil => exact h
  | cons b bs ih => exact ih _ (mput_wf _ _ h)

theorem mwrite32_wf {m : Mem} (a : Nat) (v : W32) (h : Memory.wf m = true) : Memory.wf (mwrite32 m a v) = true :=
  mwrite_wf _ _ h
theorem mwrite64_wf {m : Mem} (a : Nat) (v : W64) (h : Memory.wf m = true) : Memory.wf (mwrite64 m a v) = true :=
  mwrite_wf _ _ h
/-- Clearing a range keeps it. -/
theorem mclr_wf {m : Mem} (lo hi : Nat) (h : Memory.wf m = true) : Memory.wf (mclr m lo hi) = true := memFrom_filter _ h

end Sys2Proof.Machine
end

