-- ==== Sys2Proof/Laws/State.lean ====
section
/-! SUPPORT. The fields of the state after each named update, and reads of a unit after a write of one. -/

namespace Sys2Proof.Machine

@[simp] theorem State.setTile_pending (s : State) (r : Nat) (x : Tile) : (s.setTile r x).pending = s.pending := rfl
@[simp] theorem State.setTile_freeCtr (s : State) (r : Nat) (x : Tile) : (s.setTile r x).freeCtr = s.freeCtr := rfl
@[simp] theorem State.setTile_rdata (s : State) (r : Nat) (x : Tile) : (s.setTile r x).rdata = s.rdata := rfl
@[simp] theorem State.setTile_fields (s : State) (r : Nat) (x : Tile) : (s.setTile r x).fields = s.fields := rfl
@[simp] theorem State.setTile_mesh (s : State) (r : Nat) (x : Tile) : (s.setTile r x).mesh = s.mesh := rfl
@[simp] theorem State.setTile_rims (s : State) (r : Nat) (x : Tile) : (s.setTile r x).rims = s.rims := rfl
@[simp] theorem State.setTile_press (s : State) (r : Nat) (x : Tile) : (s.setTile r x).press = s.press := rfl
@[simp] theorem State.setTile_wdn (s : State) (r : Nat) (x : Tile) : (s.setTile r x).wdn = s.wdn := rfl
@[simp] theorem State.setTile_island (s : State) (r : Nat) (x : Tile) : (s.setTile r x).island = s.island := rfl
@[simp] theorem State.setTile_proof (s : State) (r : Nat) (x : Tile) : (s.setTile r x).proof = s.proof := rfl
@[simp] theorem State.setTile_krovas (s : State) (r : Nat) (x : Tile) : (s.setTile r x).krovas = s.krovas := rfl
@[simp] theorem State.setTile_epochQ (s : State) (r : Nat) (x : Tile) : (s.setTile r x).epochQ = s.epochQ := rfl
@[simp] theorem State.setTile_time (s : State) (r : Nat) (x : Tile) : (s.setTile r x).time = s.time := rfl
@[simp] theorem State.setTile_sku (s : State) (r : Nat) (x : Tile) : (s.setTile r x).sku = s.sku := rfl
@[simp] theorem State.setTile_stepId (s : State) (r : Nat) (x : Tile) : (s.setTile r x).stepId = s.stepId := rfl
@[simp] theorem State.setTile_serial (s : State) (r : Nat) (x : Tile) : (s.setTile r x).serial = s.serial := rfl
@[simp] theorem State.setTile_etch (s : State) (r : Nat) (x : Tile) : (s.setTile r x).etch = s.etch := rfl

@[simp] theorem State.setFld_pending (s : State) (f : Nat) (x : Field) : (s.setFld f x).pending = s.pending := rfl
@[simp] theorem State.setFld_freeCtr (s : State) (f : Nat) (x : Field) : (s.setFld f x).freeCtr = s.freeCtr := rfl
@[simp] theorem State.setFld_rdata (s : State) (f : Nat) (x : Field) : (s.setFld f x).rdata = s.rdata := rfl
@[simp] theorem State.setFld_tiles (s : State) (f : Nat) (x : Field) : (s.setFld f x).tiles = s.tiles := rfl
@[simp] theorem State.setFld_mesh (s : State) (f : Nat) (x : Field) : (s.setFld f x).mesh = s.mesh := rfl
@[simp] theorem State.setFld_rims (s : State) (f : Nat) (x : Field) : (s.setFld f x).rims = s.rims := rfl
@[simp] theorem State.setFld_press (s : State) (f : Nat) (x : Field) : (s.setFld f x).press = s.press := rfl
@[simp] theorem State.setFld_wdn (s : State) (f : Nat) (x : Field) : (s.setFld f x).wdn = s.wdn := rfl
@[simp] theorem State.setFld_island (s : State) (f : Nat) (x : Field) : (s.setFld f x).island = s.island := rfl
@[simp] theorem State.setFld_proof (s : State) (f : Nat) (x : Field) : (s.setFld f x).proof = s.proof := rfl
@[simp] theorem State.setFld_krovas (s : State) (f : Nat) (x : Field) : (s.setFld f x).krovas = s.krovas := rfl
@[simp] theorem State.setFld_epochQ (s : State) (f : Nat) (x : Field) : (s.setFld f x).epochQ = s.epochQ := rfl
@[simp] theorem State.setFld_time (s : State) (f : Nat) (x : Field) : (s.setFld f x).time = s.time := rfl
@[simp] theorem State.setFld_sku (s : State) (f : Nat) (x : Field) : (s.setFld f x).sku = s.sku := rfl
@[simp] theorem State.setFld_stepId (s : State) (f : Nat) (x : Field) : (s.setFld f x).stepId = s.stepId := rfl
@[simp] theorem State.setFld_serial (s : State) (f : Nat) (x : Field) : (s.setFld f x).serial = s.serial := rfl
@[simp] theorem State.setFld_etch (s : State) (f : Nat) (x : Field) : (s.setFld f x).etch = s.etch := rfl

@[simp] theorem State.setMesh_pending (s : State) (x : Mesh) : (s.setMesh x).pending = s.pending := rfl
@[simp] theorem State.setMesh_freeCtr (s : State) (x : Mesh) : (s.setMesh x).freeCtr = s.freeCtr := rfl
@[simp] theorem State.setMesh_rdata (s : State) (x : Mesh) : (s.setMesh x).rdata = s.rdata := rfl
@[simp] theorem State.setMesh_tiles (s : State) (x : Mesh) : (s.setMesh x).tiles = s.tiles := rfl
@[simp] theorem State.setMesh_fields (s : State) (x : Mesh) : (s.setMesh x).fields = s.fields := rfl
@[simp] theorem State.setMesh_mesh (s : State) (x : Mesh) : (s.setMesh x).mesh = x := rfl
@[simp] theorem State.setMesh_rims (s : State) (x : Mesh) : (s.setMesh x).rims = s.rims := rfl
@[simp] theorem State.setMesh_press (s : State) (x : Mesh) : (s.setMesh x).press = s.press := rfl
@[simp] theorem State.setMesh_wdn (s : State) (x : Mesh) : (s.setMesh x).wdn = s.wdn := rfl
@[simp] theorem State.setMesh_island (s : State) (x : Mesh) : (s.setMesh x).island = s.island := rfl
@[simp] theorem State.setMesh_proof (s : State) (x : Mesh) : (s.setMesh x).proof = s.proof := rfl
@[simp] theorem State.setMesh_krovas (s : State) (x : Mesh) : (s.setMesh x).krovas = s.krovas := rfl
@[simp] theorem State.setMesh_epochQ (s : State) (x : Mesh) : (s.setMesh x).epochQ = s.epochQ := rfl
@[simp] theorem State.setMesh_time (s : State) (x : Mesh) : (s.setMesh x).time = s.time := rfl
@[simp] theorem State.setMesh_sku (s : State) (x : Mesh) : (s.setMesh x).sku = s.sku := rfl
@[simp] theorem State.setMesh_stepId (s : State) (x : Mesh) : (s.setMesh x).stepId = s.stepId := rfl
@[simp] theorem State.setMesh_serial (s : State) (x : Mesh) : (s.setMesh x).serial = s.serial := rfl
@[simp] theorem State.setMesh_etch (s : State) (x : Mesh) : (s.setMesh x).etch = s.etch := rfl

@[simp] theorem State.setRim_pending (s : State) (d : Nat) (x : Rim) : (s.setRim d x).pending = s.pending := rfl
@[simp] theorem State.setRim_freeCtr (s : State) (d : Nat) (x : Rim) : (s.setRim d x).freeCtr = s.freeCtr := rfl
@[simp] theorem State.setRim_rdata (s : State) (d : Nat) (x : Rim) : (s.setRim d x).rdata = s.rdata := rfl
@[simp] theorem State.setRim_tiles (s : State) (d : Nat) (x : Rim) : (s.setRim d x).tiles = s.tiles := rfl
@[simp] theorem State.setRim_fields (s : State) (d : Nat) (x : Rim) : (s.setRim d x).fields = s.fields := rfl
@[simp] theorem State.setRim_mesh (s : State) (d : Nat) (x : Rim) : (s.setRim d x).mesh = s.mesh := rfl
@[simp] theorem State.setRim_press (s : State) (d : Nat) (x : Rim) : (s.setRim d x).press = s.press := rfl
@[simp] theorem State.setRim_wdn (s : State) (d : Nat) (x : Rim) : (s.setRim d x).wdn = s.wdn := rfl
@[simp] theorem State.setRim_island (s : State) (d : Nat) (x : Rim) : (s.setRim d x).island = s.island := rfl
@[simp] theorem State.setRim_proof (s : State) (d : Nat) (x : Rim) : (s.setRim d x).proof = s.proof := rfl
@[simp] theorem State.setRim_krovas (s : State) (d : Nat) (x : Rim) : (s.setRim d x).krovas = s.krovas := rfl
@[simp] theorem State.setRim_epochQ (s : State) (d : Nat) (x : Rim) : (s.setRim d x).epochQ = s.epochQ := rfl
@[simp] theorem State.setRim_time (s : State) (d : Nat) (x : Rim) : (s.setRim d x).time = s.time := rfl
@[simp] theorem State.setRim_sku (s : State) (d : Nat) (x : Rim) : (s.setRim d x).sku = s.sku := rfl
@[simp] theorem State.setRim_stepId (s : State) (d : Nat) (x : Rim) : (s.setRim d x).stepId = s.stepId := rfl
@[simp] theorem State.setRim_serial (s : State) (d : Nat) (x : Rim) : (s.setRim d x).serial = s.serial := rfl
@[simp] theorem State.setRim_etch (s : State) (d : Nat) (x : Rim) : (s.setRim d x).etch = s.etch := rfl

@[simp] theorem State.setPrs_pending (s : State) (c : Nat) (x : Press) : (s.setPrs c x).pending = s.pending := rfl
@[simp] theorem State.setPrs_freeCtr (s : State) (c : Nat) (x : Press) : (s.setPrs c x).freeCtr = s.freeCtr := rfl
@[simp] theorem State.setPrs_rdata (s : State) (c : Nat) (x : Press) : (s.setPrs c x).rdata = s.rdata := rfl
@[simp] theorem State.setPrs_tiles (s : State) (c : Nat) (x : Press) : (s.setPrs c x).tiles = s.tiles := rfl
@[simp] theorem State.setPrs_fields (s : State) (c : Nat) (x : Press) : (s.setPrs c x).fields = s.fields := rfl
@[simp] theorem State.setPrs_mesh (s : State) (c : Nat) (x : Press) : (s.setPrs c x).mesh = s.mesh := rfl
@[simp] theorem State.setPrs_rims (s : State) (c : Nat) (x : Press) : (s.setPrs c x).rims = s.rims := rfl
@[simp] theorem State.setPrs_wdn (s : State) (c : Nat) (x : Press) : (s.setPrs c x).wdn = s.wdn := rfl
@[simp] theorem State.setPrs_island (s : State) (c : Nat) (x : Press) : (s.setPrs c x).island = s.island := rfl
@[simp] theorem State.setPrs_proof (s : State) (c : Nat) (x : Press) : (s.setPrs c x).proof = s.proof := rfl
@[simp] theorem State.setPrs_krovas (s : State) (c : Nat) (x : Press) : (s.setPrs c x).krovas = s.krovas := rfl
@[simp] theorem State.setPrs_epochQ (s : State) (c : Nat) (x : Press) : (s.setPrs c x).epochQ = s.epochQ := rfl
@[simp] theorem State.setPrs_time (s : State) (c : Nat) (x : Press) : (s.setPrs c x).time = s.time := rfl
@[simp] theorem State.setPrs_sku (s : State) (c : Nat) (x : Press) : (s.setPrs c x).sku = s.sku := rfl
@[simp] theorem State.setPrs_stepId (s : State) (c : Nat) (x : Press) : (s.setPrs c x).stepId = s.stepId := rfl
@[simp] theorem State.setPrs_serial (s : State) (c : Nat) (x : Press) : (s.setPrs c x).serial = s.serial := rfl
@[simp] theorem State.setPrs_etch (s : State) (c : Nat) (x : Press) : (s.setPrs c x).etch = s.etch := rfl

@[simp] theorem State.setWdn_pending (s : State) (x : Warden) : (s.setWdn x).pending = s.pending := rfl
@[simp] theorem State.setWdn_freeCtr (s : State) (x : Warden) : (s.setWdn x).freeCtr = s.freeCtr := rfl
@[simp] theorem State.setWdn_rdata (s : State) (x : Warden) : (s.setWdn x).rdata = s.rdata := rfl
@[simp] theorem State.setWdn_tiles (s : State) (x : Warden) : (s.setWdn x).tiles = s.tiles := rfl
@[simp] theorem State.setWdn_fields (s : State) (x : Warden) : (s.setWdn x).fields = s.fields := rfl
@[simp] theorem State.setWdn_mesh (s : State) (x : Warden) : (s.setWdn x).mesh = s.mesh := rfl
@[simp] theorem State.setWdn_rims (s : State) (x : Warden) : (s.setWdn x).rims = s.rims := rfl
@[simp] theorem State.setWdn_press (s : State) (x : Warden) : (s.setWdn x).press = s.press := rfl
@[simp] theorem State.setWdn_wdn (s : State) (x : Warden) : (s.setWdn x).wdn = x := rfl
@[simp] theorem State.setWdn_island (s : State) (x : Warden) : (s.setWdn x).island = s.island := rfl
@[simp] theorem State.setWdn_proof (s : State) (x : Warden) : (s.setWdn x).proof = s.proof := rfl
@[simp] theorem State.setWdn_krovas (s : State) (x : Warden) : (s.setWdn x).krovas = s.krovas := rfl
@[simp] theorem State.setWdn_epochQ (s : State) (x : Warden) : (s.setWdn x).epochQ = s.epochQ := rfl
@[simp] theorem State.setWdn_time (s : State) (x : Warden) : (s.setWdn x).time = s.time := rfl
@[simp] theorem State.setWdn_sku (s : State) (x : Warden) : (s.setWdn x).sku = s.sku := rfl
@[simp] theorem State.setWdn_stepId (s : State) (x : Warden) : (s.setWdn x).stepId = s.stepId := rfl
@[simp] theorem State.setWdn_serial (s : State) (x : Warden) : (s.setWdn x).serial = s.serial := rfl
@[simp] theorem State.setWdn_etch (s : State) (x : Warden) : (s.setWdn x).etch = s.etch := rfl

@[simp] theorem State.modTile_pending (s : State) (r : Nat) (g : Tile → Tile) : (s.modTile r g).pending = s.pending := rfl
@[simp] theorem State.modTile_freeCtr (s : State) (r : Nat) (g : Tile → Tile) : (s.modTile r g).freeCtr = s.freeCtr := rfl
@[simp] theorem State.modTile_rdata (s : State) (r : Nat) (g : Tile → Tile) : (s.modTile r g).rdata = s.rdata := rfl
@[simp] theorem State.modTile_fields (s : State) (r : Nat) (g : Tile → Tile) : (s.modTile r g).fields = s.fields := rfl
@[simp] theorem State.modTile_mesh (s : State) (r : Nat) (g : Tile → Tile) : (s.modTile r g).mesh = s.mesh := rfl
@[simp] theorem State.modTile_rims (s : State) (r : Nat) (g : Tile → Tile) : (s.modTile r g).rims = s.rims := rfl
@[simp] theorem State.modTile_press (s : State) (r : Nat) (g : Tile → Tile) : (s.modTile r g).press = s.press := rfl
@[simp] theorem State.modTile_wdn (s : State) (r : Nat) (g : Tile → Tile) : (s.modTile r g).wdn = s.wdn := rfl
@[simp] theorem State.modTile_island (s : State) (r : Nat) (g : Tile → Tile) : (s.modTile r g).island = s.island := rfl
@[simp] theorem State.modTile_proof (s : State) (r : Nat) (g : Tile → Tile) : (s.modTile r g).proof = s.proof := rfl
@[simp] theorem State.modTile_krovas (s : State) (r : Nat) (g : Tile → Tile) : (s.modTile r g).krovas = s.krovas := rfl
@[simp] theorem State.modTile_epochQ (s : State) (r : Nat) (g : Tile → Tile) : (s.modTile r g).epochQ = s.epochQ := rfl
@[simp] theorem State.modTile_time (s : State) (r : Nat) (g : Tile → Tile) : (s.modTile r g).time = s.time := rfl
@[simp] theorem State.modTile_sku (s : State) (r : Nat) (g : Tile → Tile) : (s.modTile r g).sku = s.sku := rfl
@[simp] theorem State.modTile_stepId (s : State) (r : Nat) (g : Tile → Tile) : (s.modTile r g).stepId = s.stepId := rfl
@[simp] theorem State.modTile_serial (s : State) (r : Nat) (g : Tile → Tile) : (s.modTile r g).serial = s.serial := rfl
@[simp] theorem State.modTile_etch (s : State) (r : Nat) (g : Tile → Tile) : (s.modTile r g).etch = s.etch := rfl

@[simp] theorem State.modFld_pending (s : State) (f : Nat) (g : Field → Field) : (s.modFld f g).pending = s.pending := rfl
@[simp] theorem State.modFld_freeCtr (s : State) (f : Nat) (g : Field → Field) : (s.modFld f g).freeCtr = s.freeCtr := rfl
@[simp] theorem State.modFld_rdata (s : State) (f : Nat) (g : Field → Field) : (s.modFld f g).rdata = s.rdata := rfl
@[simp] theorem State.modFld_tiles (s : State) (f : Nat) (g : Field → Field) : (s.modFld f g).tiles = s.tiles := rfl
@[simp] theorem State.modFld_mesh (s : State) (f : Nat) (g : Field → Field) : (s.modFld f g).mesh = s.mesh := rfl
@[simp] theorem State.modFld_rims (s : State) (f : Nat) (g : Field → Field) : (s.modFld f g).rims = s.rims := rfl
@[simp] theorem State.modFld_press (s : State) (f : Nat) (g : Field → Field) : (s.modFld f g).press = s.press := rfl
@[simp] theorem State.modFld_wdn (s : State) (f : Nat) (g : Field → Field) : (s.modFld f g).wdn = s.wdn := rfl
@[simp] theorem State.modFld_island (s : State) (f : Nat) (g : Field → Field) : (s.modFld f g).island = s.island := rfl
@[simp] theorem State.modFld_proof (s : State) (f : Nat) (g : Field → Field) : (s.modFld f g).proof = s.proof := rfl
@[simp] theorem State.modFld_krovas (s : State) (f : Nat) (g : Field → Field) : (s.modFld f g).krovas = s.krovas := rfl
@[simp] theorem State.modFld_epochQ (s : State) (f : Nat) (g : Field → Field) : (s.modFld f g).epochQ = s.epochQ := rfl
@[simp] theorem State.modFld_time (s : State) (f : Nat) (g : Field → Field) : (s.modFld f g).time = s.time := rfl
@[simp] theorem State.modFld_sku (s : State) (f : Nat) (g : Field → Field) : (s.modFld f g).sku = s.sku := rfl
@[simp] theorem State.modFld_stepId (s : State) (f : Nat) (g : Field → Field) : (s.modFld f g).stepId = s.stepId := rfl
@[simp] theorem State.modFld_serial (s : State) (f : Nat) (g : Field → Field) : (s.modFld f g).serial = s.serial := rfl
@[simp] theorem State.modFld_etch (s : State) (f : Nat) (g : Field → Field) : (s.modFld f g).etch = s.etch := rfl

@[simp] theorem State.modRim_pending (s : State) (d : Nat) (g : Rim → Rim) : (s.modRim d g).pending = s.pending := rfl
@[simp] theorem State.modRim_freeCtr (s : State) (d : Nat) (g : Rim → Rim) : (s.modRim d g).freeCtr = s.freeCtr := rfl
@[simp] theorem State.modRim_rdata (s : State) (d : Nat) (g : Rim → Rim) : (s.modRim d g).rdata = s.rdata := rfl
@[simp] theorem State.modRim_tiles (s : State) (d : Nat) (g : Rim → Rim) : (s.modRim d g).tiles = s.tiles := rfl
@[simp] theorem State.modRim_fields (s : State) (d : Nat) (g : Rim → Rim) : (s.modRim d g).fields = s.fields := rfl
@[simp] theorem State.modRim_mesh (s : State) (d : Nat) (g : Rim → Rim) : (s.modRim d g).mesh = s.mesh := rfl
@[simp] theorem State.modRim_press (s : State) (d : Nat) (g : Rim → Rim) : (s.modRim d g).press = s.press := rfl
@[simp] theorem State.modRim_wdn (s : State) (d : Nat) (g : Rim → Rim) : (s.modRim d g).wdn = s.wdn := rfl
@[simp] theorem State.modRim_island (s : State) (d : Nat) (g : Rim → Rim) : (s.modRim d g).island = s.island := rfl
@[simp] theorem State.modRim_proof (s : State) (d : Nat) (g : Rim → Rim) : (s.modRim d g).proof = s.proof := rfl
@[simp] theorem State.modRim_krovas (s : State) (d : Nat) (g : Rim → Rim) : (s.modRim d g).krovas = s.krovas := rfl
@[simp] theorem State.modRim_epochQ (s : State) (d : Nat) (g : Rim → Rim) : (s.modRim d g).epochQ = s.epochQ := rfl
@[simp] theorem State.modRim_time (s : State) (d : Nat) (g : Rim → Rim) : (s.modRim d g).time = s.time := rfl
@[simp] theorem State.modRim_sku (s : State) (d : Nat) (g : Rim → Rim) : (s.modRim d g).sku = s.sku := rfl
@[simp] theorem State.modRim_stepId (s : State) (d : Nat) (g : Rim → Rim) : (s.modRim d g).stepId = s.stepId := rfl
@[simp] theorem State.modRim_serial (s : State) (d : Nat) (g : Rim → Rim) : (s.modRim d g).serial = s.serial := rfl
@[simp] theorem State.modRim_etch (s : State) (d : Nat) (g : Rim → Rim) : (s.modRim d g).etch = s.etch := rfl

@[simp] theorem State.modPrs_pending (s : State) (c : Nat) (g : Press → Press) : (s.modPrs c g).pending = s.pending := rfl
@[simp] theorem State.modPrs_freeCtr (s : State) (c : Nat) (g : Press → Press) : (s.modPrs c g).freeCtr = s.freeCtr := rfl
@[simp] theorem State.modPrs_rdata (s : State) (c : Nat) (g : Press → Press) : (s.modPrs c g).rdata = s.rdata := rfl
@[simp] theorem State.modPrs_tiles (s : State) (c : Nat) (g : Press → Press) : (s.modPrs c g).tiles = s.tiles := rfl
@[simp] theorem State.modPrs_fields (s : State) (c : Nat) (g : Press → Press) : (s.modPrs c g).fields = s.fields := rfl
@[simp] theorem State.modPrs_mesh (s : State) (c : Nat) (g : Press → Press) : (s.modPrs c g).mesh = s.mesh := rfl
@[simp] theorem State.modPrs_rims (s : State) (c : Nat) (g : Press → Press) : (s.modPrs c g).rims = s.rims := rfl
@[simp] theorem State.modPrs_wdn (s : State) (c : Nat) (g : Press → Press) : (s.modPrs c g).wdn = s.wdn := rfl
@[simp] theorem State.modPrs_island (s : State) (c : Nat) (g : Press → Press) : (s.modPrs c g).island = s.island := rfl
@[simp] theorem State.modPrs_proof (s : State) (c : Nat) (g : Press → Press) : (s.modPrs c g).proof = s.proof := rfl
@[simp] theorem State.modPrs_krovas (s : State) (c : Nat) (g : Press → Press) : (s.modPrs c g).krovas = s.krovas := rfl
@[simp] theorem State.modPrs_epochQ (s : State) (c : Nat) (g : Press → Press) : (s.modPrs c g).epochQ = s.epochQ := rfl
@[simp] theorem State.modPrs_time (s : State) (c : Nat) (g : Press → Press) : (s.modPrs c g).time = s.time := rfl
@[simp] theorem State.modPrs_sku (s : State) (c : Nat) (g : Press → Press) : (s.modPrs c g).sku = s.sku := rfl
@[simp] theorem State.modPrs_stepId (s : State) (c : Nat) (g : Press → Press) : (s.modPrs c g).stepId = s.stepId := rfl
@[simp] theorem State.modPrs_serial (s : State) (c : Nat) (g : Press → Press) : (s.modPrs c g).serial = s.serial := rfl
@[simp] theorem State.modPrs_etch (s : State) (c : Nat) (g : Press → Press) : (s.modPrs c g).etch = s.etch := rfl

@[simp] theorem State.modWdn_pending (s : State) (g : Warden → Warden) : (s.modWdn g).pending = s.pending := rfl
@[simp] theorem State.modWdn_freeCtr (s : State) (g : Warden → Warden) : (s.modWdn g).freeCtr = s.freeCtr := rfl
@[simp] theorem State.modWdn_rdata (s : State) (g : Warden → Warden) : (s.modWdn g).rdata = s.rdata := rfl
@[simp] theorem State.modWdn_tiles (s : State) (g : Warden → Warden) : (s.modWdn g).tiles = s.tiles := rfl
@[simp] theorem State.modWdn_fields (s : State) (g : Warden → Warden) : (s.modWdn g).fields = s.fields := rfl
@[simp] theorem State.modWdn_mesh (s : State) (g : Warden → Warden) : (s.modWdn g).mesh = s.mesh := rfl
@[simp] theorem State.modWdn_rims (s : State) (g : Warden → Warden) : (s.modWdn g).rims = s.rims := rfl
@[simp] theorem State.modWdn_press (s : State) (g : Warden → Warden) : (s.modWdn g).press = s.press := rfl
@[simp] theorem State.modWdn_wdn (s : State) (g : Warden → Warden) : (s.modWdn g).wdn = g s.wdn := rfl
@[simp] theorem State.modWdn_island (s : State) (g : Warden → Warden) : (s.modWdn g).island = s.island := rfl
@[simp] theorem State.modWdn_proof (s : State) (g : Warden → Warden) : (s.modWdn g).proof = s.proof := rfl
@[simp] theorem State.modWdn_krovas (s : State) (g : Warden → Warden) : (s.modWdn g).krovas = s.krovas := rfl
@[simp] theorem State.modWdn_epochQ (s : State) (g : Warden → Warden) : (s.modWdn g).epochQ = s.epochQ := rfl
@[simp] theorem State.modWdn_time (s : State) (g : Warden → Warden) : (s.modWdn g).time = s.time := rfl
@[simp] theorem State.modWdn_sku (s : State) (g : Warden → Warden) : (s.modWdn g).sku = s.sku := rfl
@[simp] theorem State.modWdn_stepId (s : State) (g : Warden → Warden) : (s.modWdn g).stepId = s.stepId := rfl
@[simp] theorem State.modWdn_serial (s : State) (g : Warden → Warden) : (s.modWdn g).serial = s.serial := rfl
@[simp] theorem State.modWdn_etch (s : State) (g : Warden → Warden) : (s.modWdn g).etch = s.etch := rfl

/-! ### Units read back -/

@[simp] theorem State.fld_setFld (s : State) (f : Nat) (x : Field) : (s.setFld f x).fld f = x := sget_sput _ _ _ _
theorem State.fld_setFld_ne (s : State) {f g : Nat} (x : Field) (h : g ≠ f) : (s.setFld f x).fld g = s.fld g :=
  sget_sput_ne _ _ _ h
@[simp] theorem State.rim_setRim (s : State) (d : Nat) (x : Rim) : (s.setRim d x).rim d = x := sget_sput _ _ _ _
theorem State.rim_setRim_ne (s : State) {d e : Nat} (x : Rim) (h : e ≠ d) : (s.setRim d x).rim e = s.rim e :=
  sget_sput_ne _ _ _ h
@[simp] theorem State.prs_setPrs (s : State) (c : Nat) (x : Press) : (s.setPrs c x).prs c = x := sget_sput _ _ _ _
theorem State.prs_setPrs_ne (s : State) {c e : Nat} (x : Press) (h : e ≠ c) : (s.setPrs c x).prs e = s.prs e :=
  sget_sput_ne _ _ _ h
@[simp] theorem State.fld_setTile (s : State) (r f : Nat) (x : Tile) : (s.setTile r x).fld f = s.fld f := rfl
@[simp] theorem State.fld_setMesh (s : State) (f : Nat) (x : Mesh) : (s.setMesh x).fld f = s.fld f := rfl
@[simp] theorem State.fld_setWdn (s : State) (f : Nat) (x : Warden) : (s.setWdn x).fld f = s.fld f := rfl
@[simp] theorem State.fld_setRim (s : State) (d f : Nat) (x : Rim) : (s.setRim d x).fld f = s.fld f := rfl
@[simp] theorem State.fld_setPrs (s : State) (c f : Nat) (x : Press) : (s.setPrs c x).fld f = s.fld f := rfl

@[simp] theorem State.phys_setTile (s : State) (r q : Nat) (x : Tile) : (s.setTile r x).phys q = s.phys q := rfl
@[simp] theorem State.held_setTile (s : State) (r q : Nat) (x : Tile) : (s.setTile r x).held q = s.held q := rfl
@[simp] theorem State.phys_setMesh (s : State) (q : Nat) (x : Mesh) : (s.setMesh x).phys q = s.phys q := rfl
@[simp] theorem State.tile_setMesh (s : State) (q : Nat) (x : Mesh) : (s.setMesh x).tile q = s.tile q := rfl
@[simp] theorem State.tile_setRim (s : State) (d q : Nat) (x : Rim) : (s.setRim d x).tile q = s.tile q := rfl
@[simp] theorem State.tile_setPrs (s : State) (c q : Nat) (x : Press) : (s.setPrs c x).tile q = s.tile q := rfl
@[simp] theorem State.tile_setWdn (s : State) (q : Nat) (x : Warden) : (s.setWdn x).tile q = s.tile q := rfl

/-- A tile read back: what was written, with the reset view of its field. -/
@[simp] theorem State.tile_setTile (s : State) (r : Nat) (x : Tile) :
    (s.setTile r x).tile r = { x with rst := s.held r } := by
  show ({ sget {} (sput s.tiles (s.phys r) x) (s.phys r) with rst := s.held r } : Tile) = _
  rw [sget_sput]

theorem State.tile_setTile_ne (s : State) {r q : Nat} (x : Tile) (h : s.phys q ≠ s.phys r) :
    (s.setTile r x).tile q = s.tile q := by
  show ({ sget {} (sput s.tiles (s.phys r) x) (s.phys q) with rst := s.held q } : Tile) = _
  rw [sget_sput_ne _ _ _ h]
  rfl

@[simp] theorem State.setTile_setTile (s : State) (r : Nat) (x y : Tile) : (s.setTile r x).setTile r y = s.setTile r y := by
  simp [State.setTile, State.phys, State.fld]

@[simp] theorem State.tile_rst (s : State) (r : Nat) : (s.tile r).rst = s.held r := rfl

end Sys2Proof.Machine
end

