-- ==== Sys2Proof/Laws/KeptBase.lean ====
section
/-! SUPPORT. What hardly any command changes: the fuses, the power cap, and what the island has burnt. `State.kept` is that
part of the state, and the lemmas here say how it passes through an update, an if and a fold; `Laws/Kept.lean` says of each
shared operation that it keeps it. -/

namespace Sys2Proof.Machine

/-- What is burnt or recorded in the island for good. -/
def Island.burnt (i : Island) : List Nat × Sparse Nat × Nat × Nat := (i.revoked, i.minSvn, i.dikGen, i.tamper)

/-- Fuses, the power cap and what the island has burnt. -/
def State.kept (s : State) : (Nat × Nat × W64 × Sparse (List W32)) × Nat × (List Nat × Sparse Nat × Nat × Nat) :=
  ((s.sku, s.stepId, s.serial, s.etch), s.wdn.pwrCap, s.island.burnt)

@[simp] theorem State.sku_kept (s : State) : s.sku = s.kept.1.1 := by unfold State.kept; rfl
@[simp] theorem State.stepId_kept (s : State) : s.stepId = s.kept.1.2.1 := by unfold State.kept; rfl
@[simp] theorem State.serial_kept (s : State) : s.serial = s.kept.1.2.2.1 := by unfold State.kept; rfl
@[simp] theorem State.etch_kept (s : State) : s.etch = s.kept.1.2.2.2 := by unfold State.kept; rfl
@[simp] theorem State.pwrCap_kept (s : State) : s.wdn.pwrCap = s.kept.2.1 := by unfold State.kept; rfl
@[simp] theorem State.burnt_kept (s : State) : s.island.burnt = s.kept.2.2 := by unfold State.kept; rfl

@[simp] theorem State.kept_mk (a1 a2 a3 a4 a5 a6 a7 a8 wdn isl a11 a12 a13 a14 sku stepId serial etch) :
    (State.mk a1 a2 a3 a4 a5 a6 a7 a8 wdn isl a11 a12 a13 a14 sku stepId serial etch).kept
      = ((sku, stepId, serial, etch), wdn.pwrCap, isl.burnt) := by unfold State.kept; rfl

@[simp] theorem State.kept_ite (c : Prop) [Decidable c] (s u : State) :
    (if c then s else u).kept = if c then s.kept else u.kept := by split <;> simp

@[simp] theorem State.kept_foldl {α : Type} (g : State → α → State) (h : ∀ s a, (g s a).kept = s.kept) (l : List α) :
    ∀ s : State, (l.foldl g s).kept = s.kept := by
  induction l with
  | nil => intro s; rfl
  | cons a l ih => intro s; rw [List.foldl_cons, ih, h]

@[simp] theorem Warden.pwrCap_foldl {α : Type} (g : Warden → α → Warden) (h : ∀ s a, (g s a).pwrCap = s.pwrCap) (l : List α) :
    ∀ w : Warden, (l.foldl g w).pwrCap = w.pwrCap := by
  induction l with
  | nil => intro w; rfl
  | cons a l ih => intro w; rw [List.foldl_cons, ih, h]

@[simp] theorem Warden.pwrCap_ite (c : Prop) [Decidable c] (s u : Warden) :
    (if c then s else u).pwrCap = if c then s.pwrCap else u.pwrCap := by split <;> simp

/-- The state that an instruction of a tile leaves. -/
def Res.st : Res → State
  | .ok s _ | .wait s _ | .blocked s | .halt s _ | .fault s _ _ => s

/-- The state that an instruction of a Press core leaves. -/
def PRes.st : PRes → State
  | .ok s _ | .wait s | .blocked s | .trap s _ _ _ => s

/-- The state after the fetch of a Press core. -/
def PFetched.st : PFetched → State
  | .instr s _ _ _ | .bad s _ _ _ => s

theorem State.fst_kept {α : Type} {x : State × α} {s u : State} {a : α} (h : x = (u, a)) (k : x.1.kept = s.kept) :
    u.kept = s.kept := by rw [h] at k; exact k

theorem State.fst_kept_ite {α : Type} (p : Prop) [Decidable p] (x y : State × α) (s : State) (h : x.1.kept = s.kept)
    (k : y.1.kept = s.kept) : (if p then x else y).1.kept = s.kept := by split <;> assumption

@[simp] theorem Res.st_ok (s n) : (Res.ok s n).st = s := by unfold Res.st; rfl
@[simp] theorem Res.st_wait (s n) : (Res.wait s n).st = s := by unfold Res.st; rfl
@[simp] theorem Res.st_blocked (s) : (Res.blocked s).st = s := by unfold Res.st; rfl
@[simp] theorem Res.st_halt (s n) : (Res.halt s n).st = s := by unfold Res.st; rfl
@[simp] theorem Res.st_fault (s x m) : (Res.fault s x m).st = s := by unfold Res.st; rfl
@[simp] theorem PRes.st_ok (s n) : (PRes.ok s n).st = s := by unfold PRes.st; rfl
@[simp] theorem PRes.st_wait (s) : (PRes.wait s).st = s := by unfold PRes.st; rfl
@[simp] theorem PRes.st_blocked (s) : (PRes.blocked s).st = s := by unfold PRes.st; rfl
@[simp] theorem PRes.st_trap (s c d a) : (PRes.trap s c d a).st = s := by unfold PRes.st; rfl

@[simp] theorem Res.st_ite (c : Prop) [Decidable c] (s u : Res) : (if c then s else u).st = if c then s.st else u.st := by split <;> simp
@[simp] theorem PRes.st_ite (c : Prop) [Decidable c] (s u : PRes) : (if c then s else u).st = if c then s.st else u.st := by split <;> simp

@[simp] theorem State.setWdn_kept (s : State) (w : Warden) : (s.setWdn w).kept = ((s.sku, s.stepId, s.serial, s.etch), w.pwrCap, s.island.burnt) := by unfold State.setWdn State.kept; rfl
@[simp] theorem State.modWdn_kept (s : State) (g : Warden → Warden) : (s.modWdn g).kept = ((s.sku, s.stepId, s.serial, s.etch), (g s.wdn).pwrCap, s.island.burnt) := by unfold State.modWdn State.kept; rfl

end Sys2Proof.Machine
end

