-- ==== Sys2Proof/Laws/Kept.lean ====
section
/-! SUPPORT. Each operation of the model that leaves the fuses, the power cap and what the island has burnt as they were:
one lemma an operation, in the order in which the model defines them. -/

namespace Sys2Proof.Machine

@[simp] theorem Island.reset_kept (a0 : Island) (a1 : Bool) : (@Island.reset a0 a1).burnt = a0.burnt := by
  unfold Island.reset; rfl

@[simp] theorem State.clocked_kept (s u : State) (h : u.kept = s.kept) : (s.clocked u).kept = s.kept := by
  unfold State.clocked; split <;> simp [h]

@[simp] theorem State.setFld_kept (a0 : State) (a1 : Nat) (a2 : Field) : (@State.setFld a0 a1 a2).kept = a0.kept := by
  unfold State.setFld; rfl

@[simp] theorem State.setTile_kept (a0 : State) (a1 : Nat) (a2 : Tile) : (@State.setTile a0 a1 a2).kept = a0.kept := by
  unfold State.setTile; rfl

@[simp] theorem State.modTile_kept (a0 : State) (a1 : Nat) (a2 : Tile → Tile) :
    (@State.modTile a0 a1 a2).kept = a0.kept := by
  unfold State.modTile; rfl

@[simp] theorem State.modFld_kept (a0 : State) (a1 : Nat) (a2 : Field → Field) :
    (@State.modFld a0 a1 a2).kept = a0.kept := by
  unfold State.modFld; rfl

@[simp] theorem State.setMesh_kept (a0 : State) (a1 : Mesh) : (@State.setMesh a0 a1).kept = a0.kept := by
  unfold State.setMesh; rfl

@[simp] theorem State.setRim_kept (a0 : State) (a1 : Nat) (a2 : Rim) : (@State.setRim a0 a1 a2).kept = a0.kept := by
  unfold State.setRim; rfl

@[simp] theorem State.modRim_kept (a0 : State) (a1 : Nat) (a2 : Rim → Rim) : (@State.modRim a0 a1 a2).kept = a0.kept := by
  unfold State.modRim; rfl

@[simp] theorem State.setPrs_kept (a0 : State) (a1 : Nat) (a2 : Press) : (@State.setPrs a0 a1 a2).kept = a0.kept := by
  unfold State.setPrs; rfl

@[simp] theorem State.modPrs_kept (a0 : State) (a1 : Nat) (a2 : Press → Press) :
    (@State.modPrs a0 a1 a2).kept = a0.kept := by
  unfold State.modPrs; rfl

@[simp] theorem State.putInbox_kept (a0 : State) (a1 : Nat) (a2 : RPort) (a3 : Packet) :
    (@State.putInbox a0 a1 a2 a3).kept = a0.kept := by
  unfold State.putInbox; rfl

@[simp] theorem State.inject_kept (a0 : State) (a1 : Nat) (a2 : RPort) (a3 : Packet) :
    (@State.inject a0 a1 a2 a3).kept = a0.kept := by
  simp [State.inject]

@[simp] theorem State.reply_kept (a0 : State) (a1 : Nat) (a2 : RPort) (a3 : Bool) (a4 : Packet) (a5 : Nat) (a6 : W32) :
    (@State.reply a0 a1 a2 a3 a4 a5 a6).kept = a0.kept := by
  simp [State.reply]

@[simp] theorem State.popFront_kept (a0 : State) (a1 : Nat) (a2 : RPort) (a3 : Nat) :
    (@State.popFront a0 a1 a2 a3).kept = a0.kept := by
  unfold State.popFront; rfl

@[simp] theorem State.take_kept (a0 : State) (a1 : Nat) (a2 : RPort) (a3 : Nat) (a4 : Nat) (a5 : Packet → State → State) (h0 : ∀ (y0 : Packet) (y1 : State), (a5 y0 y1).kept = y1.kept) :
    (@State.take a0 a1 a2 a3 a4 a5).kept = a0.kept := by
  unfold State.take; (try dsimp only); (repeat' split) <;> (try simp [*])

@[simp] theorem State.xdropOne_kept (a0 : State) (a1 : Nat) : (@State.xdropOne a0 a1).kept = a0.kept := by
  unfold State.xdropOne; rfl

@[simp] theorem Warden.sendMsix_kept (a0 : Warden) (a1 : Nat) :
    (@Warden.sendMsix a0 a1).pwrCap = a0.pwrCap := by
  simp [Warden.sendMsix]

@[simp] theorem Warden.pushIbi_kept (a0 : Warden) (a1 : Nat) (a2 : Nat) :
    (@Warden.pushIbi a0 a1 a2).pwrCap = a0.pwrCap := by
  unfold Warden.pushIbi; rfl

@[simp] theorem Warden.fieldEvent_kept (a0 : Warden) (a1 : Nat) :
    (@Warden.fieldEvent a0 a1).pwrCap = a0.pwrCap := by
  simp [Warden.fieldEvent]

@[simp] theorem State.tileFault_kept (a0 : State) (a1 : Nat) (a2 : FaultRec) (a3 : W32) (a4 : Bool) (a5 : Bool) :
    (@State.tileFault a0 a1 a2 a3 a4 a5).kept = a0.kept := by
  unfold State.tileFault; rfl

@[simp] theorem State.takeAsync_kept (a0 : State) (a1 : Nat) (a2 : FaultRec) (a3 : Bool) :
    (@State.takeAsync a0 a1 a2 a3).kept = a0.kept := by
  simp [State.takeAsync]

@[simp] theorem State.complete_kept (a0 : State) (a1 : Nat) (a2 : W32) : (@State.complete a0 a1 a2).kept = a0.kept := by
  unfold State.complete; (try simp); (repeat' (split <;> (try simp)))

@[simp] theorem State.halt_kept (a0 : State) (a1 : Nat) (a2 : W32) : (@State.halt a0 a1 a2).kept = a0.kept := by
  unfold State.halt; (try simp); (repeat' (split <;> (try simp)))

@[simp] theorem State.sendArrivals_kept (a0 : State) (a1 : Nat) (a2 : Nat) :
    (@State.sendArrivals a0 a1 a2).kept = a0.kept := by
  induction a2 generalizing a0 with | zero => rfl | succ k ih => (unfold State.sendArrivals; dsimp only; repeat' (first | split | rfl | (rw [ih]; simp)))

@[simp] theorem State.serveWaiters_kept (a0 : State) (a1 : Nat) (a2 : Nat) (a3 : Nat) :
    (@State.serveWaiters a0 a1 a2 a3).kept = a0.kept := by
  induction a3 generalizing a0 with | zero => rfl | succ k ih => (unfold State.serveWaiters; dsimp only; repeat' (first | split | rfl | (rw [ih]; simp) | (simp;done)))

@[simp] theorem State.asyncFault_kept (a0 : State) (a1 : Nat) (a2 : Nat) (a3 : FaultRec) :
    (@State.asyncFault a0 a1 a2 a3).kept = a0.kept := by
  unfold State.asyncFault; (try simp); (repeat' (split <;> (try simp)))

@[simp] theorem localBody_kept (a0 : LBody) (a1 : Nat) (a2 : Fields) (a3 : W32) (a4 : W32) (a5 : State) :
    (@localBody a0 a1 a2 a3 a4 a5).st.kept = a5.kept := by
  unfold localBody; (try simp); (repeat' (split <;> (try simp)))

@[simp] theorem State.noteFetch_kept (a0 : State) (a1 : Nat) (a2 : W32) (a3 : Nat) :
    (@State.noteFetch a0 a1 a2 a3).kept = a0.kept := by
  unfold State.noteFetch; rfl

@[simp] theorem State.coreFault_kept (a0 : State) (a1 : Nat) (a2 : FaultRec) (a3 : W32) (a4 : Bool) :
    (@State.coreFault a0 a1 a2 a3 a4).kept = a0.kept := by
  simp [State.coreFault]

@[simp] theorem State.finish_kept (a0 : State) (a1 : Nat) (a2 : W32) (a3 : Nat) (a4 : Res) (h0 : a4.st.kept = a0.kept) :
    (@State.finish a0 a1 a2 a3 a4).kept = a0.kept := by
  unfold State.finish; (try simp [*]); (repeat' (split <;> (try simp_all)))

@[simp] theorem State.runTile_kept (a0 : State) (a1 : Nat) (a2 : Mn) (a3 : Mn → Body) (h0 : ∀ (y0 : Mn) (y1 : Nat) (y2 : Fields) (y3 : W32) (y4 : W32) (y5 : State), (a3 y0 y1 y2 y3 y4 y5).st.kept = y5.kept) :
    (@State.runTile a0 a1 a2 a3).kept = a0.kept := by
  unfold State.runTile; (try dsimp only); (repeat' split) <;> (try simp [*])

@[simp] theorem bodyHalt_kept (a0 : Nat) (a1 : Fields) (a2 : W32) (a3 : W32) (a4 : State) :
    (@bodyHalt a0 a1 a2 a3 a4).st.kept = a4.kept := by
  unfold bodyHalt; rfl

@[simp] theorem bodyLdf_kept (a0 : Nat) (a1 : Fields) (a2 : W32) (a3 : W32) (a4 : State) :
    (@bodyLdf a0 a1 a2 a3 a4).st.kept = a4.kept := by
  unfold bodyLdf; (try simp); (repeat' (split <;> (try simp)))

@[simp] theorem bodySte_kept (a0 : Nat) (a1 : Fields) (a2 : W32) (a3 : W32) (a4 : State) :
    (@bodySte a0 a1 a2 a3 a4).st.kept = a4.kept := by
  unfold bodySte; (try simp); (repeat' (split <;> (try simp)))

@[simp] theorem bodyCrd_kept (a0 : Nat) (a1 : Fields) (a2 : W32) (a3 : W32) (a4 : State) :
    (@bodyCrd a0 a1 a2 a3 a4).st.kept = a4.kept := by
  unfold bodyCrd; (try simp); (repeat' (split <;> (try simp)))

@[simp] theorem bodyCwr_kept (a0 : Nat) (a1 : Fields) (a2 : W32) (a3 : W32) (a4 : State) :
    (@bodyCwr a0 a1 a2 a3 a4).st.kept = a4.kept := by
  unfold bodyCwr; (try simp); (repeat' (split <;> (try simp)))

@[simp] theorem State.wait0_kept (a0 : State) (a1 : Nat) (a2 : Nat) (a3 : Nat) (a4 : Bool) :
    (@State.wait0 a0 a1 a2 a3 a4).kept = a0.kept := by
  simp [State.wait0]

@[simp] theorem State.enter_kept (a0 : State) (a1 : Nat) (a2 : Nat) (a3 : Option W32) (a4 : Packet) :
    (@State.enter a0 a1 a2 a3 a4).kept = a0.kept := by
  simp [State.enter]

theorem State.post_kept (s : State) (r i : Nat) (npc : Option W32) (p : Packet) (ga : W64) :
    ∀ u, s.post r i npc p ga = some u → u.kept = s.kept := by
  intro u h
  unfold State.post at h
  dsimp only at h
  split at h
  · cases h
  · split at h
    · cases h; simp
    · cases h

@[simp] theorem State.stall_kept (a0 : State) (a1 : Nat) (a2 : Nat) (a3 : Nat) :
    (@State.stall a0 a1 a2 a3).kept = a0.kept := by
  simp [State.stall]

@[simp] theorem postRes_kept (s : State) (r : Nat) (p : Packet) (ga : W64) (n : W32) : (postRes s r p ga n).st.kept = s.kept := by
  unfold postRes
  split
  · have := State.post_kept _ _ _ _ _ _ _ ‹_›
    split <;> simpa using this
  · simp

@[simp] theorem blockRes_kept (a0 : State) (a1 : Nat) (a2 : BlkKind) (a3 : Nat) (a4 : W32) (a5 : W64) (a6 : Packet) :
    (@blockRes a0 a1 a2 a3 a4 a5 a6).st.kept = a0.kept := by
  simp [blockRes]

@[simp] theorem bodyRlw_kept (a0 : Nat) (a1 : Fields) (a2 : W32) (a3 : W32) (a4 : State) :
    (@bodyRlw a0 a1 a2 a3 a4).st.kept = a4.kept := by
  unfold bodyRlw; (try simp); (repeat' (split <;> (try simp)))

@[simp] theorem rstoreBody_kept (z : Nat) (l : List Nat) (r : Nat) (f : Fields) (a b : W32) (s : State) :
    (rstoreBody z l r f a b s).st.kept = s.kept := by
  unfold rstoreBody; dsimp only; split <;> simp

@[simp] theorem bodyRsw_kept (a0 : Nat) (a1 : Fields) (a2 : W32) (a3 : W32) (a4 : State) :
    (@bodyRsw a0 a1 a2 a3 a4).st.kept = a4.kept := by
  simp [bodyRsw]

@[simp] theorem bodyRsh_kept (a0 : Nat) (a1 : Fields) (a2 : W32) (a3 : W32) (a4 : State) :
    (@bodyRsh a0 a1 a2 a3 a4).st.kept = a4.kept := by
  simp [bodyRsh]

@[simp] theorem bodyRsb_kept (a0 : Nat) (a1 : Fields) (a2 : W32) (a3 : W32) (a4 : State) :
    (@bodyRsb a0 a1 a2 a3 a4).st.kept = a4.kept := by
  simp [bodyRsb]

@[simp] theorem bodyRldf_kept (a0 : Nat) (a1 : Fields) (a2 : W32) (a3 : W32) (a4 : State) :
    (@bodyRldf a0 a1 a2 a3 a4).st.kept = a4.kept := by
  unfold bodyRldf; (try simp); (repeat' (split <;> (try simp)))

@[simp] theorem bodyRste_kept (a0 : Nat) (a1 : Fields) (a2 : W32) (a3 : W32) (a4 : State) :
    (@bodyRste a0 a1 a2 a3 a4).st.kept = a4.kept := by
  unfold bodyRste; (try simp); (repeat' (split <;> (try simp)))

@[simp] theorem withABs_kept (a0 : State) (a1 : Nat) (a2 : Fields) (a3 : State → W32 → W32 → Res) (h0 : ∀ (y0 : State) (y1 : W32) (y2 : W32), (a3 y0 y1 y2).st.kept = y0.kept) :
    (@withABs a0 a1 a2 a3).st.kept = a0.kept := by
  unfold withABs; (try dsimp only); (repeat' split) <;> (try simp [*])

@[simp] theorem qPops_kept (a0 : State) (a1 : Nat) (a2 : Res) (h0 : a2.st.kept = a0.kept) :
    (@qPops a0 a1 a2).st.kept = a0.kept := by
  unfold qPops; (try dsimp only); (repeat' split) <;> (try simp [*])

@[simp] theorem bodyRcopy_kept (r : Nat) (f : Fields) (a b : W32) (s : State) : (bodyRcopy r f a b s).st.kept = s.kept := by
  unfold bodyRcopy
  refine qPops_kept _ _ _ (withABs_kept _ _ _ _ (fun s a b => ?_))
  dsimp only; repeat' split
  all_goals simp

@[simp] theorem bodyRemfence_kept (a0 : Nat) (a1 : Fields) (a2 : W32) (a3 : W32) (a4 : State) :
    (@bodyRemfence a0 a1 a2 a3 a4).st.kept = a4.kept := by
  unfold bodyRemfence; (try simp); (repeat' (split <;> (try simp)))

@[simp] theorem sendqRes_kept (s : State) (r : Nat) (f : Fields) (n : W32) (g : Ga) (ws : List W32) :
    (sendqRes s r f n g ws).st.kept = s.kept := by
  unfold sendqRes; dsimp only; repeat' split
  all_goals simp

@[simp] theorem sendBody_kept (w : W32 → W32 → List W32) (r : Nat) (f : Fields) (a b : W32) (s : State) :
    (sendBody w r f a b s).st.kept = s.kept := by
  unfold sendBody
  refine qPops_kept _ _ _ (withABs_kept _ _ _ _ (fun s a b => ?_))
  split <;> simp

@[simp] theorem bodySendq_kept (a0 : Nat) (a1 : Fields) (a2 : W32) (a3 : W32) (a4 : State) :
    (@bodySendq a0 a1 a2 a3 a4).st.kept = a4.kept := by
  simp [bodySendq]

@[simp] theorem bodySendq2_kept (a0 : Nat) (a1 : Fields) (a2 : W32) (a3 : W32) (a4 : State) :
    (@bodySendq2 a0 a1 a2 a3 a4).st.kept = a4.kept := by
  simp [bodySendq2]

@[simp] theorem bodySendqm_kept (r : Nat) (f : Fields) (a b : W32) (s : State) : (bodySendqm r f a b s).st.kept = s.kept := by
  unfold bodySendqm
  refine qPops_kept _ _ _ (withABs_kept _ _ _ _ (fun s a b => ?_))
  dsimp only; repeat' split
  all_goals simp

@[simp] theorem bodyBarrive_kept (a0 : Nat) (a1 : Fields) (a2 : W32) (a3 : W32) (a4 : State) :
    (@bodyBarrive a0 a1 a2 a3 a4).st.kept = a4.kept := by
  unfold bodyBarrive; (try simp); (repeat' (split <;> (try simp)))

@[simp] theorem bodyBarwaitS_kept (a0 : Nat) (a1 : Fields) (a2 : W32) (a3 : W32) (a4 : State) :
    (@bodyBarwaitS a0 a1 a2 a3 a4).st.kept = a4.kept := by
  unfold bodyBarwaitS; (try simp); (repeat' (split <;> (try simp)))

@[simp] theorem State.tileResp_kept (a0 : State) (a1 : Nat) (a2 : Blk) (a3 : Nat) (a4 : W32) :
    (@State.tileResp a0 a1 a2 a3 a4).kept = a0.kept := by
  simp [State.tileResp]

@[simp] theorem State.tileTakeResp_kept (a0 : State) (a1 : Nat) : (@State.tileTakeResp a0 a1).kept = a0.kept := by
  unfold State.tileTakeResp; (try dsimp only); repeat' (first | (simp [*]; done) | split  | (refine Eq.trans (State.kept_foldl _ ?_ _ _) ?_ <;> intros) | (refine Eq.trans (State.take_kept _ _ _ _ _ _ ?_) ?_ <;> intros) | (refine Eq.trans (State.finish_kept _ _ _ _ _ ?_) ?_ <;> intros) | (refine Eq.trans (State.runTile_kept _ _ _ _ ?_) ?_ <;> intros) | (refine Eq.trans (withABs_kept _ _ _ _ ?_) ?_ <;> intros) | (refine Eq.trans (qPops_kept _ _ _ ?_) ?_ <;> intros))

@[simp] theorem State.tileTakeAck_kept (a0 : State) (a1 : Nat) : (@State.tileTakeAck a0 a1).kept = a0.kept := by
  simp [State.tileTakeAck]

@[simp] theorem State.feRetry_kept (a0 : State) (a1 : Nat) : (@State.feRetry a0 a1).kept = a0.kept := by
  unfold State.feRetry; (try simp); (repeat' (split <;> (try simp)))

@[simp] theorem State.sendReleaseT_kept (a0 : State) (a1 : Nat) (a2 : Nat) (a3 : Rel) (a4 : Bool) :
    (@State.sendReleaseT a0 a1 a2 a3 a4).kept = a0.kept := by
  unfold State.sendReleaseT; rfl

@[simp] theorem State.sendReleaseF_kept (a0 : State) (a1 : Nat) (a2 : W64) (a3 : Rel) :
    (@State.sendReleaseF a0 a1 a2 a3).kept = a0.kept := by
  simp [State.sendReleaseF]

@[simp] theorem State.rootRelease_kept (s : State) (f i : Nat) (cut : Bool) : (s.rootRelease f i cut).kept = s.kept := by
  unfold State.rootRelease
  dsimp only
  split <;> simp

@[simp] theorem State.epochRelease_kept (a0 : State) (a1 : Nat) (a2 : Nat) (a3 : Bool) (a4 : Nat) :
    (@State.epochRelease a0 a1 a2 a3 a4).kept = a0.kept := by
  simp [State.epochRelease]

@[simp] theorem State.rootDone_kept (a0 : State) (a1 : Nat) (a2 : Nat) (a3 : Nat) (a4 : Bool) :
    (@State.rootDone a0 a1 a2 a3 a4).kept = a0.kept := by
  simp [State.rootDone]

@[simp] theorem State.nodeDone_kept (a0 : State) (a1 : Nat) (a2 : Nat) (a3 : Nat) (a4 : Bool) :
    (@State.nodeDone a0 a1 a2 a3 a4).kept = a0.kept := by
  simp [State.nodeDone]

@[simp] theorem State.sysDone_kept (a0 : State) (a1 : Nat) (a2 : Nat) (a3 : Bool) :
    (@State.sysDone a0 a1 a2 a3).kept = a0.kept := by
  unfold State.sysDone; rfl

@[simp] theorem State.takeBar_kept (a0 : State) (a1 : Nat) (a2 : Nat) (a3 : Packet → State → State) (h0 : ∀ (y0 : Packet) (y1 : State), (a3 y0 y1).kept = y1.kept) :
    (@State.takeBar a0 a1 a2 a3).kept = a0.kept := by
  unfold State.takeBar; (try dsimp only); (repeat' split) <;> (try simp [*])

@[simp] theorem State.barArrive_kept (a0 : State) (a1 : Nat) (a2 : Nat) : (@State.barArrive a0 a1 a2).kept = a0.kept := by
  simp [State.barArrive]

@[simp] theorem State.barFdone_kept (a0 : State) (a1 : Nat) : (@State.barFdone a0 a1).kept = a0.kept := by
  simp [State.barFdone]

@[simp] theorem State.barPdone_kept (a0 : State) (a1 : Nat) : (@State.barPdone a0 a1).kept = a0.kept := by
  simp [State.barPdone]

@[simp] theorem State.barPrelease_kept (a0 : State) (a1 : Nat) : (@State.barPrelease a0 a1).kept = a0.kept := by
  simp [State.barPrelease]

@[simp] theorem State.barReleaseF_kept (a0 : State) (a1 : Nat) (a2 : Nat) :
    (@State.barReleaseF a0 a1 a2).kept = a0.kept := by
  unfold State.barReleaseF; (try simp); (repeat' (split <;> (try simp)))

@[simp] theorem State.tileRelease_kept (a0 : State) (a1 : Nat) : (@State.tileRelease a0 a1).kept = a0.kept := by
  unfold State.tileRelease; (try simp); (repeat' (split <;> (try simp)))

@[simp] theorem State.cutNode_kept (a0 : State) (a1 : Nat) (a2 : Nat) (a3 : W32) :
    (@State.cutNode a0 a1 a2 a3).kept = a0.kept := by
  simp [State.cutNode]

@[simp] theorem State.cutRootRemove_kept (a0 : State) (a1 : Nat) (a2 : W32) :
    (@State.cutRootRemove a0 a1 a2).kept = a0.kept := by
  simp [State.cutRootRemove]

@[simp] theorem State.cutRootCredit_kept (a0 : State) (a1 : Nat) (a2 : W32) :
    (@State.cutRootCredit a0 a1 a2).kept = a0.kept := by
  simp [State.cutRootCredit]

@[simp] theorem State.cutSysroot_kept (a0 : State) (a1 : Nat) (a2 : W32) :
    (@State.cutSysroot a0 a1 a2).kept = a0.kept := by
  simp [State.cutSysroot]

@[simp] theorem State.barcutGo_kept (a0 : State) (a1 : Nat) (a2 : Nat) (a3 : Party) (a4 : W32) :
    (@State.barcutGo a0 a1 a2 a3 a4).kept = a0.kept := by
  unfold State.barcutGo; (try simp); (repeat' (split <;> (try simp)))

@[simp] theorem bodyVpop_kept (a0 : Nat) (a1 : Fields) (a2 : W32) (a3 : W32) (a4 : State) :
    (@bodyVpop a0 a1 a2 a3 a4).st.kept = a4.kept := by
  unfold bodyVpop; (try simp); (repeat' (split <;> (try simp)))

theorem State.streamWrite_kept (s : State) (r u : Nat) (d : Desc) : ∀ v, s.streamWrite r u d = some v → v.kept = s.kept := by
  intro v h
  unfold State.streamWrite at h
  dsimp only at h
  repeat' split at h
  all_goals first
    | contradiction
    | (rw [Option.map_eq_some_iff] at h
       obtain ⟨w, hw, rfl⟩ := h
       have := State.post_kept _ _ _ _ _ _ _ hw
       simpa using this)
    | (cases h; simp)

@[simp] theorem State.streamVector_kept (s : State) (r u : Nat) : (s.streamVector r u).kept = s.kept := by
  unfold State.streamVector
  dsimp only
  repeat' split
  all_goals try simp
  exact State.streamWrite_kept _ _ _ _ _ ‹_›

@[simp] theorem State.burnish_kept (a0 : State) (a1 : Nat) : (@State.burnish a0 a1).kept = a0.kept := by
  unfold State.burnish; (try simp); (repeat' (split <;> (try simp)))

@[simp] theorem State.fldWrite_kept (a0 : State) (a1 : Nat) (a2 : Nat) (a3 : Party) (a4 : Nat) (a5 : W32) :
    (@State.fldWrite a0 a1 a2 a3 a4 a5).kept = a0.kept := by
  simp [State.fldWrite]

@[simp] theorem State.takeRdFld_kept (a0 : State) (a1 : Nat) : (@State.takeRdFld a0 a1).kept = a0.kept := by
  simp [State.takeRdFld]

@[simp] theorem State.takeWrFld_kept (a0 : State) (a1 : Nat) (a2 : Nat) : (@State.takeWrFld a0 a1 a2).kept = a0.kept := by
  simp [State.takeWrFld]

@[simp] theorem State.undeliver_kept (a0 : State) (a1 : Nat) (a2 : Flit) :
    (@State.undeliver a0 a1 a2).kept = a0.kept := by
  simp [State.undeliver]

@[simp] theorem State.sealDrop_kept (a0 : State) (a1 : Nat) (a2 : Flit) : (@State.sealDrop a0 a1 a2).kept = a0.kept := by
  unfold State.sealDrop; rfl

@[simp] theorem State.deliver_kept (a0 : State) (a1 : Nat) (a2 : RPort) (a3 : Packet) :
    (@State.deliver a0 a1 a2 a3).kept = a0.kept := by
  unfold State.deliver; (try dsimp only); (repeat' split) <;> (try simp [*])

@[simp] theorem State.popLane_kept (a0 : State) (a1 : Nat) : (@State.popLane a0 a1).kept = a0.kept := by
  unfold State.popLane; rfl

@[simp] theorem State.sinkRest_kept (a0 : State) (a1 : Nat) (a2 : Flit) (a3 : Bool) :
    (@State.sinkRest a0 a1 a2 a3).kept = a0.kept := by
  simp [State.sinkRest]

theorem State.headOut_kept (a0 : State) (a1 : Nat) (a2 : Nat) (a3 : Flit) (a4 : RPort) (a5 : Bool) (a6 : Nat) :
    ∀ u, (@State.headOut a0 a1 a2 a3 a4 a5 a6) = some u → u.kept = a0.kept := by
  unfold State.headOut; (try simp); (repeat' (split <;> (try simp)))

theorem State.headHere_kept (a0 : State) (a1 : Nat) (a2 : Nat) (a3 : Flit) (a4 : RPort) :
    ∀ u, (@State.headHere a0 a1 a2 a3 a4) = some u → u.kept = a0.kept := by
  unfold State.headHere; (try dsimp only); repeat' (first | (simp [*]; done) | split | (refine Eq.trans (State.kept_foldl _ ?_ _ _) ?_ <;> intros) | (refine Eq.trans (State.take_kept _ _ _ _ _ _ ?_) ?_ <;> intros) | (refine Eq.trans (State.finish_kept _ _ _ _ _ _ ?_) ?_ <;> intros) | (refine Eq.trans (State.runTile_kept _ _ _ _ ?_) ?_ <;> intros) | (refine Eq.trans (withABs_kept _ _ _ _ ?_) ?_ <;> intros) | (refine Eq.trans (qPops_kept _ _ _ ?_) ?_ <;> intros) | (refine Eq.trans (State.takeBar_kept _ _ _ _ ?_) ?_ <;> intros))

theorem State.moveHead_kept (s : State) (r k : Nat) (p : RPort) (fl : Flit) : ∀ v, s.moveHead r k p fl = some v → v.kept = s.kept := by
  intro v h
  unfold State.moveHead at h
  dsimp only at h
  repeat' split at h
  all_goals first
    | (cases h; simp; done)
    | exact State.headHere_kept _ _ _ _ _ _ h
    | exact State.headOut_kept _ _ _ _ _ _ _ _ h

theorem State.moveBody_kept (a0 : State) (a1 : Nat) (a2 : Nat) (a3 : Flit) (a4 : Nat) (a5 : Flit) :
    ∀ u, (@State.moveBody a0 a1 a2 a3 a4 a5) = some u → u.kept = a0.kept := by
  unfold State.moveBody; (try simp); (repeat' (split <;> (try simp)))

theorem State.moveFlit_kept (s : State) (r k : Nat) (p : RPort) (fl : Flit) : ∀ v, s.moveFlit r k p fl = some v → v.kept = s.kept := by
  intro v h
  unfold State.moveFlit at h
  dsimp only at h
  repeat' split at h
  all_goals first
    | (cases h; simp; done)
    | exact State.moveHead_kept _ _ _ _ _ _ h
    | exact State.moveBody_kept _ _ _ _ _ _ _ h

@[simp] theorem State.recordLink_kept (a0 : State) (a1 : Nat) (a2 : RPort) :
    (@State.recordLink a0 a1 a2).kept = a0.kept := by
  unfold State.recordLink; rfl

@[simp] theorem State.undeliverAt_kept (a0 : State) (a1 : Nat) (a2 : RPort) (a3 : Flit) :
    (@State.undeliverAt a0 a1 a2 a3).kept = a0.kept := by
  simp [State.undeliverAt]

@[simp] theorem State.loseFlit_kept (a0 : State) (a1 : Nat) (a2 : RPort) (a3 : Flit) :
    (@State.loseFlit a0 a1 a2 a3).kept = a0.kept := by
  unfold State.loseFlit; (try simp); (repeat' (split <;> (try simp)))

@[simp] theorem State.failLink_kept (a0 : State) (a1 : Nat) (a2 : RPort) (a3 : List (Nat × Flit)) :
    (@State.failLink a0 a1 a2 a3).kept = a0.kept := by
  unfold State.failLink; (try simp); (repeat' (split <;> (try simp)))

@[simp] theorem State.hopUe_kept (a0 : State) (a1 : Nat) (a2 : RPort) (a3 : Nat) :
    (@State.hopUe a0 a1 a2 a3).kept = a0.kept := by
  unfold State.hopUe; (try simp); (repeat' (split <;> (try simp)))

@[simp] theorem State.hopReplay_kept (a0 : State) (a1 : Nat) (a2 : RPort) :
    (@State.hopReplay a0 a1 a2).kept = a0.kept := by
  unfold State.hopReplay; rfl

@[simp] theorem State.forward_kept (s : State) (r : Nat) (p : RPort) (ch : Nat) (b : Bool) (e : FlitErr) :
    (s.forward r p ch b e).kept = s.kept := by
  unfold State.forward
  dsimp only
  repeat' split
  all_goals first
    | rfl
    | (simp; done)
    | (have h := State.moveFlit_kept _ _ _ _ _ _ ‹_›; simpa using h)

@[simp] theorem State.sendDone_kept (s : State) (r : Nat) (p : RPort) (ch : Nat) : (s.sendDone r p ch).kept = s.kept := by
  unfold State.sendDone
  split
  · dsimp only
    repeat' split
    all_goals simp
  · rfl

@[simp] theorem State.creditBack_kept (a0 : State) (a1 : Nat) (a2 : RPort) (a3 : Nat) (a4 : Nat) (a5 : Bool) :
    (@State.creditBack a0 a1 a2 a3 a4 a5).kept = a0.kept := by
  simp [State.creditBack]

@[simp] theorem State.creditReturn_kept (a0 : State) (a1 : Nat) (a2 : RPort) (a3 : Nat) (a4 : Bool) (a5 : Bool) :
    (@State.creditReturn a0 a1 a2 a3 a4 a5).kept = a0.kept := by
  simp [State.creditReturn]

@[simp] theorem State.crossDrop_kept (a0 : State) (a1 : Nat) (a2 : Nat) (a3 : Flit) :
    (@State.crossDrop a0 a1 a2 a3).kept = a0.kept := by
  unfold State.crossDrop; (try simp); (repeat' (split <;> (try simp)))

@[simp] theorem State.meshReset_kept (a0 : State) (a1 : Nat) :
    (@State.meshReset a0 a1).kept = a0.kept := by
  simp [State.meshReset]

@[simp] theorem State.tileServe_kept (a0 : State) (a1 : Nat) (a2 : Nat) (a3 : Nat) (a4 : Packet → State → State) (h0 : ∀ (y0 : Packet) (y1 : State), (a4 y0 y1).kept = y1.kept) :
    (@State.tileServe a0 a1 a2 a3 a4).kept = a0.kept := by
  unfold State.tileServe; (try dsimp only); repeat' (first | (simp [*]; done) | split  | (refine Eq.trans (State.kept_foldl _ ?_ _ _) ?_ <;> intros) | (refine Eq.trans (State.take_kept _ _ _ _ _ _ ?_) ?_ <;> intros) | (refine Eq.trans (State.finish_kept _ _ _ _ _ ?_) ?_ <;> intros) | (refine Eq.trans (State.runTile_kept _ _ _ _ ?_) ?_ <;> intros) | (refine Eq.trans (withABs_kept _ _ _ _ ?_) ?_ <;> intros) | (refine Eq.trans (qPops_kept _ _ _ ?_) ?_ <;> intros) | (refine Eq.trans (State.takeBar_kept _ _ _ _ ?_) ?_ <;> intros))

@[simp] theorem State.takeRdMem_kept (s : State) (r : Nat) : (s.takeRdMem r).kept = s.kept := by
  unfold State.takeRdMem
  refine State.tileServe_kept _ _ _ _ _ (fun q s => ?_)
  split <;> simp

@[simp] theorem State.takeRdCtl_kept (a0 : State) (a1 : Nat) : (@State.takeRdCtl a0 a1).kept = a0.kept := by
  simp [State.takeRdCtl]

@[simp] theorem State.takeWrMem_kept (a0 : State) (a1 : Nat) : (@State.takeWrMem a0 a1).kept = a0.kept := by
  simp [State.takeWrMem]

@[simp] theorem State.takeWrCtl_kept (a0 : State) (a1 : Nat) : (@State.takeWrCtl a0 a1).kept = a0.kept := by
  simp [State.takeWrCtl]

@[simp] theorem State.takeWrSub_kept (s : State) (r op z : Nat) : (s.takeWrSub r op z).kept = s.kept := by
  unfold State.takeWrSub
  refine State.tileServe_kept _ _ _ _ _ (fun q s => ?_)
  dsimp only; split <;> simp

@[simp] theorem State.park_kept (a0 : State) (a1 : Nat) (a2 : Packet) (a3 : Bool) (a4 : Nat) (a5 : W32) :
    (@State.park a0 a1 a2 a3 a4 a5).kept = a0.kept := by
  simp [State.park]

@[simp] theorem State.takeFeLd_kept (s : State) (r : Nat) : (s.takeFeLd r).kept = s.kept := by
  unfold State.takeFeLd
  refine State.tileServe_kept _ _ _ _ _ (fun q s => ?_)
  dsimp only; repeat' split
  all_goals simp

@[simp] theorem State.takeFeSt_kept (s : State) (r : Nat) : (s.takeFeSt r).kept = s.kept := by
  unfold State.takeFeSt
  refine State.tileServe_kept _ _ _ _ _ (fun q s => ?_)
  dsimp only; repeat' split
  all_goals simp

@[simp] theorem State.takeQmsg_kept (a0 : State) (a1 : Nat) : (@State.takeQmsg a0 a1).kept = a0.kept := by
  unfold State.takeQmsg; (try simp); (repeat' (split <;> (try simp)))

@[simp] theorem State.buildCols_kept (s : State) : s.buildCols.kept = s.kept := by
  unfold State.buildCols
  simp only [State.modWdn_kept]
  rw [Warden.pwrCap_foldl _ (fun w f => by dsimp only)]
  simp

@[simp] theorem Warden.complete_kept (a0 : Warden) (a1 : Cpl) : (@Warden.complete a0 a1).pwrCap = a0.pwrCap := by
  unfold Warden.complete; rfl

@[simp] theorem Warden.windowError_kept (a0 : Warden) (a1 : Nat) : (@Warden.windowError a0 a1).pwrCap = a0.pwrCap := by
  unfold Warden.windowError; rfl

@[simp] theorem Warden.dropReads_kept (a0 : Warden) (a1 : Nat) : (@Warden.dropReads a0 a1).pwrCap = a0.pwrCap := by
  unfold Warden.dropReads; rfl

@[simp] theorem State.meshAnswer_kept (a0 : State) (a1 : Nat) (a2 : Nat) (a3 : Nat) (a4 : W32) :
    (@State.meshAnswer a0 a1 a2 a3 a4).kept = a0.kept := by
  unfold State.meshAnswer; (try simp); (repeat' (split <;> (try simp)))

@[simp] theorem State.meshLost_kept (a0 : State) (a1 : Nat) (a2 : StyCmd) :
    (@State.meshLost a0 a1 a2).kept = a0.kept := by
  unfold State.meshLost; (try simp); (repeat' (split <;> (try simp)))

@[simp] theorem Warden.setUnav_kept (a0 : Warden) (a1 : Nat) : (@Warden.setUnav a0 a1).pwrCap = a0.pwrCap := by
  unfold Warden.setUnav; rfl

@[simp] theorem State.fieldAssert_kept (a0 : State) (a1 : Nat) : (@State.fieldAssert a0 a1).kept = a0.kept := by
  simp [State.fieldAssert]

@[simp] theorem State.fieldSequence_kept (a0 : State) (a1 : Nat) : (@State.fieldSequence a0 a1).kept = a0.kept := by
  unfold State.fieldSequence; rfl

@[simp] theorem State.declareDead_kept (a0 : State) (a1 : Nat) : (@State.declareDead a0 a1).kept = a0.kept := by
  simp [State.declareDead]

@[simp] theorem State.releaseBegin_kept (a0 : State) : (@State.releaseBegin a0).kept = a0.kept := by
  simp [State.releaseBegin]

@[simp] theorem State.stageAdvance_kept (a0 : State) : (@State.stageAdvance a0).kept = a0.kept := by
  unfold State.stageAdvance; (try simp); (repeat' (split <;> (try simp)))

@[simp] theorem State.waveOne_kept (a0 : State) (a1 : Nat) : (@State.waveOne a0 a1).kept = a0.kept := by
  simp [State.waveOne]

@[simp] theorem State.waveRelease_kept (a0 : State) : (@State.waveRelease a0).kept = a0.kept := by
  simp [State.waveRelease]

@[simp] theorem State.subwave_kept (a0 : State) (a1 : Nat) : (@State.subwave a0 a1).kept = a0.kept := by
  simp [State.subwave]

@[simp] theorem State.takeColmap_kept (a0 : State) (a1 : Nat) : (@State.takeColmap a0 a1).kept = a0.kept := by
  simp [State.takeColmap]

@[simp] theorem State.takeTopo_kept (a0 : State) (a1 : Nat) : (@State.takeTopo a0 a1).kept = a0.kept := by
  unfold State.takeTopo; (try simp); (repeat' (split <;> (try simp)))

@[simp] theorem Warden.refuse_kept (a0 : Warden) : (@Warden.refuse a0).pwrCap = a0.pwrCap := by
  unfold Warden.refuse; rfl

@[simp] theorem State.wdnRefuse_kept (a0 : State) : (@State.wdnRefuse a0).kept = a0.kept := by
  unfold State.wdnRefuse; rfl

@[simp] theorem State.wrRstField_kept (a0 : State) (a1 : Party) (a2 : W32) :
    (@State.wrRstField a0 a1 a2).kept = a0.kept := by
  simp [State.wrRstField]

@[simp] theorem State.wrRstTile_kept (a0 : State) (a1 : Party) (a2 : W32) :
    (@State.wrRstTile a0 a1 a2).kept = a0.kept := by
  simp [State.wrRstTile]

@[simp] theorem State.takeRstF_kept (a0 : State) (a1 : Nat) : (@State.takeRstF a0 a1).kept = a0.kept := by
  unfold State.takeRstF; (try simp); (repeat' (split <;> (try simp)))

@[simp] theorem State.resetBox_kept (a0 : State) (a1 : Nat) (a2 : Nat) : (@State.resetBox a0 a1 a2).kept = a0.kept := by
  simp [State.resetBox]

@[simp] theorem State.resetParked_kept (a0 : State) (a1 : Nat) (a2 : Waiter) :
    (@State.resetParked a0 a1 a2).kept = a0.kept := by
  unfold State.resetParked; (try simp); (repeat' (split <;> (try simp)))

@[simp] theorem State.resetDrain_kept (a0 : State) (a1 : Nat) : (@State.resetDrain a0 a1).kept = a0.kept := by
  simp [State.resetDrain]

@[simp] theorem State.tileResetNow_kept (a0 : State) (a1 : Nat) : (@State.tileResetNow a0 a1).kept = a0.kept := by
  simp [State.tileResetNow]

@[simp] theorem State.takeRstT_kept (a0 : State) (a1 : Nat) : (@State.takeRstT a0 a1).kept = a0.kept := by
  unfold State.takeRstT; (try simp); (repeat' (split <;> (try simp)))

@[simp] theorem State.fieldDone_kept (a0 : State) (a1 : Nat) : (@State.fieldDone a0 a1).kept = a0.kept := by
  simp [State.fieldDone]

@[simp] theorem State.pllLock_kept (a0 : State) (a1 : Nat) : (@State.pllLock a0 a1).kept = a0.kept := by
  simp [State.pllLock]

@[simp] theorem State.pllTimeout_kept (a0 : State) (a1 : Nat) : (@State.pllTimeout a0 a1).kept = a0.kept := by
  simp [State.pllTimeout]

@[simp] theorem State.domLock_kept (a0 : State) (a1 : Domain) : (@State.domLock a0 a1).kept = a0.kept := by
  unfold State.domLock; (try simp); (repeat' (split <;> (try simp)))

@[simp] theorem Warden.reportDown_kept (a0 : Warden) (a1 : Domain) :
    (@Warden.reportDown a0 a1).pwrCap = a0.pwrCap := by
  simp [Warden.reportDown]

@[simp] theorem State.domTimeout_kept (s : State) (m : Domain) : (s.domTimeout m).kept = s.kept := by
  unfold State.domTimeout
  repeat' split
  all_goals simp

@[simp] theorem State.regTimeout_kept (a0 : State) (a1 : Nat) : (@State.regTimeout a0 a1).kept = a0.kept := by
  simp [State.regTimeout]

@[simp] theorem State.ackTimeout_kept (a0 : State) (a1 : Nat) : (@State.ackTimeout a0 a1).kept = a0.kept := by
  simp [State.ackTimeout]

@[simp] theorem State.initTimeout_kept (a0 : State) (a1 : Nat) : (@State.initTimeout a0 a1).kept = a0.kept := by
  simp [State.initTimeout]

@[simp] theorem State.wrFldDead_kept (a0 : State) (a1 : Party) (a2 : Bool) (a3 : W32) :
    (@State.wrFldDead a0 a1 a2 a3).kept = a0.kept := by
  simp [State.wrFldDead]

@[simp] theorem State.wrFldUnav_kept (s : State) (p : Party) (hi : Bool) (v : W32) : (s.wrFldUnav p hi v).kept = s.kept := by
  unfold State.wrFldUnav
  split
  · simp
  · simp

@[simp] theorem Warden.wrGap_kept (a0 : Warden) (a1 : Party) (a2 : Nat) (a3 : W32) :
    (@Warden.wrGap a0 a1 a2 a3).pwrCap = a0.pwrCap := by
  simp [Warden.wrGap]

@[simp] theorem Warden.wrCause_kept (a0 : Warden) (a1 : Party) (a2 : W32) :
    (@Warden.wrCause a0 a1 a2).pwrCap = a0.pwrCap := by
  simp [Warden.wrCause]

@[simp] theorem Warden.wrStat_kept (a0 : Warden) (a1 : Party) (a2 : W32) :
    (@Warden.wrStat a0 a1 a2).pwrCap = a0.pwrCap := by
  simp [Warden.wrStat]

@[simp] theorem Warden.wrKeep_kept (a0 : Warden) (a1 : Party) (a2 : Nat) (a3 : W64) :
    (@Warden.wrKeep a0 a1 a2 a3).pwrCap = a0.pwrCap := by
  simp [Warden.wrKeep]

@[simp] theorem Warden.wrKeep32_kept (a0 : Warden) (a1 : Party) (a2 : Nat) (a3 : W32) :
    (@Warden.wrKeep32 a0 a1 a2 a3).pwrCap = a0.pwrCap := by
  simp [Warden.wrKeep32]

@[simp] theorem Warden.setCeil_kept (a0 : Warden) (a1 : Nat) (a2 : Nat) :
    (@Warden.setCeil a0 a1 a2).pwrCap = a0.pwrCap := by
  unfold Warden.setCeil; rfl

@[simp] theorem State.sendCeils_kept (a0 : State) :
    (@State.sendCeils a0).kept = a0.kept := by
  simp [State.sendCeils]

@[simp] theorem State.govLower_kept (s : State) : s.govLower.kept = s.kept := by
  unfold State.govLower
  dsimp only
  split <;> simp

@[simp] theorem State.govRaise_kept (s : State) : s.govRaise.kept = s.kept := by
  unfold State.govRaise
  simp

@[simp] theorem State.govPeriod_kept (s : State) (n : Nat) : (s.govPeriod n).kept = s.kept := by
  unfold State.govPeriod
  dsimp only
  repeat' split
  all_goals simp

@[simp] theorem State.powerReport_kept (a0 : State) (a1 : PowerSrc) (a2 : Nat) :
    (@State.powerReport a0 a1 a2).kept = a0.kept := by
  unfold State.powerReport; (try simp); (repeat' (split <;> (try simp)))

@[simp] theorem State.takeCeil_kept (a0 : State) (a1 : Nat) : (@State.takeCeil a0 a1).kept = a0.kept := by
  simp [State.takeCeil]

@[simp] theorem Warden.setAlert_kept (a0 : Warden) : (@Warden.setAlert a0).pwrCap = a0.pwrCap := by
  simp [Warden.setAlert]

@[simp] theorem State.alertAssert_kept (a0 : State) :
    (@State.alertAssert a0).kept = a0.kept := by
  simp [State.alertAssert]

@[simp] theorem Warden.wrPwrStat_kept (a0 : Warden) (a1 : Party) (a2 : W32) :
    (@Warden.wrPwrStat a0 a1 a2).pwrCap = a0.pwrCap := by
  simp [Warden.wrPwrStat]

@[simp] theorem State.wrPwrCtl_kept (a0 : State) (a1 : Party) (a2 : W32) : (@State.wrPwrCtl a0 a1 a2).kept = a0.kept := by
  simp [State.wrPwrCtl]

@[simp] theorem State.refLoss_kept (a0 : State) : (@State.refLoss a0).kept = a0.kept := by unfold State.refLoss; rfl

@[simp] theorem State.rimReport_kept (a0 : State) (a1 : Nat) :
    (@State.rimReport a0 a1).kept = a0.kept := by
  simp [State.rimReport]

@[simp] theorem State.rimPlace_kept (a0 : State) (a1 : Nat) (a2 : OutPkt) :
    (@State.rimPlace a0 a1 a2).1.kept = a0.kept := by
  unfold State.rimPlace; (try simp); (repeat' (split <;> (try simp)))

@[simp] theorem State.rimSay_kept (a0 : State) (a1 : Nat) (a2 : Nat) (a3 : Packet) :
    (@State.rimSay a0 a1 a2 a3).kept = a0.kept := by
  simp [State.rimSay]

@[simp] theorem State.rimSayAll_kept (a0 : State) (a1 : Nat) :
    (@State.rimSayAll a0 a1).kept = a0.kept := by
  simp [State.rimSayAll]

@[simp] theorem State.rimAnswer_kept (s : State) (d r : Nat) (q : Packet) (st : Nat) : (s.rimAnswer d r q st).kept = s.kept := by
  unfold State.rimAnswer
  dsimp only
  repeat' split
  all_goals first
    | rfl
    | (simp; done)
    | (rename_i h; have k := State.fst_kept h (State.rimPlace_kept _ _ _); simpa using k)

@[simp] theorem State.rimDispatch_kept (s : State) (d r : Nat) (o : OutPkt) : (s.rimDispatch d r o).kept = s.kept := by
  unfold State.rimDispatch
  split
  all_goals (rename_i h; have k := State.fst_kept h (State.rimPlace_kept _ _ _); simpa using k)

@[simp] theorem State.rimAgain_kept (a0 : State) (a1 : Nat) (a2 : List OutPkt) :
    (@State.rimAgain a0 a1 a2).kept = a0.kept := by
  simp [State.rimAgain]

@[simp] theorem State.rimRelease_kept (a0 : State) (a1 : Nat) : (@State.rimRelease a0 a1).kept = a0.kept := by
  simp [State.rimRelease]

@[simp] theorem State.rimFlush_kept (a0 : State) (a1 : Nat) (a2 : List OutPkt) :
    (@State.rimFlush a0 a1 a2).kept = a0.kept := by
  simp [State.rimFlush]

@[simp] theorem State.ringBreak_kept (a0 : State) (a1 : Nat) : (@State.ringBreak a0 a1).kept = a0.kept := by
  simp [State.ringBreak]

@[simp] theorem State.foStart_kept (a0 : State) (a1 : Nat) : (@State.foStart a0 a1).kept = a0.kept := by
  unfold State.foStart; (try simp); (repeat' (split <;> (try simp)))

@[simp] theorem State.portDown_kept (a0 : State) (a1 : Nat) (a2 : Nat) (a3 : Nat) (a4 : Nat) :
    (@State.portDown a0 a1 a2 a3 a4).kept = a0.kept := by
  simp [State.portDown]

@[simp] theorem State.foDone_kept (a0 : State) (a1 : Nat) (a2 : Failover) (a3 : List Failover) (a4 : Option Nat) :
    (@State.foDone a0 a1 a2 a3 a4).kept = a0.kept := by
  simp [State.foDone]

@[simp] theorem State.foRsp_kept (a0 : State) (a1 : Nat) (a2 : Nat) (a3 : Option Nat) :
    (@State.foRsp a0 a1 a2 a3).kept = a0.kept := by
  unfold State.foRsp; (try simp); (repeat' (split <;> (try simp)))

@[simp] theorem State.neighbourLoss_kept (a0 : State) (a1 : Nat) : (@State.neighbourLoss a0 a1).kept = a0.kept := by
  simp [State.neighbourLoss]

@[simp] theorem State.movedDone_kept (a0 : State) (a1 : Nat) : (@State.movedDone a0 a1).kept = a0.kept := by
  simp [State.movedDone]

@[simp] theorem State.portUp_kept (a0 : State) (a1 : Nat) (a2 : Nat) (a3 : Nat) (a4 : Nat) :
    (@State.portUp a0 a1 a2 a3 a4).kept = a0.kept := by
  simp [State.portUp]

@[simp] theorem State.linkIdIn_kept (a0 : State) (a1 : Nat) (a2 : Nat) (a3 : Nat) (a4 : Nat) (a5 : Nat) :
    (@State.linkIdIn a0 a1 a2 a3 a4 a5).kept = a0.kept := by
  simp [State.linkIdIn]

@[simp] theorem State.rimEnter_kept (a0 : State) (a1 : Nat) (a2 : Packet) :
    (@State.rimEnter a0 a1 a2).kept = a0.kept := by
  simp [State.rimEnter]

@[simp] theorem State.modPort_kept (a0 : State) (a1 : Nat) (a2 : Nat) (a3 : RimPort → RimPort) :
    (@State.modPort a0 a1 a2 a3).kept = a0.kept := by
  unfold State.modPort; rfl

theorem State.rimTake_kept (a0 : State) (a1 : Nat) (a2 : Nat) (a3 : Bool) (a4 : Packet) :
    ∀ u, (@State.rimTake a0 a1 a2 a3 a4) = some u → u.kept = a0.kept := by
  unfold State.rimTake; (try simp); (repeat' (split <;> (try simp)))

@[simp] theorem State.rimOne_kept (d : Nat) (acc : State × List RxPkt × List Nat) (p : RxPkt) :
    (State.rimOne d acc p).1.kept = acc.1.kept := by
  unfold State.rimOne
  dsimp only
  repeat' split
  all_goals first
    | rfl
    | (have := State.rimTake_kept _ _ _ _ _ _ ‹_›; simpa using this)
    | simp

@[simp] theorem State.rimPump_kept (s : State) (d : Nat) : (s.rimPump d).kept = s.kept := by
  have h : ∀ (l : List RxPkt) (a : State × List RxPkt × List Nat), (l.foldl (State.rimOne d) a).1.kept = a.1.kept := by
    intro l
    induction l with
    | nil => intro a; rfl
    | cons x l ih => intro a; rw [List.foldl_cons, ih, State.rimOne_kept]
  unfold State.rimPump
  dsimp only
  split
  · simp
  · rw [State.modRim_kept, h]; simp

@[simp] theorem State.rimPiggy_kept (a0 : State) (a1 : Nat) (a2 : Nat) (a3 : DataFrame) :
    (@State.rimPiggy a0 a1 a2 a3).kept = a0.kept := by
  unfold State.rimPiggy; (try simp); (repeat' (split <;> (try simp)))

@[simp] theorem State.rimFrame_kept (a0 : State) (a1 : Nat) (a2 : Nat) (a3 : DataFrame) (a4 : Nat) (a5 : Bytes) :
    (@State.rimFrame a0 a1 a2 a3 a4 a5).kept = a0.kept := by
  simp [State.rimFrame]

@[simp] theorem State.rimData_kept (a0 : State) (a1 : Nat) (a2 : Nat) (a3 : Bytes) :
    (@State.rimData a0 a1 a2 a3).kept = a0.kept := by
  unfold State.rimData; (try simp); (repeat' (split <;> (try simp)))

@[simp] theorem State.rimCtl_kept (a0 : Type) (a1 : State) (a2 : Nat) (a3 : Nat) (a4 : Option a0) (a5 : RimPort → Bool) (a6 : a0 → State) (h0 : ∀ (y0 : a0), (a6 y0).kept = a1.kept) :
    (@State.rimCtl a0 a1 a2 a3 a4 a5 a6).kept = a1.kept := by
  unfold State.rimCtl; (try dsimp only); (repeat' split) <;> (try simp [*])

@[simp] theorem State.rimAck_kept (a0 : State) (a1 : Nat) (a2 : Nat) (a3 : Bytes) :
    (@State.rimAck a0 a1 a2 a3).kept = a0.kept := by
  simp [State.rimAck]

@[simp] theorem State.rimNak_kept (a0 : State) (a1 : Nat) (a2 : Nat) (a3 : Bytes) :
    (@State.rimNak a0 a1 a2 a3).kept = a0.kept := by
  simp [State.rimNak]

@[simp] theorem State.rimCredit_kept (a0 : State) (a1 : Nat) (a2 : Nat) (a3 : Bytes) :
    (@State.rimCredit a0 a1 a2 a3).kept = a0.kept := by
  simp [State.rimCredit]

@[simp] theorem State.creditSend_kept (a0 : State) (a1 : Nat) (a2 : Nat) :
    (@State.creditSend a0 a1 a2).kept = a0.kept := by
  simp [State.creditSend]

@[simp] theorem State.rimLinkId_kept (a0 : State) (a1 : Nat) (a2 : Nat) (a3 : Bytes) :
    (@State.rimLinkId a0 a1 a2 a3).kept = a0.kept := by
  simp [State.rimLinkId]

@[simp] theorem State.replayTimer_kept (a0 : State) (a1 : Nat) (a2 : Nat) :
    (@State.replayTimer a0 a1 a2).kept = a0.kept := by
  simp [State.replayTimer]

@[simp] theorem State.retrainTimeout_kept (a0 : State) (a1 : Nat) (a2 : Nat) :
    (@State.retrainTimeout a0 a1 a2).kept = a0.kept := by
  simp [State.retrainTimeout]

@[simp] theorem State.foReqIn_kept (a0 : State) (a1 : Nat) (a2 : Nat) (a3 : Bytes) :
    (@State.foReqIn a0 a1 a2 a3).kept = a0.kept := by
  simp [State.foReqIn]

@[simp] theorem State.foRspIn_kept (a0 : State) (a1 : Nat) (a2 : Nat) (a3 : Bytes) :
    (@State.foRspIn a0 a1 a2 a3).kept = a0.kept := by
  simp [State.foRspIn]

@[simp] theorem State.foRepeat_kept (a0 : State) (a1 : Nat) : (@State.foRepeat a0 a1).kept = a0.kept := by
  unfold State.foRepeat; (try simp); (repeat' (split <;> (try simp)))

@[simp] theorem State.signalLoss_kept (a0 : State) (a1 : Nat) (a2 : Nat) :
    (@State.signalLoss a0 a1 a2).kept = a0.kept := by
  simp [State.signalLoss]

@[simp] theorem State.signalReturn_kept (a0 : State) (a1 : Nat) : (@State.signalReturn a0 a1).kept = a0.kept := by
  simp [State.signalReturn]

@[simp] theorem State.neighbourTimeout_kept (a0 : State) (a1 : Nat) : (@State.neighbourTimeout a0 a1).kept = a0.kept := by
  simp [State.neighbourTimeout]

@[simp] theorem State.rimFanOut_kept (a0 : State) (a1 : Packet) : (@State.rimFanOut a0 a1).kept = a0.kept := by
  simp [State.rimFanOut]

@[simp] theorem State.rimBridge_kept (a0 : State) (a1 : Nat) (a2 : Nat) (a3 : Nat) :
    (@State.rimBridge a0 a1 a2 a3).kept = a0.kept := by
  unfold State.rimBridge; (try simp); (repeat' (split <;> (try simp)))

@[simp] theorem State.rimRead_kept (a0 : State) (a1 : Nat) (a2 : Party) (a3 : Nat) :
    (@State.rimRead a0 a1 a2 a3).1.kept = a0.kept := by
  unfold State.rimRead; (try simp); (repeat' (split <;> (try simp)))

@[simp] theorem State.sendTopo_kept (a0 : State) (a1 : W32) : (@State.sendTopo a0 a1).kept = a0.kept := by
  simp [State.sendTopo]

@[simp] theorem State.wrTopo_kept (a0 : State) (a1 : Nat) (a2 : Party) (a3 : W32) :
    (@State.wrTopo a0 a1 a2 a3).kept = a0.kept := by
  simp [State.wrTopo]

@[simp] theorem State.portStart_kept (a0 : State) (a1 : Nat) (a2 : Nat) : (@State.portStart a0 a1 a2).kept = a0.kept := by
  unfold State.portStart; rfl

@[simp] theorem State.wrPcfg_kept (a0 : State) (a1 : Nat) (a2 : Nat) (a3 : Party) (a4 : W32) :
    (@State.wrPcfg a0 a1 a2 a3 a4).kept = a0.kept := by
  simp [State.wrPcfg]

@[simp] theorem State.rimWrite_kept (a0 : State) (a1 : Nat) (a2 : Party) (a3 : Nat) (a4 : W32) :
    (@State.rimWrite a0 a1 a2 a3 a4).kept = a0.kept := by
  simp [State.rimWrite]

@[simp] theorem State.setCore_kept (a0 : State) (a1 : Nat) (a2 : Nat) (a3 : PCore) :
    (@State.setCore a0 a1 a2 a3).kept = a0.kept := by
  unfold State.setCore; rfl

@[simp] theorem State.modCore_kept (a0 : State) (a1 : Nat) (a2 : Nat) (a3 : PCore → PCore) :
    (@State.modCore a0 a1 a2 a3).kept = a0.kept := by
  unfold State.modCore; rfl

@[simp] theorem State.prsWrite_kept (a0 : State) (a1 : Nat) (a2 : PrsWho) (a3 : Nat) (a4 : W32) :
    (@State.prsWrite a0 a1 a2 a3 a4).kept = a0.kept := by
  simp [State.prsWrite]

@[simp] theorem State.gateKeyDrop_kept (a0 : State) (a1 : Nat) : (@State.gateKeyDrop a0 a1).kept = a0.kept := by
  unfold State.gateKeyDrop; rfl

@[simp] theorem State.gateSend_kept (a0 : State) (a1 : Nat) (a2 : Nat) (a3 : Nat) (a4 : Option Nat) (a5 : W64) (a6 : Packet) :
    (@State.gateSend a0 a1 a2 a3 a4 a5 a6).kept = a0.kept := by
  simp [State.gateSend]

@[simp] theorem State.gateInbound_kept (a0 : State) (a1 : Nat) (a2 : Nat) :
    (@State.gateInbound a0 a1 a2).kept = a0.kept := by
  unfold State.gateInbound; (try simp); (repeat' (split <;> (try simp)))

@[simp] theorem State.takePrs_kept (a0 : State) (a1 : Nat) (a2 : Nat) (a3 : Packet → State → State) (h0 : ∀ (y0 : Packet) (y1 : State), (a3 y0 y1).kept = y1.kept) :
    (@State.takePrs a0 a1 a2 a3).kept = a0.kept := by
  unfold State.takePrs; (try dsimp only); (repeat' split) <;> (try simp [*])

@[simp] theorem State.takeRdPrs_kept (a0 : State) (a1 : Nat) : (@State.takeRdPrs a0 a1).kept = a0.kept := by
  simp [State.takeRdPrs]

@[simp] theorem State.takeWrPrs_kept (a0 : State) (a1 : Nat) : (@State.takeWrPrs a0 a1).kept = a0.kept := by
  simp [State.takeWrPrs]

@[simp] theorem State.gateTagIdle_kept (a0 : State) (a1 : Nat) (a2 : Nat) :
    (@State.gateTagIdle a0 a1 a2).kept = a0.kept := by
  unfold State.gateTagIdle; rfl

@[simp] theorem State.gateArrivals_kept (s : State) (c k n : Nat) : (s.gateArrivals c k n).kept = s.kept := by
  induction n generalizing s with
  | zero => rfl
  | succ n ih =>
    unfold State.gateArrivals
    dsimp only
    split
    · rfl
    · split
      · rw [ih]; simp
      · rfl

@[simp] theorem State.gateRelease_kept (a0 : State) (a1 : Nat) : (@State.gateRelease a0 a1).kept = a0.kept := by
  unfold State.gateRelease; (try simp); (repeat' (split <;> (try simp)))

@[simp] theorem State.takeIrq_kept (a0 : State) (a1 : Nat) (a2 : Nat) : (@State.takeIrq a0 a1 a2).kept = a0.kept := by
  unfold State.takeIrq; (try simp); (repeat' (split <;> (try simp)))

@[simp] theorem State.translate_kept (s : State) (c k : Nat) (va : W64) (acc : Acc) : (s.translate c k va acc).1.kept = s.kept := by
  unfold State.translate
  extract_lets q x root v xid use
  have hu (u : State) (t : Tlb) : (use u t).1.kept = u.kept := State.fst_kept_ite _ _ _ _ rfl rfl
  refine State.fst_kept_ite _ _ _ _ (State.fst_kept_ite _ _ _ _ rfl rfl) (State.fst_kept_ite _ _ _ _ rfl ?_)
  generalize x.walk v acc 4 1 (bits root 35 0) = r
  generalize q.tlb.find? (fun t => t.hits v xid) = o
  cases o with
  | some t => exact hu _ _
  | none =>
    cases r with
    | error e => exact rfl
    | ok p => exact (hu _ _).trans (State.setCore_kept ..)

@[simp] theorem State.lvmApply_kept (a0 : State) (a1 : Nat) (a2 : LvmRun) (a3 : LvmPart) :
    (@State.lvmApply a0 a1 a2 a3).kept = a0.kept := by
  simp [State.lvmApply]

@[simp] theorem State.lvmBlock_kept (a0 : State) (a1 : Nat) :
    (@State.lvmBlock a0 a1).kept = a0.kept := by
  unfold State.lvmBlock; (try dsimp only); repeat' (first | (simp [*]; done) | split | (refine Eq.trans (State.kept_foldl _ ?_ _ _) ?_ <;> intros) | (refine Eq.trans (State.take_kept _ _ _ _ _ _ ?_) ?_ <;> intros) | (refine Eq.trans (State.finish_kept _ _ _ _ _ _ ?_) ?_ <;> intros) | (refine Eq.trans (State.runTile_kept _ _ _ _ ?_) ?_ <;> intros) | (refine Eq.trans (withABs_kept _ _ _ _ ?_) ?_ <;> intros) | (refine Eq.trans (qPops_kept _ _ _ ?_) ?_ <;> intros) | (refine Eq.trans (State.takeBar_kept _ _ _ _ ?_) ?_ <;> intros) | (refine Eq.trans (State.tileServe_kept _ _ _ _ _ ?_) ?_ <;> intros) | (refine Eq.trans (State.takePrs_kept _ _ _ _ ?_) ?_ <;> intros))

@[simp] theorem tileBody_kept (a0 : Mn) (a1 : Nat) (a2 : Fields) (a3 : W32) (a4 : W32) (a5 : State) :
    (@tileBody a0 a1 a2 a3 a4 a5).st.kept = a5.kept := by
  unfold tileBody; (try simp); (repeat' (split <;> (try simp)))

@[simp] theorem Warden.recordUe_kept (a0 : Warden) (a1 : Bool) (a2 : Nat) :
    (@Warden.recordUe a0 a1 a2).pwrCap = a0.pwrCap := by
  simp [Warden.recordUe]

@[simp] theorem Warden.noteUe_kept (a0 : Warden) (a1 : Nat) : (@Warden.noteUe a0 a1).pwrCap = a0.pwrCap := by
  unfold Warden.noteUe; rfl

@[simp] theorem Warden.noteCe_kept (a0 : Warden) : (@Warden.noteCe a0).pwrCap = a0.pwrCap := by
  unfold Warden.noteCe; rfl

@[simp] theorem pAlu_kept (a0 : W64 → W64 → W64) (a1 : Nat) (a2 : Nat) (a3 : Fields) (a4 : W64) (a5 : W64) (a6 : State) :
    (@pAlu a0 a1 a2 a3 a4 a5 a6).st.kept = a6.kept := by
  unfold pAlu; rfl

@[simp] theorem pAlu1_kept (a0 : W64 → W64) (a1 : Nat) (a2 : Nat) (a3 : Fields) (a4 : W64) (a5 : W64) (a6 : State) :
    (@pAlu1 a0 a1 a2 a3 a4 a5 a6).st.kept = a6.kept := by
  unfold pAlu1; rfl

@[simp] theorem pAlui_kept (a0 : W32 → W64) (a1 : W64 → W64 → W64) (a2 : Nat) (a3 : Nat) (a4 : Fields) (a5 : W64) (a6 : W64) (a7 : State) :
    (@pAlui a0 a1 a2 a3 a4 a5 a6 a7).st.kept = a7.kept := by
  unfold pAlui; rfl

@[simp] theorem pAccFault_kept (a0 : State) (a1 : Nat) (a2 : W64) : (@pAccFault a0 a1 a2).st.kept = a0.kept := by
  unfold pAccFault; rfl

@[simp] theorem withPa_kept (c k : Nat) (va : W64) (n : Nat) (acc : Acc) (s : State) (go : State → Nat → Bool → PRes)
    (h : ∀ s a b, (go s a b).st.kept = s.kept) : (withPa c k va n acc s go).st.kept = s.kept := by
  unfold withPa
  split
  · rfl
  · split
    all_goals (rename_i e; have j := State.fst_kept e (State.translate_kept _ _ _ _ _))
    · simpa using j
    · rw [h]; exact j

@[simp] theorem State.gateCheck_kept (a0 : State) (a1 : Nat) (a2 : Nat) (a3 : Nat) (a4 : Ga) (a5 : Nat) :
    (@State.gateCheck a0 a1 a2 a3 a4 a5).1.kept = a0.kept := by
  unfold State.gateCheck; (try simp); (repeat' (split <;> (try simp)))

@[simp] theorem State.gateReads_kept (s : State) (c k : Nat) (g : Ga) (op : Nat) (l m : List Nat) :
    (s.gateReads c k g op l m).kept = s.kept := by
  induction l generalizing s m with
  | nil => cases m <;> rfl
  | cons i l ih =>
    cases m with
    | nil => rfl
    | cons t m => unfold State.gateReads; dsimp only; rw [ih]; simp

@[simp] theorem pBlock_kept (s : State) (c k : Nat) (b : PBlk) (g : Ga) (op : Nat) : (pBlock s c k b g op).st.kept = s.kept := by
  unfold pBlock
  dsimp only
  split <;> simp

@[simp] theorem pPost_kept (a0 : State) (a1 : Nat) (a2 : Nat) (a3 : W64) (a4 : Packet) (a5 : W64) :
    (@pPost a0 a1 a2 a3 a4 a5).st.kept = a0.kept := by
  unfold pPost; (try simp); (repeat' (split <;> (try simp)))

@[simp] theorem pWinLoad_kept (c k : Nat) (f : Fields) (npc : W64) (s : State) (va : W64) (kind : Nat) (g : Ga) (n : Nat) :
    (pWinLoad c k f npc s va kind g n).st.kept = s.kept := by
  unfold pWinLoad
  split
  · simp
  · split
    all_goals (rename_i e; have j := State.fst_kept e (State.gateCheck_kept _ _ _ _ _ _); simpa using j)

@[simp] theorem pWinStore_kept (c k : Nat) (f : Fields) (npc : W64) (s : State) (va : W64) (kind : Nat) (g : Ga) (n : Nat) (v : W64) :
    (pWinStore c k f npc s va kind g n v).st.kept = s.kept := by
  unfold pWinStore
  split
  · simp
  split
  · split
    rename_i e; have j := State.fst_kept e (State.gateCheck_kept _ _ _ _ _ _); simpa using j
  split
  all_goals (rename_i e; have j := State.fst_kept e (State.gateCheck_kept _ _ _ _ _ _))
  · dsimp only
    repeat' split
    all_goals simpa using j
  · simpa using j

@[simp] theorem State.fillL2_kept (a0 : State) (a1 : Nat) (a2 : Nat) (a3 : Nat) (a4 : Bytes) :
    (@State.fillL2 a0 a1 a2 a3 a4).kept = a0.kept := by
  simp [State.fillL2]

@[simp] theorem State.fillL3_kept (a0 : State) (a1 : Nat) (a2 : Nat) (a3 : Bytes) :
    (@State.fillL3 a0 a1 a2 a3).kept = a0.kept := by
  simp [State.fillL3]

@[simp] theorem pCached_kept (c k : Nat) (f : Fields) (npc : W64) (s : State) (va : W64) (pa n : Nat) (ext : Nat → W64) (g : Ga) :
    (pCached c k f npc s va pa n ext g).st.kept = s.kept := by
  unfold pCached
  dsimp only
  split
  · simp
  · simp
  split
  all_goals (rename_i e; have j := State.fst_kept e (State.gateCheck_kept _ _ _ _ _ _); simpa using j)

@[simp] theorem pLoad_kept (n c k : Nat) (f : Fields) (a b : W64) (s : State) : (pLoad n c k f a b s).st.kept = s.kept := by
  unfold pLoad
  refine withPa_kept _ _ _ _ _ _ _ (fun s a b => ?_)
  dsimp only
  repeat' split
  all_goals simp

@[simp] theorem pStore_kept (n c k : Nat) (f : Fields) (a b : W64) (s : State) : (pStore n c k f a b s).st.kept = s.kept := by
  unfold pStore
  refine withPa_kept _ _ _ _ _ _ _ (fun s a b => ?_)
  dsimp only
  repeat' split
  all_goals simp

@[simp] theorem pAtomic_kept (g : W64 → W64 → W64) (c k : Nat) (f : Fields) (a b : W64) (s : State) :
    (pAtomic g c k f a b s).st.kept = s.kept := by
  unfold pAtomic
  refine withPa_kept _ _ _ _ _ _ _ (fun s a b => ?_)
  dsimp only
  repeat' split
  all_goals simp

@[simp] theorem pBranch_kept (a0 : W64 → W64 → Bool) (a1 : Nat) (a2 : Nat) (a3 : Fields) (a4 : W64) (a5 : W64) (a6 : State) :
    (@pBranch a0 a1 a2 a3 a4 a5 a6).st.kept = a6.kept := by
  unfold pBranch; rfl

@[simp] theorem pJal_kept (a0 : Nat) (a1 : Nat) (a2 : Fields) (a3 : W64) (a4 : W64) (a5 : State) :
    (@pJal a0 a1 a2 a3 a4 a5).st.kept = a5.kept := by
  unfold pJal; rfl

@[simp] theorem pJalr_kept (a0 : Nat) (a1 : Nat) (a2 : Fields) (a3 : W64) (a4 : W64) (a5 : State) :
    (@pJalr a0 a1 a2 a3 a4 a5).st.kept = a5.kept := by
  simp [pJalr]

@[simp] theorem pBrk_kept (a0 : Nat) (a1 : Nat) (a2 : Fields) (a3 : W64) (a4 : W64) (a5 : State) :
    (@pBrk a0 a1 a2 a3 a4 a5).st.kept = a5.kept := by
  unfold pBrk; rfl

@[simp] theorem pSysc_kept (a0 : Nat) (a1 : Nat) (a2 : Fields) (a3 : W64) (a4 : W64) (a5 : State) :
    (@pSysc a0 a1 a2 a3 a4 a5).st.kept = a5.kept := by
  unfold pSysc; rfl

@[simp] theorem pIllegal_kept (a0 : Nat) (a1 : Nat) (a2 : Fields) (a3 : W64) (a4 : W64) (a5 : State) :
    (@pIllegal a0 a1 a2 a3 a4 a5).st.kept = a5.kept := by
  unfold pIllegal; rfl

@[simp] theorem withGate_kept (a0 : PBody) (a1 : Nat) (a2 : Nat) (a3 : Fields) (a4 : W64) (a5 : W64) (a6 : State) (h0 : ∀ (y0 y1 : Nat) (y2 : Fields) (y3 y4 : W64) (y5 : State), (a0 y0 y1 y2 y3 y4 y5).st.kept = y5.kept) :
    (@withGate a0 a1 a2 a3 a4 a5 a6).st.kept = a6.kept := by
  unfold withGate; (try dsimp only); repeat' (first | (simp [*]; done) | split | (refine Eq.trans (State.kept_foldl _ ?_ _ _) ?_ <;> intros) | (refine Eq.trans (State.take_kept _ _ _ _ _ _ ?_) ?_ <;> intros) | (refine Eq.trans (State.finish_kept _ _ _ _ _ _ ?_) ?_ <;> intros) | (refine Eq.trans (State.runTile_kept _ _ _ _ ?_) ?_ <;> intros) | (refine Eq.trans (withABs_kept _ _ _ _ ?_) ?_ <;> intros) | (refine Eq.trans (qPops_kept _ _ _ ?_) ?_ <;> intros) | (refine Eq.trans (State.takeBar_kept _ _ _ _ ?_) ?_ <;> intros) | (refine Eq.trans (State.tileServe_kept _ _ _ _ _ ?_) ?_ <;> intros) | (refine Eq.trans (State.takePrs_kept _ _ _ _ ?_) ?_ <;> intros) | (refine Eq.trans (withPa_kept _ _ _ _ _ _ _ ?_) ?_ <;> intros))

@[simp] theorem atS_kept (a0 : PBody) (h0 : ∀ (y0 : Nat) (y1 : Nat) (y2 : Fields) (y3 : W64) (y4 : W64) (y5 : State), (a0 y0 y1 y2 y3 y4 y5).st.kept = y5.kept) (a1 : Nat) (a2 : Nat) (a3 : Fields) (a4 : W64) (a5 : W64) (a6 : State) :
    (@atS a0 a1 a2 a3 a4 a5 a6).st.kept = a6.kept := by
  unfold atS; (try dsimp only); (repeat' split) <;> (try simp [*])

@[simp] theorem pTret_kept (a0 : Nat) (a1 : Nat) (a2 : Fields) (a3 : W64) (a4 : W64) (a5 : State) :
    (@pTret a0 a1 a2 a3 a4 a5).st.kept = a5.kept := by
  unfold pTret; rfl

@[simp] theorem pIdle_kept (a0 : Nat) (a1 : Nat) (a2 : Fields) (a3 : W64) (a4 : W64) (a5 : State) :
    (@pIdle a0 a1 a2 a3 a4 a5).st.kept = a5.kept := by
  simp [pIdle]

@[simp] theorem pPcrr_kept (a0 : Nat) (a1 : Nat) (a2 : Fields) (a3 : W64) (a4 : W64) (a5 : State) :
    (@pPcrr a0 a1 a2 a3 a4 a5).st.kept = a5.kept := by
  unfold pPcrr; (try simp); (repeat' (split <;> (try simp)))

@[simp] theorem pPcrw_kept (a0 : Nat) (a1 : Nat) (a2 : Fields) (a3 : W64) (a4 : W64) (a5 : State) :
    (@pPcrw a0 a1 a2 a3 a4 a5).st.kept = a5.kept := by
  unfold pPcrw; (try simp); (repeat' (split <;> (try simp)))

@[simp] theorem pXlinv_kept (a0 : Nat) (a1 : Nat) (a2 : Fields) (a3 : W64) (a4 : W64) (a5 : State) :
    (@pXlinv a0 a1 a2 a3 a4 a5).st.kept = a5.kept := by
  unfold pXlinv; rfl

@[simp] theorem pCinv_kept (c k : Nat) (f : Fields) (a b : W64) (s : State) : (pCinv c k f a b s).st.kept = s.kept := by
  unfold pCinv
  dsimp only
  split
  all_goals (rename_i e; have j := State.fst_kept e (State.translate_kept _ _ _ _ _); simpa using j)

@[simp] theorem pCinvall_kept (a0 : Nat) (a1 : Nat) (a2 : Fields) (a3 : W64) (a4 : W64) (a5 : State) :
    (@pCinvall a0 a1 a2 a3 a4 a5).st.kept = a5.kept := by
  unfold pCinvall; rfl

@[simp] theorem pLatched_kept (a0 : State) (a1 : Nat) (a2 : Nat) (a3 : Nat × W64) :
    (@pLatched a0 a1 a2 a3).st.kept = a0.kept := by
  unfold pLatched; rfl

@[simp] theorem pPfence_kept (a0 : Nat) (a1 : Nat) (a2 : Fields) (a3 : W64) (a4 : W64) (a5 : State) :
    (@pPfence a0 a1 a2 a3 a4 a5).st.kept = a5.kept := by
  unfold pPfence; (try simp); (repeat' (split <;> (try simp)))

@[simp] theorem pBarFault_kept (a0 : State) (a1 : Nat) : (@pBarFault a0 a1).st.kept = a0.kept := by
  unfold pBarFault; rfl

@[simp] theorem pBarrive_kept (a0 : Nat) (a1 : Nat) (a2 : Fields) (a3 : W64) (a4 : W64) (a5 : State) :
    (@pBarrive a0 a1 a2 a3 a4 a5).st.kept = a5.kept := by
  unfold pBarrive; (try simp); (repeat' (split <;> (try simp)))

@[simp] theorem pBarwait_kept (a0 : Nat) (a1 : Nat) (a2 : Fields) (a3 : W64) (a4 : W64) (a5 : State) :
    (@pBarwait a0 a1 a2 a3 a4 a5).st.kept = a5.kept := by
  unfold pBarwait; (try simp); (repeat' (split <;> (try simp)))

@[simp] theorem pBartest_kept (a0 : Nat) (a1 : Nat) (a2 : Fields) (a3 : W64) (a4 : W64) (a5 : State) :
    (@pBartest a0 a1 a2 a3 a4 a5).st.kept = a5.kept := by
  unfold pBartest; (try simp); (repeat' (split <;> (try simp)))

@[simp] theorem pressBody_kept (a0 : Mn) (a1 : Nat) (a2 : Nat) (a3 : Fields) (a4 : W64) (a5 : W64) (a6 : State) :
    (@pressBody a0 a1 a2 a3 a4 a5 a6).st.kept = a6.kept := by
  unfold pressBody; (try simp); (repeat' (split <;> (try simp)))

@[simp] theorem State.pressWord_kept (s : State) (c k : Nat) (va : W64) : (s.pressWord c k va).1.kept = s.kept := by
  unfold State.pressWord
  split
  · rfl
  split
  all_goals (rename_i e; have j := State.fst_kept e (State.translate_kept _ _ _ _ _))
  · exact j
  · dsimp only
    repeat' split
    all_goals exact j

theorem State.pressFetch_kept (s : State) (c k : Nat) : (s.pressFetch c k).st.kept = s.kept := by
  unfold State.pressFetch
  dsimp only
  have j := State.pressWord_kept s c k (s.core c k).pc
  generalize s.pressWord c k (s.core c k).pc = x at j ⊢
  obtain ⟨t, e | w⟩ := x
  · exact j
  dsimp only at j ⊢
  split
  · split <;> exact j
  split
  · exact j
  have j2 := State.pressWord_kept t c k ((s.core c k).pc + 4#64)
  generalize t.pressWord c k ((s.core c k).pc + 4#64) = x at j2 ⊢
  obtain ⟨t2, e | w2⟩ := x
  · exact j2.trans j
  dsimp only at j2 ⊢
  split <;> exact j2.trans j

@[simp] theorem State.pressTrap_kept (a0 : State) (a1 : Nat) (a2 : Nat) (a3 : Nat) (a4 : Nat) (a5 : W64) :
    (@State.pressTrap a0 a1 a2 a3 a4 a5).kept = a0.kept := by
  simp [State.pressTrap]

@[simp] theorem State.pressDone_kept (a0 : State) (a1 : Nat) (a2 : Nat) (a3 : W64) :
    (@State.pressDone a0 a1 a2 a3).kept = a0.kept := by
  unfold State.pressDone; rfl

@[simp] theorem State.runPress_kept (s : State) (c k : Nat) (mn : Mn) : (s.runPress c k mn).kept = s.kept := by
  unfold State.runPress
  split
  · rfl
  have hf := State.pressFetch_kept s c k
  generalize s.pressFetch c k = x at hf ⊢
  cases x with
  | bad t a b d =>
    have hf : t.kept = s.kept := hf
    simpa using hf
  | instr t f l n =>
    have hf : t.kept = s.kept := hf
    dsimp only
    have hb := pressBody_kept f.mn c k f (t.core c k).pc ((t.core c k).pc + BitVec.ofNat 64 n) t
    generalize pressBody f.mn c k f (t.core c k).pc ((t.core c k).pc + BitVec.ofNat 64 n) t = y at hb ⊢
    split
    all_goals split
    all_goals first
      | rfl
      | (cases y <;> (simp at hb ⊢; rw [hb, hf]))

@[simp] theorem State.runHart_kept (a0 : State) (a1 : Hart) (a2 : Mn) : (@State.runHart a0 a1 a2).kept = a0.kept := by
  unfold State.runHart; (try simp); (repeat' (split <;> (try simp)))

@[simp] theorem State.pressFinish_kept (a0 : State) (a1 : Nat) (a2 : Nat) (a3 : PBlk) :
    (@State.pressFinish a0 a1 a2 a3).kept = a0.kept := by
  unfold State.pressFinish; (try simp); (repeat' (split <;> (try simp)))

@[simp] theorem State.pressResp_kept (a0 : State) (a1 : Nat) (a2 : Nat) (a3 : PBlk) (a4 : Nat) (a5 : Nat) (a6 : W32) :
    (@State.pressResp a0 a1 a2 a3 a4 a5 a6).kept = a0.kept := by
  simp [State.pressResp]

@[simp] theorem State.gateTakeResp_kept (a0 : State) (a1 : Nat) : (@State.gateTakeResp a0 a1).kept = a0.kept := by
  unfold State.gateTakeResp; (try dsimp only); repeat' (first | (simp [*]; done) | split  | (refine Eq.trans (State.kept_foldl _ ?_ _ _) ?_ <;> intros) | (refine Eq.trans (State.take_kept _ _ _ _ _ _ ?_) ?_ <;> intros) | (refine Eq.trans (State.finish_kept _ _ _ _ _ ?_) ?_ <;> intros) | (refine Eq.trans (State.runTile_kept _ _ _ _ ?_) ?_ <;> intros) | (refine Eq.trans (withABs_kept _ _ _ _ ?_) ?_ <;> intros) | (refine Eq.trans (qPops_kept _ _ _ ?_) ?_ <;> intros) | (refine Eq.trans (State.takeBar_kept _ _ _ _ ?_) ?_ <;> intros) | (refine Eq.trans (State.tileServe_kept _ _ _ _ _ ?_) ?_ <;> intros) | (refine Eq.trans (State.rimCtl_kept _ _ _ _ _ _ _ ?_) ?_ <;> intros) | (refine Eq.trans (State.takePrs_kept _ _ _ _ ?_) ?_ <;> intros) | (refine Eq.trans (withPa_kept _ _ _ _ _ _ _ ?_) ?_ <;> intros) | (refine Eq.trans (atS_kept _ _ _ _ _ _ _ ?_) ?_ <;> intros))

@[simp] theorem State.gateTakeAck_kept (a0 : State) (a1 : Nat) : (@State.gateTakeAck a0 a1).kept = a0.kept := by
  unfold State.gateTakeAck; (try dsimp only); repeat' (first | (simp [*]; done) | split  | (refine Eq.trans (State.kept_foldl _ ?_ _ _) ?_ <;> intros) | (refine Eq.trans (State.take_kept _ _ _ _ _ _ ?_) ?_ <;> intros) | (refine Eq.trans (State.finish_kept _ _ _ _ _ ?_) ?_ <;> intros) | (refine Eq.trans (State.runTile_kept _ _ _ _ ?_) ?_ <;> intros) | (refine Eq.trans (withABs_kept _ _ _ _ ?_) ?_ <;> intros) | (refine Eq.trans (qPops_kept _ _ _ ?_) ?_ <;> intros) | (refine Eq.trans (State.takeBar_kept _ _ _ _ ?_) ?_ <;> intros) | (refine Eq.trans (State.tileServe_kept _ _ _ _ _ ?_) ?_ <;> intros) | (refine Eq.trans (State.rimCtl_kept _ _ _ _ _ _ _ ?_) ?_ <;> intros) | (refine Eq.trans (State.takePrs_kept _ _ _ _ ?_) ?_ <;> intros) | (refine Eq.trans (withPa_kept _ _ _ _ _ _ _ ?_) ?_ <;> intros) | (refine Eq.trans (atS_kept _ _ _ _ _ _ _ ?_) ?_ <;> intros))

@[simp] theorem State.gateRetry_kept (a0 : State) (a1 : Nat) (a2 : Nat) : (@State.gateRetry a0 a1 a2).kept = a0.kept := by
  unfold State.gateRetry; (try simp); (repeat' (split <;> (try simp)))

@[simp] theorem Island.finish_kept (a0 : Island) (a1 : Nat) (a2 : Bytes) :
    (@Island.finish a0 a1 a2).burnt = a0.burnt := by
  unfold Island.finish; rfl

@[simp] theorem Island.extend_kept (a0 : Island) (a1 : Nat) (a2 : Bytes) :
    (@Island.extend a0 a1 a2).burnt = a0.burnt := by
  unfold Island.extend; rfl

@[simp] theorem Island.event_kept (a0 : Island) (a1 : Bytes) : (@Island.event a0 a1).burnt = a0.burnt := by
  unfold Island.event; rfl

@[simp] theorem State.sisGo_kept (s : State) (st : SisSt) : (s.sisGo st).kept = s.kept := by
  unfold State.sisGo
  split <;> rfl

@[simp] theorem State.sisErr_kept (s : State) (st : SisSt) : (s.sisErr st).kept = s.kept := by
  have h : (s.sisErr st).kept = (s.sisGo st).kept := rfl
  rw [h, State.sisGo_kept]

@[simp] theorem State.sisBusyRefuse_kept (a0 : State) :
    (@State.sisBusyRefuse a0).kept = a0.kept := by
  unfold State.sisBusyRefuse; rfl

@[simp] theorem Island.begin_kept (a0 : Island) (a1 : Nat) :
    (@Island.begin a0 a1).burnt = a0.burnt := by
  unfold Island.begin; rfl

@[simp] theorem Island.getid_kept (a0 : Island) : (@Island.getid a0).burnt = a0.burnt := by unfold Island.getid; rfl

@[simp] theorem Island.verify_kept (a0 : Island) (a1 : Nat) (a2 : Bytes) :
    (@Island.verify a0 a1 a2).2.burnt = a0.burnt := by
  unfold Island.verify; (try simp); (repeat' (split <;> (try simp)))

@[simp] theorem Island.quote_kept (i : Island) (a b : Nat) : (i.quote a b).burnt = i.burnt := by
  unfold Island.quote
  dsimp only
  split <;> rfl

@[simp] theorem State.tapReset_kept (a0 : State) :
    (@State.tapReset a0).kept = a0.kept := by
  simp [State.tapReset]

@[simp] theorem State.composeLine_kept (a0 : State) (a1 : Nat) : (@State.composeLine a0 a1).kept = a0.kept := by
  simp [State.composeLine]

@[simp] theorem State.prfWrite_kept (a0 : State) (a1 : Party) (a2 : Proof → Proof) :
    (@State.prfWrite a0 a1 a2).kept = a0.kept := by
  unfold State.prfWrite; rfl

@[simp] theorem State.mgmtTrap_kept (a0 : State) (a1 : Nat) :
    (@State.mgmtTrap a0 a1).kept = a0.kept := by
  simp [State.mgmtTrap]

@[simp] theorem State.wdnRead_kept (a0 : State) (a1 : Party) (a2 : Nat) : (@State.wdnRead a0 a1 a2).1.kept = a0.kept := by
  unfold State.wdnRead; (try simp); (repeat' (split <;> (try simp)))

@[simp] theorem Warden.wrHwin_kept (a0 : Warden) (a1 : Party) (a2 : Nat) (a3 : W64) :
    (@Warden.wrHwin a0 a1 a2 a3).pwrCap = a0.pwrCap := by
  simp [Warden.wrHwin]

@[simp] theorem Warden.wrHwin32_kept (a0 : Warden) (a1 : Party) (a2 : Nat) (a3 : Bool) (a4 : W32) :
    (@Warden.wrHwin32 a0 a1 a2 a3 a4).pwrCap = a0.pwrCap := by
  simp [Warden.wrHwin32]

@[simp] theorem Warden.wrHwkey_kept (a0 : Warden) (a1 : Party) (a2 : Nat) (a3 : W32) :
    (@Warden.wrHwkey a0 a1 a2 a3).pwrCap = a0.pwrCap := by
  simp [Warden.wrHwkey]

@[simp] theorem Warden.wrHdb_kept (a0 : Warden) (a1 : Party) (a2 : W32) :
    (@Warden.wrHdb a0 a1 a2).pwrCap = a0.pwrCap := by
  simp [Warden.wrHdb]

@[simp] theorem Warden.loadLog_kept (a0 : Warden) :
    (@Warden.loadLog a0).pwrCap = a0.pwrCap := by
  simp [Warden.loadLog]

@[simp] theorem Warden.wrHdbClr_kept (w : Warden) (p : Party) (v : W32) : (w.wrHdbClr p v).pwrCap = w.pwrCap := by
  unfold Warden.wrHdbClr
  dsimp only
  repeat' split
  all_goals simp

@[simp] theorem Warden.wrHmsi_kept (a0 : Warden) (a1 : Party) (a2 : W32) :
    (@Warden.wrHmsi a0 a1 a2).pwrCap = a0.pwrCap := by
  simp [Warden.wrHmsi]

@[simp] theorem Warden.wrBoot_kept (a0 : Warden) (a1 : Party) (a2 : W32) :
    (@Warden.wrBoot a0 a1 a2).pwrCap = a0.pwrCap := by
  simp [Warden.wrBoot]

@[simp] theorem Warden.wrHostStat_kept (a0 : Warden) (a1 : Party) (a2 : W32) :
    (@Warden.wrHostStat a0 a1 a2).pwrCap = a0.pwrCap := by
  simp [Warden.wrHostStat]

@[simp] theorem Warden.wrRas_kept (a0 : Warden) (a1 : Party) (a2 : Nat) (a3 : W32) :
    (@Warden.wrRas a0 a1 a2 a3).pwrCap = a0.pwrCap := by
  simp [Warden.wrRas]

@[simp] theorem Warden.sramPut_kept (a0 : Warden) (a1 : Nat) (a2 : Bytes) :
    (@Warden.sramPut a0 a1 a2).pwrCap = a0.pwrCap := by
  unfold Warden.sramPut; rfl

@[simp] theorem Warden.msixUnmask_kept (a0 : Warden) (a1 : Nat) :
    (@Warden.msixUnmask a0 a1).pwrCap = a0.pwrCap := by
  simp [Warden.msixUnmask]

@[simp] theorem Warden.wrMsix_kept (w : Warden) (off : Nat) (b : Bytes) : (w.wrMsix off b).pwrCap = w.pwrCap := by
  unfold Warden.wrMsix
  split
  · rfl
  · rw [Warden.pwrCap_foldl _ (fun w v => Warden.msixUnmask_kept w v)]

@[simp] theorem State.wdnBytes_kept (s : State) (p : Party) (off : Nat) (b : Bytes) : (s.wdnBytes p off b).kept = s.kept := by
  have h : ∀ (P Q R : Prop) [Decidable P] [Decidable Q] [Decidable R] (x y z : State), x.kept = s.kept → y.kept = s.kept →
      z.kept = s.kept → (if P then x else if Q then y else if R then z else s).kept = s.kept := by
    intros
    split
    · assumption
    split
    · assumption
    split
    · assumption
    · rfl
  have a : ∀ n, (s.modWdn (·.sramPut n b)).kept = s.kept := fun n => by rw [State.modWdn_kept, Warden.sramPut_kept]; rfl
  have m : ∀ n, (s.modWdn (·.wrMsix n b)).kept = s.kept := fun n => by rw [State.modWdn_kept, Warden.wrMsix_kept]; rfl
  refine h _ _ _ _ _ _ ?_ ?_ ?_
  · split
    · exact a off
    · rfl
  · split
    · exact a off
    · rfl
  · split
    · exact m _
    · rfl

@[simp] theorem State.wdnReads_kept (s : State) (p : Party) (off n : Nat) : (s.wdnReads p off n).1.kept = s.kept := by
  induction n generalizing s off with
  | zero => rfl
  | succ n ih =>
    have h : (s.wdnReads p off (n + 1)).1 = ((s.wdnRead p off).1.wdnReads p (off + 4) n).1 := rfl
    rw [h, ih, State.wdnRead_kept]

@[simp] theorem State.hostRead_kept (s : State) (p : Party) (a : BusAccess) : (s.hostRead p a).kept = s.kept := by
  unfold State.hostRead
  have j := State.wdnReads_kept s p (a.off / 4 * 4) (max 1 (a.size / 4))
  split
  all_goals
    rename_i e
    rw [e] at j
    simp at j ⊢
    simp [j]

@[simp] theorem State.endpoint_kept (a0 : State) (a1 : State → State) (h0 : ∀ (y0 : State), (a1 y0).kept = y0.kept) :
    (@State.endpoint a0 a1).kept = a0.kept := by
  unfold State.endpoint; (try dsimp only); repeat' (first | (simp [*]; done) | split | (refine Eq.trans (State.kept_foldl _ ?_ _ _) ?_ <;> intros) | (refine Eq.trans (State.take_kept _ _ _ _ _ _ ?_) ?_ <;> intros) | (refine Eq.trans (State.finish_kept _ _ _ _ _ _ ?_) ?_ <;> intros) | (refine Eq.trans (State.runTile_kept _ _ _ _ ?_) ?_ <;> intros) | (refine Eq.trans (withABs_kept _ _ _ _ ?_) ?_ <;> intros) | (refine Eq.trans (qPops_kept _ _ _ ?_) ?_ <;> intros) | (refine Eq.trans (State.takeBar_kept _ _ _ _ ?_) ?_ <;> intros) | (refine Eq.trans (State.tileServe_kept _ _ _ _ _ ?_) ?_ <;> intros) | (refine Eq.trans (State.takePrs_kept _ _ _ _ ?_) ?_ <;> intros) | (refine Eq.trans (withPa_kept _ _ _ _ _ _ _ ?_) ?_ <;> intros) | (refine Eq.trans (atS_kept _ _ _ _ _ _ _ ?_) ?_ <;> intros))

@[simp] theorem State.wdnBy_kept (a0 : State) (a1 : Party) (a2 : State → State) (h0 : ∀ (y0 : State), (a2 y0).kept = y0.kept) :
    (@State.wdnBy a0 a1 a2).kept = a0.kept := by
  unfold State.wdnBy; (try dsimp only); (repeat' split) <;> (try simp [*])

@[simp] theorem State.meshQueue_kept (s : State) (f : Nat) (w : Option Nat) (rd : Bool) (n i : Nat) (ps : List Packet) (ts : List Nat) :
    (s.meshQueue f w rd n i ps ts).kept = s.kept := by
  induction ps generalizing s i ts with
  | nil => cases ts <;> rfl
  | cons p ps ih =>
    cases ts with
    | nil => rfl
    | cons t ts => unfold State.meshQueue; dsimp only; rw [ih]; simp

theorem State.relayOut_kept (s : State) (win : Option Nat) (key : Nat) (ga : W64) (q : BusAccess) (kind : AccKind) (u : State)
    (h : s.relayOut win key ga q kind = .sent u) : u.kept = s.kept := by
  unfold State.relayOut at h
  dsimp only at h
  repeat' split at h
  all_goals first
    | (cases h; done)
    | (injection h with h; subst h; simp)

@[simp] theorem State.windowTimeout_kept (a0 : State) (a1 : Nat) : (@State.windowTimeout a0 a1).kept = a0.kept := by
  simp [State.windowTimeout]

@[simp] theorem State.meshInject_kept (a0 : State) (a1 : Nat) : (@State.meshInject a0 a1).kept = a0.kept := by
  unfold State.meshInject; (try simp); (repeat' (split <;> (try simp)))

@[simp] theorem State.fwAccess_kept (s : State) (f : Nat) (q : FwReq) : (s.fwAccess f q).kept = s.kept := by
  unfold State.fwAccess
  split
  · rfl
  split
  · rfl
  · simp
  · exact State.relayOut_kept _ _ _ _ _ _ _ ‹_›

@[simp] theorem State.meshCmd_kept (a0 : State) (a1 : Nat) (a2 : Option FwReq) :
    (@State.meshCmd a0 a1 a2).kept = a0.kept := by
  unfold State.meshCmd; (try simp); (repeat' (split <;> (try simp)))

@[simp] theorem State.takeAnswer_kept (a0 : State) (a1 : Nat) : (@State.takeAnswer a0 a1).kept = a0.kept := by
  unfold State.takeAnswer; (try simp); (repeat' (split <;> (try simp)))

@[simp] theorem State.relayed_kept (a0 : State) (a1 : Nat) (a2 : Nat) (a3 : Packet → State → State × Nat × W32) (h0 : ∀ (y0 : Packet) (y1 : State), (a3 y0 y1).1.kept = y1.kept) :
    (@State.relayed a0 a1 a2 a3).kept = a0.kept := by
  unfold State.relayed; (try dsimp only); (repeat' split) <;> (try simp [*])

@[simp] theorem State.takeRdWdn_kept (a0 : State) (a1 : Nat) : (@State.takeRdWdn a0 a1).kept = a0.kept := by
  simp [State.takeRdWdn]

@[simp] theorem State.takeRdRim_kept (a0 : State) (a1 : Nat) : (@State.takeRdRim a0 a1).kept = a0.kept := by
  simp [State.takeRdRim]

@[simp] theorem State.takeWrRim_kept (a0 : State) (a1 : Nat) : (@State.takeWrRim a0 a1).kept = a0.kept := by
  simp [State.takeWrRim]

@[simp] theorem State.regCmd_kept (a0 : State) (a1 : Nat) (a2 : BusAccess) : (@State.regCmd a0 a1 a2).kept = a0.kept := by
  simp [State.regCmd]

@[simp] theorem State.takeEvent_kept (a0 : State) (a1 : Nat) : (@State.takeEvent a0 a1).kept = a0.kept := by
  unfold State.takeEvent; (try simp); (repeat' (split <;> (try simp)))

@[simp] theorem State.lockstep_kept (a0 : State) : (@State.lockstep a0).kept = a0.kept := by simp [State.lockstep]

@[simp] theorem State.bootRom_kept (s : State) : s.bootRom.kept = s.kept := by
  unfold State.bootRom
  dsimp only
  split
  · rfl
  split
  · rfl
  split
  · rename_i img _ _ _
    have j : ({ s.island with chal := none }.verify 0 img).2.burnt = s.island.burnt := by
      rw [Island.verify_kept]; rfl
    split <;> simp [j]
  all_goals first | rfl | simp

@[simp] theorem State.bootselTimeout_kept (a0 : State) : (@State.bootselTimeout a0).kept = a0.kept := by
  simp [State.bootselTimeout]

@[simp] theorem Warden.addressed_kept (a0 : Warden) :
    (@Warden.addressed a0).pwrCap = a0.pwrCap := by
  simp [Warden.addressed]

@[simp] theorem State.i3cRead_kept (a0 : State) (a1 : Bytes) : (@State.i3cRead a0 a1).kept = a0.kept := by
  unfold State.i3cRead; rfl

@[simp] theorem State.i3cNack_kept (a0 : State) : (@State.i3cNack a0).kept = a0.kept := by unfold State.i3cNack; rfl

@[simp] theorem State.i3cFw_kept (s : State) (go : State → State) (h : ∀ y, (go y).kept = y.kept) : (s.i3cFw go).kept = s.kept := by
  unfold State.i3cFw
  split
  · rw [h]; simp
  · simp

@[simp] theorem State.getState_kept (a0 : State) : (@State.getState a0).kept = a0.kept := by simp [State.getState]

@[simp] theorem State.mgmtRd_kept (a0 : State) : (@State.mgmtRd a0).kept = a0.kept := by
  unfold State.mgmtRd; (try dsimp only); repeat' (first | (simp [*]; done) | split  | (refine Eq.trans (State.kept_foldl _ ?_ _ _) ?_ <;> intros) | (refine Eq.trans (State.take_kept _ _ _ _ _ _ ?_) ?_ <;> intros) | (refine Eq.trans (State.finish_kept _ _ _ _ _ ?_) ?_ <;> intros) | (refine Eq.trans (State.runTile_kept _ _ _ _ ?_) ?_ <;> intros) | (refine Eq.trans (withABs_kept _ _ _ _ ?_) ?_ <;> intros) | (refine Eq.trans (qPops_kept _ _ _ ?_) ?_ <;> intros) | (refine Eq.trans (State.takeBar_kept _ _ _ _ ?_) ?_ <;> intros) | (refine Eq.trans (State.tileServe_kept _ _ _ _ _ ?_) ?_ <;> intros) | (refine Eq.trans (State.rimCtl_kept _ _ _ _ _ _ _ ?_) ?_ <;> intros) | (refine Eq.trans (State.takePrs_kept _ _ _ _ ?_) ?_ <;> intros) | (refine Eq.trans (withPa_kept _ _ _ _ _ _ _ ?_) ?_ <;> intros) | (refine Eq.trans (atS_kept _ _ _ _ _ _ _ ?_) ?_ <;> intros) | (refine Eq.trans (State.endpoint_kept _ _ _ ?_) ?_ <;> intros) | (refine Eq.trans (State.relayed_kept _ _ _ _ ?_) ?_ <;> intros) | (refine Eq.trans (State.i3cFw_kept _ _ ?_) ?_ <;> intros))

@[simp] theorem State.mgmtSend_kept (a0 : State) (a1 : Nat) (a2 : List W32) :
    (@State.mgmtSend a0 a1 a2).kept = a0.kept := by
  simp [State.mgmtSend]

@[simp] theorem State.mgmtWr_kept (a0 : State) (a1 : Bytes) (a2 : Option Nat) :
    (@State.mgmtWr a0 a1 a2).kept = a0.kept := by
  unfold State.mgmtWr; (try dsimp only); repeat' (first | (simp [*]; done) | split | (refine Eq.trans (State.kept_foldl _ ?_ _ _) ?_ <;> intros) | (refine Eq.trans (State.take_kept _ _ _ _ _ _ ?_) ?_ <;> intros) | (refine Eq.trans (State.finish_kept _ _ _ _ _ _ ?_) ?_ <;> intros) | (refine Eq.trans (State.runTile_kept _ _ _ _ ?_) ?_ <;> intros) | (refine Eq.trans (withABs_kept _ _ _ _ ?_) ?_ <;> intros) | (refine Eq.trans (qPops_kept _ _ _ ?_) ?_ <;> intros) | (refine Eq.trans (State.takeBar_kept _ _ _ _ ?_) ?_ <;> intros) | (refine Eq.trans (State.tileServe_kept _ _ _ _ _ ?_) ?_ <;> intros) | (refine Eq.trans (State.takePrs_kept _ _ _ _ ?_) ?_ <;> intros) | (refine Eq.trans (withPa_kept _ _ _ _ _ _ _ ?_) ?_ <;> intros) | (refine Eq.trans (atS_kept _ _ _ _ _ _ _ ?_) ?_ <;> intros) | (refine Eq.trans (State.endpoint_kept _ _ _ ?_) ?_ <;> intros) | (refine Eq.trans (State.relayed_kept _ _ _ _ ?_) ?_ <;> intros) | (refine Eq.trans (State.i3cFw_kept _ _ ?_) ?_ <;> intros) | (refine Eq.trans (State.wdnBy_kept _ _ _ ?_) ?_ <;> intros))

@[simp] theorem State.i3cTopo_kept (a0 : State) (a1 : Bytes) : (@State.i3cTopo a0 a1).kept = a0.kept := by
  simp [State.i3cTopo]

@[simp] theorem State.stageWr_kept (a0 : State) (a1 : Bytes) : (@State.stageWr a0 a1).kept = a0.kept := by
  simp [State.stageWr]

@[simp] theorem stageCheck_kept (m : Sparse Bytes) (n : Nat) (l : List Nat) (i : Island) : (stageCheck m n l i).1.burnt = i.burnt := by
  induction l generalizing i with
  | nil => rfl
  | cons ty l ih =>
    unfold stageCheck
    have j := Island.verify_kept i ty (sget [] m (8 * n + ty))
    split
    rename_i e
    rw [e] at j
    split
    · rw [ih]; exact j
    · exact j

@[simp] theorem State.stageChk_kept (s : State) (b : Bytes) : (s.stageChk b).kept = s.kept := by
  unfold State.stageChk
  refine State.i3cFw_kept _ _ (fun s => ?_)
  dsimp only
  split
  · simp
  · rw [State.i3cRead_kept]
    simp only [State.kept_mk]
    split
    · rw [stageCheck_kept]; rfl
    · rfl

@[simp] theorem State.telemRd_kept (a0 : State) : (@State.telemRd a0).kept = a0.kept := by simp [State.telemRd]

@[simp] theorem State.setBootsel_kept (a0 : State) (a1 : Bytes) : (@State.setBootsel a0 a1).kept = a0.kept := by
  simp [State.setBootsel]

@[simp] theorem State.takeMgmt_kept (a0 : State) (a1 : Nat) : (@State.takeMgmt a0 a1).kept = a0.kept := by
  unfold State.takeMgmt; (try simp); (repeat' (split <;> (try simp)))

@[simp] theorem State.epochBegin_kept (a0 : State) : (@State.epochBegin a0).kept = a0.kept := by
  unfold State.epochBegin; (try simp); (repeat' (split <;> (try simp)))

@[simp] theorem State.epochField_kept (a0 : State) (a1 : Nat) : (@State.epochField a0 a1).kept = a0.kept := by
  simp [State.epochField]

@[simp] theorem State.epochDie_kept (a0 : State) (a1 : Nat) : (@State.epochDie a0 a1).kept = a0.kept := by
  simp [State.epochDie]

@[simp] theorem State.epochCommit_kept (a0 : State) (a1 : CommitTgt) : (@State.epochCommit a0 a1).kept = a0.kept := by
  unfold State.epochCommit; (try simp); (repeat' (split <;> (try simp)))

@[simp] theorem State.retireReset_kept (a0 : State) (a1 : Nat) (a2 : Nat) (a3 : List W32) (a4 : List W32) :
    (@State.retireReset a0 a1 a2 a3 a4).kept = a0.kept := by
  simp [State.retireReset]

@[simp] theorem State.colmapCommit_kept (a0 : State) (a1 : Nat) :
    (@State.colmapCommit a0 a1).kept = a0.kept := by
  unfold State.colmapCommit; (try simp); (repeat' (split <;> (try simp)))

@[simp] theorem State.epochComplete_kept (a0 : State) : (@State.epochComplete a0).kept = a0.kept := by
  unfold State.epochComplete; (try simp); (repeat' (split <;> (try simp)))

@[simp] theorem Warden.logRetire_kept (a0 : Warden) (a1 : Nat) (a2 : Nat) (a3 : Nat) :
    (@Warden.logRetire a0 a1 a2 a3).pwrCap = a0.pwrCap := by
  unfold Warden.logRetire; (try simp); (repeat' (split <;> (try simp)))

@[simp] theorem State.noteRetire_kept (a0 : State) (a1 : Nat) : (@State.noteRetire a0 a1).kept = a0.kept := by
  unfold State.noteRetire; (try simp); (repeat' (split <;> (try simp)))

@[simp] theorem State.colmapShWrite_kept (a0 : State) (a1 : Party) (a2 : Nat) (a3 : Nat) (a4 : W32) :
    (@State.colmapShWrite a0 a1 a2 a3 a4).kept = a0.kept := by
  simp [State.colmapShWrite]

@[simp] theorem State.wrFldCmd_kept (a0 : State) (a1 : Nat) : (@State.wrFldCmd a0 a1).kept = a0.kept := by
  simp [State.wrFldCmd]

@[simp] theorem State.regTake_kept (a0 : State) (a1 : Nat) (a2 : BusAccess) :
    (@State.regTake a0 a1 a2).kept = a0.kept := by
  simp [State.regTake]

@[simp] theorem State.setKrv_kept (a0 : State) (a1 : Krovas) : (@State.setKrv a0 a1).kept = a0.kept := by
  unfold State.setKrv; rfl

@[simp] theorem State.modKrv_kept (a0 : State) (a1 : Krovas → Krovas) : (@State.modKrv a0 a1).kept = a0.kept := by
  unfold State.modKrv; rfl

@[simp] theorem State.hostCmd_kept (s : State) (tag : Nat) (body stage : Bool) (run : State → State × Nat)
    (h : ∀ s, (run s).1.kept = s.kept) : (s.hostCmd tag body stage run).kept = s.kept := by
  have j := h s
  unfold State.hostCmd
  dsimp only
  repeat' split
  all_goals first
    | rfl
    | (simp; done)
    | simpa using j

@[simp] theorem State.hostOwn_kept (a0 : State) (a1 : State → State × Nat) (h0 : ∀ (y0 : State), (a1 y0).1.kept = y0.kept) :
    (@State.hostOwn a0 a1).1.kept = a0.kept := by
  unfold State.hostOwn; (try dsimp only); (repeat' split) <;> (try simp [*])

@[simp] theorem State.fmCmd_kept (s : State) (src cmd tag : Nat) (rd : Bool) (run : State → State × Option (Nat × Nat))
    (h : ∀ s, (run s).1.kept = s.kept) : (s.fmCmd src cmd tag rd run).kept = s.kept := by
  have j := h s
  unfold State.fmCmd
  dsimp only
  repeat' split
  all_goals first
    | rfl
    | (simp; done)
    | (rename_i e; rw [e] at j; simpa using j)
    | (rename_i e _; rw [e] at j; simpa using j)

@[simp] theorem State.keepReadings_kept (a0 : State) :
    (@State.keepReadings a0).kept = a0.kept := by
  simp [State.keepReadings]

@[simp] theorem State.redfishRead_kept (a0 : State) (a1 : Nat) (a2 : ReadItem) :
    (@State.redfishRead a0 a1 a2).kept = a0.kept := by
  simp [State.redfishRead]

@[simp] theorem State.settingsWrite_kept (s : State) (tag : Nat) (k : Setting) (v : W32) : (s.settingsWrite tag k v).kept = s.kept := by
  unfold State.settingsWrite
  refine State.hostCmd_kept _ _ _ _ _ (fun s => State.hostOwn_kept _ _ (fun s => ?_))
  dsimp only
  repeat' split
  all_goals simp

@[simp] theorem State.setVerify_kept (s : State) (n : Nat) : (s.setVerify n).1.burnt = s.island.burnt := by
  unfold State.setVerify
  split
  · split
    · split
      rename_i e
      have j := stageCheck_kept s.wdn.imgs n [3, 0, 1, 2, 4] { s.island with chal := none }
      rw [e] at j
      exact j
    · rfl
  · split
    rfl

@[simp] theorem State.firmwarePush_kept (a0 : State) (a1 : Nat) (a2 : FwSet) :
    (@State.firmwarePush a0 a1 a2).kept = a0.kept := by
  unfold State.firmwarePush; (try dsimp only); repeat' (first | (simp [*]; done) | split | (refine Eq.trans (State.kept_foldl _ ?_ _ _) ?_ <;> intros) | (refine Eq.trans (State.take_kept _ _ _ _ _ _ ?_) ?_ <;> intros) | (refine Eq.trans (State.finish_kept _ _ _ _ _ _ ?_) ?_ <;> intros) | (refine Eq.trans (State.runTile_kept _ _ _ _ ?_) ?_ <;> intros) | (refine Eq.trans (withABs_kept _ _ _ _ ?_) ?_ <;> intros) | (refine Eq.trans (qPops_kept _ _ _ ?_) ?_ <;> intros) | (refine Eq.trans (State.takeBar_kept _ _ _ _ ?_) ?_ <;> intros) | (refine Eq.trans (State.tileServe_kept _ _ _ _ _ ?_) ?_ <;> intros) | (refine Eq.trans (State.takePrs_kept _ _ _ _ ?_) ?_ <;> intros) | (refine Eq.trans (withPa_kept _ _ _ _ _ _ _ ?_) ?_ <;> intros) | (refine Eq.trans (atS_kept _ _ _ _ _ _ _ ?_) ?_ <;> intros) | (refine Eq.trans (State.endpoint_kept _ _ _ ?_) ?_ <;> intros) | (refine Eq.trans (State.relayed_kept _ _ _ _ ?_) ?_ <;> intros) | (refine Eq.trans (State.i3cFw_kept _ _ ?_) ?_ <;> intros) | (refine Eq.trans (State.hostCmd_kept _ _ _ _ _ ?_) ?_ <;> intros) | (refine Eq.trans (State.hostOwn_kept _ _ ?_) ?_ <;> intros) | (refine Eq.trans (State.fmCmd_kept _ _ _ _ _ _ ?_) ?_ <;> intros) | (refine Eq.trans (State.wdnBy_kept _ _ _ ?_) ?_ <;> intros))

@[simp] theorem State.fmHello_kept (a0 : State) (a1 : Nat) (a2 : Nat) : (@State.fmHello a0 a1 a2).kept = a0.kept := by
  simp [State.fmHello]

@[simp] theorem State.fmBypassIn_kept (a0 : State) (a1 : Nat) (a2 : Nat) (a3 : Nat) :
    (@State.fmBypassIn a0 a1 a2 a3).kept = a0.kept := by
  simp [State.fmBypassIn]

@[simp] theorem State.fmBypassOut_kept (s : State) (src tag mask : Nat) : (s.fmBypassOut src tag mask).kept = s.kept := by
  unfold State.fmBypassOut
  refine State.fmCmd_kept _ _ _ _ _ _ (fun s => ?_)
  dsimp only
  repeat' split
  all_goals simp

@[simp] theorem State.fmSetTopo_kept (s : State) (src tag : Nat) (t : W32) (fm : Nat) : (s.fmSetTopo src tag t fm).kept = s.kept := by
  unfold State.fmSetTopo
  refine State.fmCmd_kept _ _ _ _ _ _ (fun s => ?_)
  dsimp only
  repeat' split
  all_goals simp

@[simp] theorem State.fmTelemSub_kept (a0 : State) (a1 : Nat) (a2 : Nat) (a3 : Nat) :
    (@State.fmTelemSub a0 a1 a2 a3).kept = a0.kept := by
  simp [State.fmTelemSub]

@[simp] theorem State.fmBad_kept (a0 : State) (a1 : Nat) (a2 : Nat) (a3 : Nat) :
    (@State.fmBad a0 a1 a2 a3).kept = a0.kept := by
  simp [State.fmBad]

@[simp] theorem State.hostLink_kept (a0 : State) (a1 : Nat) :
    (@State.hostLink a0 a1).kept = a0.kept := by
  simp [State.hostLink]

@[simp] theorem State.bypassInCmd_kept (a0 : State) (a1 : KSrc) (a2 : Nat) (a3 : Nat) :
    (@State.bypassInCmd a0 a1 a2 a3).kept = a0.kept := by
  unfold State.bypassInCmd; (try simp); (repeat' (split <;> (try simp)))

@[simp] theorem State.bypassOutCmd_kept (a0 : State) (a1 : KSrc) (a2 : Nat) (a3 : Nat) :
    (@State.bypassOutCmd a0 a1 a2 a3).kept = a0.kept := by
  unfold State.bypassOutCmd; (try simp); (repeat' (split <;> (try simp)))

@[simp] theorem State.setTopoCmd_kept (a0 : State) (a1 : KSrc) (a2 : Nat) (a3 : W32) (a4 : Nat) :
    (@State.setTopoCmd a0 a1 a2 a3 a4).kept = a0.kept := by
  unfold State.setTopoCmd; (try dsimp only); repeat' (first | (simp [*]; done) | split | (refine Eq.trans (State.kept_foldl _ ?_ _ _) ?_ <;> intros) | (refine Eq.trans (State.take_kept _ _ _ _ _ _ ?_) ?_ <;> intros) | (refine Eq.trans (State.finish_kept _ _ _ _ _ _ ?_) ?_ <;> intros) | (refine Eq.trans (State.runTile_kept _ _ _ _ ?_) ?_ <;> intros) | (refine Eq.trans (withABs_kept _ _ _ _ ?_) ?_ <;> intros) | (refine Eq.trans (qPops_kept _ _ _ ?_) ?_ <;> intros) | (refine Eq.trans (State.takeBar_kept _ _ _ _ ?_) ?_ <;> intros) | (refine Eq.trans (State.tileServe_kept _ _ _ _ _ ?_) ?_ <;> intros) | (refine Eq.trans (State.takePrs_kept _ _ _ _ ?_) ?_ <;> intros) | (refine Eq.trans (withPa_kept _ _ _ _ _ _ _ ?_) ?_ <;> intros) | (refine Eq.trans (atS_kept _ _ _ _ _ _ _ ?_) ?_ <;> intros) | (refine Eq.trans (State.endpoint_kept _ _ _ ?_) ?_ <;> intros) | (refine Eq.trans (State.relayed_kept _ _ _ _ ?_) ?_ <;> intros) | (refine Eq.trans (State.i3cFw_kept _ _ ?_) ?_ <;> intros) | (refine Eq.trans (State.hostCmd_kept _ _ _ _ _ ?_) ?_ <;> intros) | (refine Eq.trans (State.hostOwn_kept _ _ ?_) ?_ <;> intros) | (refine Eq.trans (State.fmCmd_kept _ _ _ _ _ _ ?_) ?_ <;> intros) | (refine Eq.trans (State.wdnBy_kept _ _ _ ?_) ?_ <;> intros))

@[simp] theorem State.krovasStageWr_kept (a0 : State) (a1 : Bytes) : (@State.krovasStageWr a0 a1).kept = a0.kept := by
  unfold State.krovasStageWr; dsimp only; split <;> simp

@[simp] theorem State.telemetryFrame_kept (a0 : State) : (@State.telemetryFrame a0).kept = a0.kept := by
  simp [State.telemetryFrame]

@[simp] theorem State.krovasGetState_kept (a0 : State) :
    (@State.krovasGetState a0).kept = a0.kept := by
  simp [State.krovasGetState]

@[simp] theorem State.krovasTelemRd_kept (a0 : State) :
    (@State.krovasTelemRd a0).kept = a0.kept := by
  simp [State.krovasTelemRd]

@[simp] theorem State.trayOver_kept (a0 : State) (a1 : Nat) : (@State.trayOver a0 a1).kept = a0.kept := by
  simp [State.trayOver]

@[simp] theorem State.trayNormal_kept (a0 : State) (a1 : Nat) : (@State.trayNormal a0 a1).kept = a0.kept := by
  simp [State.trayNormal]

@[simp] theorem State.sisErrChange_kept (a0 : State) : (@State.sisErrChange a0).kept = a0.kept := by
  simp [State.sisErrChange]

@[simp] theorem State.heartbeatStall_kept (a0 : State) : (@State.heartbeatStall a0).kept = a0.kept := by
  simp [State.heartbeatStall]

@[simp] theorem State.bypPosChange_kept (a0 : State) (a1 : Nat) (a2 : Bool) :
    (@State.bypPosChange a0 a1 a2).kept = a0.kept := by
  simp [State.bypPosChange]

@[simp] theorem State.bypassMismatch_kept (a0 : State) (a1 : Nat) : (@State.bypassMismatch a0 a1).kept = a0.kept := by
  simp [State.bypassMismatch]

@[simp] theorem State.plateRstOut_kept (a0 : State) : (@State.plateRstOut a0).kept = a0.kept := by
  simp [State.plateRstOut]

@[simp] theorem State.tileReg_kept (a0 : State) (a1 : Nat) (a2 : Tile → Tile) :
    (@State.tileReg a0 a1 a2).kept = a0.kept := by
  unfold State.tileReg; (try dsimp only); (repeat' split) <;> (try simp [*])

@[simp] theorem State.fldReg_kept (a0 : State) (a1 : Nat) (a2 : Field → Field) :
    (@State.fldReg a0 a1 a2).kept = a0.kept := by
  simp [State.fldReg]

@[simp] theorem State.shWindow_kept (a0 : State) (a1 : Nat) :
    (@State.shWindow a0 a1).kept = a0.kept := by
  simp [State.shWindow]

@[simp] theorem State.tileWr_kept (a0 : State) (a1 : Party) (a2 : Nat) (a3 : Nat) (a4 : W32) :
    (@State.tileWr a0 a1 a2 a3 a4).kept = a0.kept := by
  simp [State.tileWr]

@[simp] theorem State.tileRd_kept (a0 : State) (a1 : Party) (a2 : Nat) (a3 : Nat) :
    (@State.tileRd a0 a1 a2 a3).kept = a0.kept := by
  simp [State.tileRd]

@[simp] theorem State.fldWr_kept (a0 : State) (a1 : Party) (a2 : Nat) (a3 : Nat) (a4 : W32) :
    (@State.fldWr a0 a1 a2 a3 a4).kept = a0.kept := by
  simp [State.fldWr]

@[simp] theorem State.fldRd_kept (a0 : State) (a1 : Nat) (a2 : Nat) : (@State.fldRd a0 a1 a2).kept = a0.kept := by
  simp [State.fldRd]

@[simp] theorem State.cutWr_kept (a0 : State) (a1 : Nat) (a2 : Party) (a3 : Nat) (a4 : W32) :
    (@State.cutWr a0 a1 a2 a3 a4).kept = a0.kept := by
  simp [State.cutWr]

@[simp] theorem State.prsWr_kept (a0 : State) (a1 : Party) (a2 : Nat) (a3 : Nat) (a4 : W32) :
    (@State.prsWr a0 a1 a2 a3 a4).kept = a0.kept := by
  simp [State.prsWr]

@[simp] theorem State.fwinWr_kept (a0 : State) (a1 : Party) (a2 : Nat) (a3 : Nat) (a4 : W64) :
    (@State.fwinWr a0 a1 a2 a3 a4).kept = a0.kept := by
  simp [State.fwinWr]

@[simp] theorem State.holdWr_kept (a0 : State) (a1 : Party) (a2 : Nat) (a3 : Nat) (a4 : Bool) :
    (@State.holdWr a0 a1 a2 a3 a4).kept = a0.kept := by
  simp [State.holdWr]

@[simp] theorem State.rimRd_kept (a0 : State) (a1 : Party) (a2 : Nat) (a3 : Nat) :
    (@State.rimRd a0 a1 a2 a3).kept = a0.kept := by
  simp [State.rimRd]

@[simp] theorem State.keepWr_kept (a0 : State) (a1 : Party) (a2 : Nat) (a3 : W64) :
    (@State.keepWr a0 a1 a2 a3).kept = a0.kept := by
  simp [State.keepWr]

@[simp] theorem State.hwinWr_kept (a0 : State) (a1 : Party) (a2 : Nat) (a3 : Bool) (a4 : W64) :
    (@State.hwinWr a0 a1 a2 a3 a4).kept = a0.kept := by
  simp [State.hwinWr]

@[simp] theorem State.prfWr_kept (a0 : State) (a1 : Party) (a2 : Proof → Proof) :
    (@State.prfWr a0 a1 a2).kept = a0.kept := by
  simp [State.prfWr]

@[simp] theorem State.timerTo_kept (a0 : State) (a1 : Nat) (a2 : Nat) : (@State.timerTo a0 a1 a2).kept = a0.kept := by
  simp [State.timerTo]

@[simp] theorem State.takeRespAt_kept (a0 : State) (a1 : Taker) : (@State.takeRespAt a0 a1).kept = a0.kept := by
  unfold State.takeRespAt; (try dsimp only); (repeat' split) <;> (try simp [*])

@[simp] theorem State.takeAckAt_kept (a0 : State) (a1 : Taker) : (@State.takeAckAt a0 a1).kept = a0.kept := by
  unfold State.takeAckAt; (try dsimp only); (repeat' split) <;> (try simp [*])

@[simp] theorem State.takeReleaseAt_kept (a0 : State) (a1 : Taker) : (@State.takeReleaseAt a0 a1).kept = a0.kept := by
  unfold State.takeReleaseAt; (try simp); (repeat' (split <;> (try simp)))

@[simp] theorem State.creditArrive_kept (a0 : State) (a1 : Nat) (a2 : RPort) (a3 : Nat) (a4 : Bool) (a5 : Bool) :
    (@State.creditArrive a0 a1 a2 a3 a4 a5).kept = a0.kept := by
  simp [State.creditArrive]

@[simp] theorem Warden.beat_kept (a0 : Warden) (a1 : Nat) (a2 : Nat) : (@Warden.beat a0 a1 a2).pwrCap = a0.pwrCap := by
  simp [Warden.beat]

@[simp] theorem State.tick_kept (s : State) : s.tick.kept = s.kept := by
  unfold State.tick
  dsimp only
  split
  · rfl
  · simp only [State.kept_mk, Warden.beat]
    split <;> rfl

@[simp] theorem State.withFetchWord_kept (a0 : State) (a1 : Nat) (a2 : Nat) :
    (@State.withFetchWord a0 a1 a2).kept = a0.kept := by
  unfold State.withFetchWord; rfl

end Sys2Proof.Machine
end

