-- ==== Sys2Proof/Laws/Tile.lean ====
section
/-! SUPPORT. How an instruction of a tile runs: what `runTile` and `finish` do, said once. -/

namespace Sys2Proof.Machine

/-- What `issues` says, taken apart. -/
theorem issues_cases {s : State} {r len : Nat} {f : Fields} (h : s.issues r f len = true) :
    (s.tile r).canIssue = true ∧ (s.tile r).fetch (s.tile r).pc = .instr f (len == 8) len
      ∧ (vecUse f).any (fun v => (latDests (s.tile r).latq).contains v) = false ∧ (s.tile r).afault = none := by
  simp only [State.issues, Bool.and_eq_true, beq_iff_eq, Bool.not_eq_true', Option.isNone_iff_eq_none] at h
  obtain ⟨⟨⟨h1, h2⟩, h3⟩, h4⟩ := h
  exact ⟨h1, h2, h3, h4⟩

theorem canIssue_cases {t : Tile} (h : t.canIssue = true) :
    t.rst = false ∧ t.state = .running ∧ t.stopping = false ∧ t.blk = none ∧ t.sendCh = none
      ∧ t.waiters.any isCoreW = false := by
  simp only [Tile.canIssue, Bool.and_eq_true, Bool.not_eq_true', beq_iff_eq, Option.isNone_iff_eq_none] at h
  exact ⟨h.1.1.1.1.1, h.1.1.1.1.2, h.1.1.1.2, h.1.1.2, h.1.2, h.2⟩

/-- An instruction that can issue runs its body. -/
theorem runTile_issues {s : State} {r len : Nat} {f : Fields} (h : s.issues r f len = true) (m : Mn) (body : Mn → Body)
    (hm : m = if len = 8 then .limm else f.mn) :
    s.runTile r m body
      = s.finish r (s.tile r).pc (len / 4) (body f.mn r f (s.tile r).pc ((s.tile r).nextPc len) s) := by
  obtain ⟨h1, h2, h3, -⟩ := issues_cases h
  subst hm
  simp only [State.runTile, h1, h2, h3, Tile.nextPc]
  by_cases hl : len = 8 <;> simp [hl]

/-- A command of a domain on the reference clock. -/
theorem gives_of {c : Instr} {s u : State} {P : State → Prop} (h : exec c s = .next (s.clocked u)) (ho : ownClock c = false)
    (hp : P u) : Gives c s P := by
  refine ⟨_, h, ?_⟩
  unfold State.clocked
  cases s.wdn.refOk <;> simp [ho, hp]

/-- A command with a clock of its own. -/
theorem gives_own {c : Instr} {s u : State} {P : State → Prop} (h : exec c s = .next u) (ho : ownClock c = true) (hp : P u) :
    Gives c s P := ⟨_, h, by simp [ho, hp]⟩

/-- A row of the instruction set, with or without the prefix. -/
theorem exec_named {s : State} {r : TileId} {len : Nat} {f : Fields} (h : s.issues r.val f len = true)
    (c : Hart → Instr) (hc : ∀ g, exec (c g) s = .next (s.runHart g f.mn)) :
    exec (named len c (.tile r)) s
      = .next (s.clocked (s.finish r.val (s.tile r.val).pc (len / 4)
          (tileBody f.mn r.val f (s.tile r.val).pc ((s.tile r.val).nextPc len) s))) := by
  unfold named
  split
  · rename_i hl
    show Host.Outcome.next (s.clocked (s.runTile r.val .limm tileBody)) = _
    rw [runTile_issues h .limm tileBody (by simp [hl])]
  · rename_i hl
    rw [hc]
    show Host.Outcome.next (s.clocked (s.runTile r.val f.mn tileBody)) = _
    rw [runTile_issues h f.mn tileBody (by simp [hl])]

/-- What a row ends in, with or without the prefix. -/
theorem gives_named {s : State} {r : TileId} {len : Nat} {f : Fields} {P : State → Prop} (h : s.issues r.val f len = true)
    (c : Hart → Instr) (hc : ∀ g, exec (c g) s = .next (s.runHart g f.mn)) (ho : ∀ g, ownClock (c g) = false)
    (hp : P (s.finish r.val (s.tile r.val).pc (len / 4)
      (tileBody f.mn r.val f (s.tile r.val).pc ((s.tile r.val).nextPc len) s))) :
    Gives (named len c (.tile r)) s P := by
  refine gives_of (exec_named h c hc) ?_ hp
  unfold named
  split
  · rfl
  · exact ho _

theorem filter_noCore {l : List Waiter} (h : l.any isCoreW = false) : l.filter (fun w => !isCoreW w) = l := by
  induction l with
  | nil => rfl
  | cons w l ih =>
    simp only [List.any_cons, Bool.or_eq_false_iff] at h
    simp [h.1, ih h.2]

/-- What the note of a corrected fetch changes: the count and the list of corrected words. -/
theorem fetchNote_eq (t : Tile) (n : Nat) :
    ∃ c w, t.fetchNote n = { t with eccCe := c, wb := w } ∧ (t.upset = [] → c = t.eccCe ∧ w = t.wb) := by
  unfold Tile.fetchNote
  split
  · rename_i h
    exact ⟨_, _, rfl, fun h0 => by simp [h0] at h⟩
  · exact ⟨_, _, rfl, fun _ => ⟨rfl, rfl⟩⟩

theorem noteAt_eq (t : Tile) (pc : W32) (n : Nat) :
    ∃ c w, t.noteAt pc n = { t with eccCe := c, wb := w, noted := true } ∧ (t.upset = [] → c = t.eccCe ∧ w = t.wb) := by
  unfold Tile.noteAt
  split
  · rename_i h
    exact ⟨t.eccCe, t.wb, by rw [← h], fun _ => ⟨rfl, rfl⟩⟩
  · have e1 : ∃ c w, (if n ≥ 1 then t.fetchNote (pc.toNat / 4) else t) = { t with eccCe := c, wb := w }
        ∧ (t.upset = [] → c = t.eccCe ∧ w = t.wb) := by
      split
      · exact fetchNote_eq _ _
      · exact ⟨_, _, rfl, fun _ => ⟨rfl, rfl⟩⟩
    obtain ⟨c, w, h, h0⟩ := e1
    dsimp only
    rw [h]
    split
    · obtain ⟨c', w', h', h0'⟩ := fetchNote_eq { t with eccCe := c, wb := w } (pc.toNat / 4 + 1)
      refine ⟨c', w', by rw [h'], fun hu => ?_⟩
      have := h0' hu
      have h1 := h0 hu
      exact ⟨this.1.trans h1.1, this.2.trans h1.2⟩
    · exact ⟨c, w, rfl, h0⟩

/-- A body that ends with its tile as `t` retires there. -/
theorem finish_ok {s : State} {r n : Nat} {t : Tile} {npc : W32}
    (h1 : t.state = .running) (h2 : t.blk = none) (h3 : t.waiters.any isCoreW = false) (h4 : t.afault = none)
    (h5 : t.rst = s.held r) (h6 : t.stepping = (s.tile r).stepping) (h8 : t.stopping = false) (h9 : t.sendCh = none)
    (h7 : t.upset = (s.tile r).upset ∨ ((s.tile r).upset = [] → t.upset = [])) :
    Retired s (s.finish r (s.tile r).pc n (.ok (s.setTile r t) npc)) r t npc := by
  obtain ⟨c, w, hn, hn0⟩ := noteAt_eq { t with rst := s.held r } (s.tile r).pc n
  have hN : (s.setTile r t).noteFetch r (s.tile r).pc n
      = s.setTile r { t with rst := s.held r, eccCe := c, wb := w, noted := true } := by
    simp only [State.noteFetch, State.modTile, State.tile_setTile, State.setTile_setTile]
    rw [hn]
  have hE : s.finish r (s.tile r).pc n (.ok (s.setTile r t) npc)
      = s.setTile r { t with
          rst := s.held r, eccCe := c, wb := w, waiting := false, fence := none, fenced := false, noted := false,
          want := t.want.filter (· != 0), pc := npc, state := if t.stepping then .stopped else .running, stepping := false } := by
    simp only [State.finish, hN, State.complete, State.tile_setTile, Tile.dropWait, h4, filter_noCore h3, State.setTile_setTile,
      Tile.endStep]
    cases hs : t.stepping <;> simp [h1, h2, h8, h9]
  have hu : (s.tile r).upset = [] → c = t.eccCe ∧ w = t.wb := by
    intro h0
    apply hn0
    rcases h7 with h7 | h7
    · simpa [h0] using h7
    · exact h7 h0
  rw [hE]
  refine ⟨⟨rfl, fun k hk => sget_sput_ne _ _ _ hk⟩, ?_⟩
  refine ⟨?_, ?_, ?_, ?_, ?_, ?_⟩ <;> simp [Tile.core, h5, ← h6]
  exact hu

/-- What a body may not touch for its instruction to end in the plain way. -/
def Steady (t0 t : Tile) : Prop :=
  t.state = t0.state ∧ t.blk = t0.blk ∧ t.waiters = t0.waiters ∧ t.afault = t0.afault ∧ t.rst = t0.rst
    ∧ t.stepping = t0.stepping ∧ t.stopping = t0.stopping ∧ t.sendCh = t0.sendCh
    ∧ (t.upset = t0.upset ∨ (t0.upset = [] → t.upset = []))

theorem retired_of {s : State} {r len : Nat} {f : Fields} {t : Tile} {npc : W32} (h : s.issues r f len = true)
    (hs : Steady (s.tile r) t) (n : Nat) :
    Retired s (s.finish r (s.tile r).pc n (.ok (s.setTile r t) npc)) r t npc := by
  obtain ⟨hc, -, -, ha⟩ := issues_cases h
  obtain ⟨-, k2, k3, k4, k5, k6⟩ := canIssue_cases hc
  obtain ⟨s1, s2, s3, s4, s5, s6, s7, s8, s9⟩ := hs
  exact finish_ok (s1.trans k2) (s2.trans k4) (by rw [s3]; exact k6) (s4.trans ha) s5 s6 (s7.trans k3) (s8.trans k5) s9

/-- A row whose body ends over its tile alone retires there. -/
theorem gives_ok {s : State} {r : TileId} {len : Nat} {f : Fields} {t : Tile} {npc : W32}
    (h : s.issues r.val f len = true) (c : Hart → Instr) (hc : ∀ g, exec (c g) s = .next (s.runHart g f.mn))
    (ho : ∀ g, ownClock (c g) = false)
    (hb : tileBody f.mn r.val f (s.tile r.val).pc ((s.tile r.val).nextPc len) s = .ok (s.setTile r.val t) npc)
    (hs : Steady (s.tile r.val) t) :
    Gives (named len c (.tile r)) s (fun u => Retired s u r.val t npc) :=
  gives_named h c hc ho (by rw [hb]; exact retired_of h hs _)

/-- The same for a local body. -/
theorem gives_local {s : State} {r : TileId} {len : Nat} {f : Fields} {t : Tile} {npc : W32}
    (h : s.issues r.val f len = true) (c : Hart → Instr) (g : LBody)
    (hc : ∀ g, exec (c g) s = .next (s.runHart g f.mn)) (ho : ∀ g, ownClock (c g) = false) (hg : tileBody f.mn = localBody g)
    (hb : g f (s.tile r.val).pc ((s.tile r.val).nextPc len) (s.tile r.val) = .ok t npc)
    (hs : Steady (s.tile r.val) t) :
    Gives (named len c (.tile r)) s (fun u => Retired s u r.val t npc) :=
  gives_ok h c hc ho (by rw [hg]; simp only [localBody, hb]) hs

/-- A local body that waits holds its tile. -/
theorem gives_wait {s : State} {r : TileId} {len : Nat} {f : Fields} {w : Bool}
    (h : s.issues r.val f len = true) (c : Hart → Instr) (g : LBody)
    (hc : ∀ g, exec (c g) s = .next (s.runHart g f.mn)) (ho : ∀ g, ownClock (c g) = false) (hg : tileBody f.mn = localBody g)
    (hb : g f (s.tile r.val).pc ((s.tile r.val).nextPc len) (s.tile r.val) = .wait (s.tile r.val) w) :
    Gives (named len c (.tile r)) s (fun u => Held s u r.val (s.tile r.val) ∧ (u.tile r.val).waiting = w) := by
  refine gives_named h c hc ho ?_
  obtain ⟨e, l, hn, hn0⟩ := noteAt_eq { s.tile r.val with rst := s.held r.val } (s.tile r.val).pc (len / 4)
  have hN : (s.setTile r.val (s.tile r.val)).noteFetch r.val (s.tile r.val).pc (len / 4)
      = s.setTile r.val { s.tile r.val with rst := s.held r.val, eccCe := e, wb := l, noted := true } := by
    simp only [State.noteFetch, State.modTile, State.tile_setTile, State.setTile_setTile]
    rw [hn]
  rw [hg]
  simp only [localBody, hb, State.finish, hN]
  simp only [State.modTile, State.tile_setTile, State.setTile_setTile]
  refine ⟨⟨⟨rfl, fun k hk => sget_sput_ne _ _ _ hk⟩, ?_, ?_⟩, ?_⟩
  · simp
  · intro hu
    simpa using hn0 hu
  · simp

/-- What a body may not touch for its fault to keep what R195 keeps. -/
def Calm (t0 t : Tile) : Prop :=
  t.pc = t0.pc ∧ t.sregs = t0.sregs ∧ t.vregs = t0.vregs ∧ t.accs = t0.accs ∧ t.mem = t0.mem ∧ t.full = t0.full
    ∧ t.queues = t0.queues ∧ t.rst = t0.rst ∧ t.waiters = t0.waiters ∧ t.upset = t0.upset ∧ t.streams = t0.streams
    ∧ t.latq = t0.latq ∧ t.latRun = t0.latRun

theorem modUnit_eq (t : Tile) (u : Nat) (g : SUnit → SUnit) : ∃ st, t.modUnit u g = { t with streams := st } := ⟨_, rfl⟩

theorem allUnits_eq (t : Tile) (g : SUnit → SUnit) : ∃ st, t.allUnits g = { t with streams := st } := by
  unfold Tile.allUnits
  obtain ⟨a, ha⟩ := modUnit_eq t 0 g
  rw [ha]
  obtain ⟨b, hb⟩ := modUnit_eq { t with streams := a } 1 g
  rw [hb]
  obtain ⟨c, hc⟩ := modUnit_eq { t with streams := b } 2 g
  rw [hc]
  exact modUnit_eq { t with streams := c } 3 g

/-- The tile of a fault (R195 to R199): what is set, and what stays. -/
theorem enterFault_eq (t : Tile) (x : FaultRec) (pc : W32) (async multi : Bool) :
    ∃ st, t.enterFault x pc async multi = { t with
      waiting := false, fence := none, fenced := false, noted := false, waiters := t.waiters.filter (fun w => !isCoreW w),
      streams := st, state := .faulted, stopping := false, stepping := false, blk := none, sendCh := none, want := [],
      afault := none, afMulti := false, latq := [], latRun := none,
      fault := BitVec.ofNat 32 (b2n multi * 2 ^ 17 + b2n async * 2 ^ 16 + (x.detail % 256) * 2 ^ 8 + x.code % 256),
      faultPc := pc, faultInfo := x.info, pc := pc } := by
  unfold Tile.enterFault
  obtain ⟨st, h⟩ := allUnits_eq t.dropWait SUnit.abortAll
  rw [h]
  exact ⟨st, rfl⟩

/-- What a field controller keeps when it logs a fault or raises an event: everything but log, events and queue. -/
theorem raise_eq (f : Field) (b : Nat) : ∃ e u, f.raise b = { f with evt := e, up := u } := by
  unfold Field.raise
  simp only
  split
  · exact ⟨_, _, rfl⟩
  · split <;> exact ⟨_, _, rfl⟩

theorem logFault_eq (f : Field) (h : Bool) (c y x : Nat) :
    ∃ e u l, f.logFault h c y x = { f with evt := e, up := u, fltLog := l } := by
  unfold Field.logFault
  simp only
  obtain ⟨e, u, h⟩ := raise_eq f 0
  rw [h]
  split
  · exact ⟨_, _, _, rfl⟩
  · obtain ⟨e', u', h'⟩ := raise_eq { f with evt := e, up := u } 1
    rw [h']
    exact ⟨_, _, _, rfl⟩

/-- A write of a field controller that keeps reset, source, sub-waves, TILE resets and column map keeps every tile. -/
theorem tile_setFld {s : State} {f : Nat} {x : Field} (h1 : x.rst = (s.fld f).rst) (h2 : x.src = (s.fld f).src)
    (h3 : x.subwave = (s.fld f).subwave) (h4 : x.tileRst = (s.fld f).tileRst) (h5 : x.colmap = (s.fld f).colmap) (q : Nat) :
    (s.setFld f x).tile q = s.tile q := by
  have hp : (s.setFld f x).phys q = s.phys q := by
    unfold State.phys
    by_cases hq : fieldOf q = f
    · rw [hq, State.fld_setFld, h5]
    · rw [State.fld_setFld_ne _ _ hq]
  have hh : (s.setFld f x).held q = s.held q := by
    unfold State.held
    by_cases hq : fieldOf q = f
    · simp only [hq, State.fld_setFld, h1, h2, h3, h4]
    · simp only [State.fld_setFld_ne _ _ hq]
  unfold State.tile
  rw [hp, hh]
  rfl

theorem tile_logFault (s : State) (f : Nat) (h : Bool) (c y x q : Nat) :
    (s.modFld f (·.logFault h c y x)).tile q = s.tile q := by
  obtain ⟨e, u, l, h⟩ := logFault_eq (s.fld f) h c y x
  show (s.setFld f ((s.fld f).logFault _ c y x)).tile q = _
  refine tile_setFld ?_ ?_ ?_ ?_ ?_ q <;> rw [h]

/-- What a fault that ends an instruction does. -/
theorem tileFault_eq (s : State) (r : Nat) (x : FaultRec) (pc : W32) (async multi : Bool) :
    (s.tileFault r x pc async multi).tile r = { (s.tile r).enterFault x pc async multi with rst := s.held r } := by
  unfold State.tileFault
  rw [tile_logFault]
  simp [State.modTile]

/-! ### Faults that may fall in one cycle (R198) -/

/-- What a checked read records. -/
def Records (t t' : Tile) : Prop :=
  ∃ c e a w, t' = { t with eccCe := c, eccUe := e, eccAddr := a, wb := w }

theorem Records.refl (t : Tile) : Records t t := ⟨_, _, _, _, rfl⟩
theorem Records.trans {a b c : Tile} (h : Records a b) (k : Records b c) : Records a c := by
  obtain ⟨_, _, _, _, rfl⟩ := h
  obtain ⟨_, _, _, _, rfl⟩ := k
  exact ⟨_, _, _, _, rfl⟩

theorem rdWord_records (t : Tile) (n : Nat) : Records t (t.rdWord n).1 := by
  unfold Tile.rdWord
  split <;> exact ⟨_, _, _, _, rfl⟩

theorem rdWord_val {t t' : Tile} (hm : t'.mem = t.mem) (hu : t'.upset = t.upset) (n : Nat) : (t'.rdWord n).2 = (t.rdWord n).2 := by
  unfold Tile.rdWord
  rw [hm, hu]
  split <;> rfl

theorem rdWords_step (t : Tile) (n k : Nat) :
    t.rdWords n (k + 1) = (match t.rdWord n with
      | (t, none) => (t, none)
      | (t, some w) => match t.rdWords (n + 1) k with
        | (t, none) => (t, none)
        | (t, some ws) => (t, some (w :: ws))) := rfl

theorem rdWords_records (t : Tile) (n k : Nat) : Records t (t.rdWords n k).1 := by
  induction k generalizing t n with
  | zero => exact Records.refl _
  | succ k ih =>
    rw [rdWords_step]
    have h := rdWord_records t n
    generalize t.rdWord n = x at h
    rcases x with ⟨t1, _ | w⟩
    · exact h
    · have h2 := ih t1 (n + 1)
      dsimp only
      generalize t1.rdWords (n + 1) k = y at h2
      rcases y with ⟨t2, _ | ws⟩
      · exact h.trans h2
      · exact h.trans h2

theorem rdWords_val {t t' : Tile} (hm : t'.mem = t.mem) (hu : t'.upset = t.upset) (n k : Nat) :
    (t'.rdWords n k).2 = (t.rdWords n k).2 := by
  induction k generalizing t t' n with
  | zero => rfl
  | succ k ih =>
    rw [rdWords_step, rdWords_step]
    have v := rdWord_val hm hu n
    have h1 := rdWord_records t n
    have h2 := rdWord_records t' n
    generalize t.rdWord n = x at v h1
    generalize t'.rdWord n = y at v h2
    obtain ⟨a, x2⟩ := x
    obtain ⟨b, y2⟩ := y
    simp only at v h1 h2
    subst v
    cases y2 with
    | none => rfl
    | some w =>
      have m : b.mem = a.mem ∧ b.upset = a.upset := by
        obtain ⟨_, _, _, _, rfl⟩ := h1
        obtain ⟨_, _, _, _, rfl⟩ := h2
        exact ⟨hm, hu⟩
      have := ih m.1 m.2 (n + 1)
      dsimp only
      generalize a.rdWords (n + 1) k = x at this
      generalize b.rdWords (n + 1) k = y at this
      obtain ⟨_, x⟩ := x
      obtain ⟨_, y⟩ := y
      cases this
      cases x <;> rfl

theorem readItem_bad {t t' : Tile} {u n : Nat} {d : Desc} {x : FaultRec} (h : readItem t u d n = .bad t' x) : Records t t' := by
  unfold readItem at h
  dsimp only at h
  have h1 := rdWords_records t (d.addr n / 4) (d.size / 4)
  have h2 := rdWord_records t (d.addr n / 4)
  split at h
  · split at h <;> rename_i e <;> rw [e] at h1 <;> cases h
    exact h1
  · split at h <;> rename_i e <;> rw [e] at h1
    · split at h <;> cases h
      exact h1
    · cases h
      exact h1
  · split at h <;> rename_i e <;> rw [e] at h2
    · cases h
      exact h2
    · split at h <;> rename_i e2 <;> cases h
      refine Records.trans h2 ?_
      have h3 := rdWords_records ‹Tile› (d.addr n / 4 + 1) ((popc (BitVec.toNat ‹W32›) 16 * elemSize d.fmt + 3) / 4)
      rw [e2] at h3
      exact h3

/-- Whether a read of an item finds an error does not depend on what earlier reads recorded. -/
def ItemRes.isBad : ItemRes → Bool
  | .item _ _ => false
  | .bad _ _ => true

theorem readItem_isBad {t t' : Tile} (hm : t'.mem = t.mem) (hu : t'.upset = t.upset) (u n : Nat) (d : Desc) :
    (readItem t' u d n).isBad = (readItem t u d n).isBad := by
  unfold readItem
  dsimp only
  have h1 := rdWords_val hm hu (d.addr n / 4) (d.size / 4)
  have h2 := rdWord_val hm hu (d.addr n / 4)
  have r1 := rdWord_records t (d.addr n / 4)
  have r2 := rdWord_records t' (d.addr n / 4)
  split
  · generalize t.rdWords (d.addr n / 4) (d.size / 4) = x at h1
    generalize t'.rdWords (d.addr n / 4) (d.size / 4) = y at h1
    obtain ⟨_, x⟩ := x
    obtain ⟨_, y⟩ := y
    cases h1
    cases x <;> rfl
  · generalize t.rdWords (d.addr n / 4) (d.size / 4) = x at h1
    generalize t'.rdWords (d.addr n / 4) (d.size / 4) = y at h1
    obtain ⟨_, x⟩ := x
    obtain ⟨_, y⟩ := y
    cases h1
    cases x with
    | none => rfl
    | some ws =>
      dsimp only
      split <;> rfl
  · generalize t.rdWord (d.addr n / 4) = x at h2 r1
    generalize t'.rdWord (d.addr n / 4) = y at h2 r2
    obtain ⟨a, x⟩ := x
    obtain ⟨b, y⟩ := y
    cases h2
    cases x with
    | none => rfl
    | some w =>
      dsimp only
      have m : b.mem = a.mem ∧ b.upset = a.upset := by
        obtain ⟨_, _, _, _, rfl⟩ := r1
        obtain ⟨_, _, _, _, rfl⟩ := r2
        exact ⟨hm, hu⟩
      have h3 := rdWords_val m.1 m.2 (d.addr n / 4 + 1) ((popc w.toNat 16 * elemSize d.fmt + 3) / 4)
      generalize a.rdWords (d.addr n / 4 + 1) ((popc w.toNat 16 * elemSize d.fmt + 3) / 4) = x at h3
      generalize b.rdWords (d.addr n / 4 + 1) ((popc w.toNat 16 * elemSize d.fmt + 3) / 4) = y at h3
      obtain ⟨_, x⟩ := x
      obtain ⟨_, y⟩ := y
      cases h3
      cases x <;> rfl

/-- Two tiles whose stream units find the same. -/
def AlikeStreams (t t' : Tile) : Prop :=
  t'.mem = t.mem ∧ t'.upset = t.upset ∧ t'.streams = t.streams ∧ t'.latq = t.latq ∧ t'.latRun = t.latRun

theorem coFault_isSome {t t' : Tile} (h : AlikeStreams t t') (u : Nat) : (t'.coFault u).isSome = (t.coFault u).isSome := by
  obtain ⟨h1, h2, h3, h4, h5⟩ := h
  have hr : t'.readReady u = t.readReady u := by
    unfold Tile.readReady Tile.skipLocked Tile.lvmUnits Tile.unit
    rw [h3, h4, h5]
  have hx : t'.unit u = t.unit u := by unfold Tile.unit; rw [h3]
  unfold Tile.coFault
  rw [hr]
  split
  · rfl
  · rename_i d _
    have := readItem_isBad h1 h2 u (t.unit u).idx d
    unfold Tile.fetchItem
    rw [hx]
    dsimp only
    generalize readItem t' u d (t.unit u).idx = a at this
    generalize readItem t u d (t.unit u).idx = b at this
    cases a <;> cases b <;> simp_all [ItemRes.isBad]

theorem coFault_records {t t' : Tile} {u : Nat} {x : FaultRec} (h : t.coFault u = some (t', x)) : Records t t' := by
  unfold Tile.coFault at h
  split at h
  · cases h
  · rename_i d _
    unfold Tile.fetchItem at h
    dsimp only at h
    generalize e : readItem t u d (t.unit u).idx = a at h
    cases a with
    | item _ _ => cases h
    | bad t1 f =>
      cases h
      exact readItem_bad e

theorem noteCo_records (t : Tile) (l : List Nat) : Records t (t.noteCo l) := by
  induction l generalizing t with
  | nil => exact Records.refl _
  | cons u l ih =>
    have : t.noteCo (u :: l) = (match t.coFault u with | some (t, _) => t | none => t).noteCo l := rfl
    rw [this]
    refine Records.trans ?_ (ih _)
    split
    · exact coFault_records ‹_›
    · exact Records.refl _

theorem tileFault_self (s : State) (r : Nat) (x : FaultRec) (pc : W32) (async multi : Bool) :
    (s.setTile r (s.tile r)).tileFault r x pc async multi = s.tileFault r x pc async multi := by
  have h : (s.setTile r (s.tile r)).tile r = s.tile r := by rw [State.tile_setTile]; rfl
  unfold State.tileFault State.modTile
  rw [h, State.setTile_setTile]

/-- A fault of the core: MULTI is 0 and nothing is drawn when no stream unit's read would fault (R198). -/
theorem coreFault_eq (s : State) (r : Nat) (x : FaultRec) (pc : W32) :
    ∃ t multi, Records (s.tile r) t ∧ ((s.tile r).alone = true → multi = false)
      ∧ s.coreFault r x pc false
          = { (s.setTile r t).tileFault r x pc false multi with
              freeCtr := if (s.tile r).alone then s.freeCtr else s.freeCtr + 1 } := by
  have ha : ((List.range 4).filter (fun u => ((s.tile r).coFault u).isSome)).isEmpty = (s.tile r).alone := by
    unfold Tile.alone
    generalize List.range 4 = l
    induction l with
    | nil => rfl
    | cons u l ih =>
      rw [List.filter_cons, List.all_cons]
      cases h : (s.tile r).coFault u <;> simp [ih]
  unfold State.coreFault
  simp only [ha]
  cases h : (s.tile r).alone
  · cases hs : Config.sameCycle s.freeCtr
    · exact ⟨s.tile r, false, Records.refl _, fun _ => rfl, by rw [tileFault_self]; simp⟩
    · exact ⟨_, true, noteCo_records (s.tile r) ((List.range 4).filter (fun u => ((s.tile r).coFault u).isSome)),
        fun e => by simp at e, by simp⟩
  · exact ⟨s.tile r, false, Records.refl _, fun _ => rfl, by rw [tileFault_self]; rfl⟩

/-- A body that ends in a fault with its tile as `t`. -/
theorem faults_of {s : State} {r len : Nat} {f : Fields} {t : Tile} {x : FaultRec} (h : s.issues r f len = true)
    (hs : Calm (s.tile r) t) (n : Nat) :
    Faults s (s.finish r (s.tile r).pc n (.fault (s.setTile r t) x false)) r x.code x.detail x.info := by
  obtain ⟨-, -, -, ha⟩ := issues_cases h
  obtain ⟨c1, c2, c3, c4, c5, c6, c7, c8, c9, c10, c11, c12, c13⟩ := hs
  obtain ⟨c, w, hn, -⟩ := noteAt_eq { t with rst := s.held r } (s.tile r).pc n
  have hN : (s.setTile r t).noteFetch r (s.tile r).pc n
      = s.setTile r { t with rst := s.held r, eccCe := c, wb := w, noted := true } := by
    simp only [State.noteFetch, State.modTile, State.tile_setTile, State.setTile_setTile]
    rw [hn]
  have hT : (s.finish r (s.tile r).pc n (.fault (s.setTile r t) x false))
      = (s.setTile r { t with rst := s.held r, eccCe := c, wb := w, noted := true }).coreFault r x (s.tile r).pc false := by
    simp only [State.finish, hN, ha, Option.isSome_none, Bool.or_false]
  rw [hT]
  obtain ⟨t2, multi, hr, hm, he⟩ :=
    coreFault_eq (s.setTile r { t with rst := s.held r, eccCe := c, wb := w, noted := true }) r x (s.tile r).pc
  simp only [State.tile_setTile, State.setTile_setTile, State.setTile_freeCtr] at hr hm he
  have hal : Tile.alone { t with rst := s.held r, eccCe := c, wb := w, noted := true } = (s.tile r).alone := by
    unfold Tile.alone
    congr 1
    funext u
    have := coFault_isSome (t := s.tile r) (t' := { t with rst := s.held r, eccCe := c, wb := w, noted := true })
      ⟨c5, c10, c11, c12, c13⟩ u
    cases h1 : Tile.coFault { t with rst := s.held r, eccCe := c, wb := w, noted := true } u <;>
      cases h2 : (s.tile r).coFault u <;> simp_all
  simp only [hal] at hm he
  rw [he]
  obtain ⟨k1, k2, k3, k4, rfl⟩ := hr
  generalize hfc : (if (s.tile r).alone = true then s.freeCtr else s.freeCtr + 1) = fc
  obtain ⟨st, hE⟩ := enterFault_eq
    { t with rst := s.held r, eccCe := k1, wb := k4, noted := true, eccUe := k2, eccAddr := k3 } x (s.tile r).pc false multi
  have hv := tileFault_eq
    (s.setTile r { t with rst := s.held r, eccCe := k1, wb := k4, noted := true, eccUe := k2, eccAddr := k3 }) r x (s.tile r).pc
    false multi
  simp only [State.tile_setTile, State.held_setTile] at hv
  rw [hE] at hv
  have hw : ∀ u : State, ({ u with freeCtr := fc } : State).tile r = u.tile r := fun _ => rfl
  unfold Faults
  simp only [hw, hv]
  refine ⟨trivial, trivial, trivial, trivial, ⟨multi, hm, ?_⟩, c2, c3, c4, c5, c6, c7, ?_, ?_, ?_, ?_⟩
  · simp [b2n]
  · show (State.tileFault _ r x (s.tile r).pc false multi).fld (fieldOf r) = _
    simp only [State.tileFault, State.modFld, State.modTile, State.setTile_setTile]
    rw [State.fld_setFld]
    rfl
  · rw [hfc]; rfl
  · intro k hk
    simp only [State.tileFault, State.modFld, State.modTile, State.setFld_tiles, State.setTile_setTile]
    exact sget_sput_ne _ _ _ hk
  · intro g hg
    show (State.tileFault _ r x (s.tile r).pc false multi).fld g = _
    simp only [State.tileFault, State.modFld, State.modTile, State.setTile_setTile]
    rw [State.fld_setFld_ne _ _ hg]
    rfl

/-- A row whose body ends in a fault. -/
theorem gives_fault {s : State} {r : TileId} {len : Nat} {f : Fields} {t : Tile} {x : FaultRec}
    (h : s.issues r.val f len = true) (c : Hart → Instr) (g : LBody)
    (hc : ∀ g, exec (c g) s = .next (s.runHart g f.mn)) (ho : ∀ g, ownClock (c g) = false) (hg : tileBody f.mn = localBody g)
    (hb : g f (s.tile r.val).pc ((s.tile r.val).nextPc len) (s.tile r.val) = .fault t x)
    (hs : Calm (s.tile r.val) t) :
    Gives (named len c (.tile r)) s (fun u => Faults s u r.val x.code x.detail x.info) := by
  refine gives_named h c hc ho ?_
  rw [hg]
  simp only [localBody, hb]
  exact faults_of h hs _

/-- What a queue pop leaves of a tile. -/
theorem popN_got {t t' : Tile} {q n : Nat} {ws : List W32} (h : t.popN q n = .got t' ws) :
    ∃ qs c, t' = { t with queues := qs, eccCe := c } := by
  unfold Tile.popN at h
  simp only at h
  split at h
  · cases h
  · split at h
    · cases h
    · cases h
      exact ⟨_, _, rfl⟩

theorem srcS_got {t t' : Tile} {q : Bool} {n : Nat} {v : W32} (h : t.srcS q n = .got t' v) :
    ∃ qs c, t' = { t with queues := qs, eccCe := c } := by
  unfold Tile.srcS at h
  split at h
  · split at h <;> cases h
    exact popN_got ‹_›
  · cases h
    exact ⟨_, _, rfl⟩

theorem srcV_got {t t' : Tile} {q : Bool} {n : Nat} {v : List Nat} (h : t.srcV q n = .got t' v) :
    ∃ qs c, t' = { t with queues := qs, eccCe := c } := by
  unfold Tile.srcV at h
  split at h
  · split at h <;> cases h
    exact popN_got ‹_›
  · cases h
    exact ⟨_, _, rfl⟩

theorem setS_eq (t : Tile) (n : Nat) (v : W32) : t.setS n v = { t with sregs := (t.setS n v).sregs } := by
  unfold Tile.setS
  split <;> rfl

end Sys2Proof.Machine
end

