-- ==== Sys2Proof/WellFormed.lean ====
section
/-! DEFINITION. Well-formed commands: the operands that the spec gives a row, where their types alone do not say so. -/

namespace Sys2Proof

/-- Offsets of a tile's register windows (Table 5.10). -/
def winOff (off : Nat) : Bool :=
  decide (0x80 ≤ off ∧ off < 0x300) || decide (0x340 ≤ off ∧ off < 0x380)

/-- A port by which routers are joined (R340, R341). -/
def linkPort : RPort → Bool
  | .loc | .ctl | .gate | .bridge => false
  | _ => true

/-- The grid's edge: no router lies beyond the port (R36, R341: Hatch links join routers 16 apart). -/
def edge (l : LaneId) : Bool :=
  let y := l.r.val / 768
  let x := l.r.val % 768
  match l.port with
  | .n => y == 0
  | .s => y == 767
  | .w => x == 0
  | .e => x == 767
  | .hn => decide (y < 16)
  | .hs => decide (752 ≤ y)
  | .hw => decide (x < 16)
  | .he => decide (752 ≤ x)
  | _ => false

/-- An input lane that exists: lane B only where packets travel on Hatch and mesh links, a link port only inside the
grid. -/
def laneOk (l : LaneId) : Bool := if linkPort l.port then !edge l else !l.b

/-- A control frame of a Rim link: 16 bytes (11.3). -/
def ctlLen (b : Bytes) : Bool := b.length == 16

/-- A bus access: a size in bytes up to the Maximum Payload Size (R503), aligned to a word or to its smaller size, within `n`
bytes, with the data that a write carries. Which of them Table 12.3 and R504 serve is the machine's business. -/
def busOk (a : BusAccess) (n : Nat) : Bool :=
  (a.size == 1 || a.size == 2 || decide (a.size % 4 = 0 ∧ 0 < a.size ∧ a.size ≤ Config.pcieMaxPayload))
    && decide (a.off % (min a.size 4) = 0) && decide (a.off + a.size ≤ n)
    && a.data.length == (if a.wr then (a.size + 3) / 4 else 0)

/-- An access of Warden firmware (R509). -/
def meshOk : Option FwReq → Bool
  | none => true
  | some q => (q.size == 1 || q.size == 2 || decide (q.size % 4 = 0 ∧ 0 < q.size ∧ q.size ≤ 128))
      && q.data.length == (if q.wr then (q.size + 3) / 4 else 0)

/-- A Plate id (Table 2.5). -/
def plateOk (src : Nat) : Bool := decide (src < 1024)
/-- The Plate that a command to Krovas comes from, when it comes from one. -/
def srcOk : KSrc → Bool
  | .host => true
  | .plate src => plateOk src

/-- The operands lie in the ranges that the spec gives the row: DESIGN CHOICE (log entry 66) for what others do. -/
def Instr.wf (i : Instr) : Bool :=
  match i with
  | .add _ => true
  | .sub _ => true
  | .and _ => true
  | .or _ => true
  | .xor _ => true
  | .sll _ => true
  | .srl _ => true
  | .sra _ => true
  | .slt _ => true
  | .sltu _ => true
  | .mul _ => true
  | .mulh _ => true
  | .mulhu _ => true
  | .min _ => true
  | .max _ => true
  | .minu _ => true
  | .maxu _ => true
  | .clz _ => true
  | .popc _ => true
  | .fadd _ => true
  | .fsub _ => true
  | .fmul _ => true
  | .fmin _ => true
  | .fmax _ => true
  | .feq _ => true
  | .flt _ => true
  | .fle _ => true
  | .fcvtws _ => true
  | .fcvtsw _ => true
  | .addi _ => true
  | .andi _ => true
  | .ori _ => true
  | .xori _ => true
  | .slti _ => true
  | .sltiu _ => true
  | .lui _ => true
  | .slli _ => true
  | .srli _ => true
  | .srai _ => true
  | .limm _ => true
  | .lw _ => true
  | .lh _ => true
  | .lhu _ => true
  | .lb _ => true
  | .lbu _ => true
  | .sw _ => true
  | .sh _ => true
  | .sb _ => true
  | .ldf _ => true
  | .ste _ => true
  | .crd _ => true
  | .cwr _ => true
  | .beq _ => true
  | .bne _ => true
  | .blt _ => true
  | .bge _ => true
  | .bltu _ => true
  | .bgeu _ => true
  | .jal _ => true
  | .jalr _ => true
  | .halt _ => true
  | .brk _ => true
  | .rlw _ => true
  | .rsw _ => true
  | .rsh _ => true
  | .rsb _ => true
  | .rcopy _ => true
  | .rldf _ => true
  | .rste _ => true
  | .sendq _ => true
  | .sendq2 _ => true
  | .sendqm _ => true
  | .remfence _ => true
  | .gaxy _ => true
  | .qtry _ => true
  | .qcnt _ => true
  | .barrive _ => true
  | .barwait _ => true
  | .bartest _ => true
  | .vldb _ => true
  | .vldh _ => true
  | .vstb _ => true
  | .vsth _ => true
  | .vadd _ => true
  | .vsub _ => true
  | .vmul _ => true
  | .vmin _ => true
  | .vmax _ => true
  | .vmov _ => true
  | .vsplat _ => true
  | .vext _ => true
  | .vins _ => true
  | .vcvt _ => true
  | .scvtf _ => true
  | .scvtn _ => true
  | .lmac _ => true
  | .lmacs _ => true
  | .lzero _ => true
  | .lmov _ => true
  | .ladd _ => true
  | .lmaxa _ => true
  | .lmina _ => true
  | .lwid _ => true
  | .lcvt _ => true
  | .lcvtq _ => true
  | .lvm _ => true
  | .sdgo _ => true
  | .sdwait _ => true
  | .vpop _ => true
  | .lpush _ => true
  | .ld _ => true
  | .sd _ => true
  | .pcrr _ => true
  | .pcrw _ => true
  | .sysc _ => true
  | .tret _ => true
  | .idle _ => true
  | .pfence _ => true
  | .xlinv _ => true
  | .cinv _ => true
  | .cinvall _ => true
  | .atswp _ => true
  | .atadd _ => true
  | .eccWriteback _ => true
  | .run _ _ => true
  | .stop _ _ => true
  | .stepCmd _ _ => true
  | .clrf _ _ => true
  | .stopComplete _ => true
  | .tileCompatWrite _ _ _ => true
  | .tileOriginWrite _ _ _ => true
  | .tilePcWrite _ _ _ => true
  | .tileFeLimitWrite _ _ _ => true
  | .regWindowWrite _ _ off _ => decide (off % 4 = 0) && winOff off
  | .feWindowWrite _ _ off _ => decide (off % 4 = 0) && decide (0x20000 ≤ off ∧ off < 0x20C00)
  | .tileQpop _ _ _ => true
  | .tileQpush _ _ _ _ => true
  | .pendingEntryWrite _ _ _ _ => true
  | .tileEccStatRead _ _ => true
  | .latticeCmdStart _ => true
  | .lvmBlock _ => true
  | .streamVector _ _ => true
  | .streamCmdEnd _ _ => true
  | .burnishRead _ => true
  | .rdMem _ => true
  | .rdCtl _ => true
  | .rdFld _ => true
  | .rdPrs _ => true
  | .rdRim _ => true
  | .rdWdn _ => true
  | .feLd _ => true
  | .feSt _ => true
  | .wrMem _ => true
  | .wrCtl _ => true
  | .wrFld _ => true
  | .wrPrs _ => true
  | .wrRim _ => true
  | .wrWdn _ => true
  | .wrH _ => true
  | .wrB _ => true
  | .qmsg _ => true
  | .resp _ => true
  | .ack _ => true
  | .arrive _ => true
  | .fdone _ => true
  | .pdone _ => true
  | .prelease _ => true
  | .releaseF _ => true
  | .releaseT _ => true
  | .mgmt _ => true
  | .routerForward l _ => laneOk l
  | .hopReplay l => linkPort l.port && !edge l
  | .creditReturn l _ => laneOk l
  | .feRetry _ => true
  | .fldClkTgtWrite _ _ _ => true
  | .opChangeDone _ => true
  | .fldShCtlWrite _ _ _ => true
  | .fldShBarWrite _ _ _ => true
  | .shWindowClose _ => true
  | .fldXdropRead _ _ => true
  | .power _ _ => true
  | .govPeriod _ => true
  | .ceil _ => true
  | .wdnPwrCapWrite _ _ => true
  | .pwrAlertAssert => true
  | .wdnPwrStatWrite _ _ => true
  | .porAssert => true
  | .porRelease => true
  | .trayRstAssert _ => true
  | .trayRstRelease => true
  | .refLoss => true
  | .refRestored => true
  | .plateReset _ => true
  | .rstGo _ => true
  | .fieldReset _ _ => true
  | .fieldResetDone _ => true
  | .tileReset _ _ => true
  | .resetStageAdvance => true
  | .fieldWaveRelease => true
  | .tileSubwaveRelease _ => true
  | .fieldPllLock _ => true
  | .fieldPllTimeout _ => true
  | .domainPllTimeout _ => true
  | .regulatorTimeout _ => true
  | .stylusAckTimeout _ => true
  | .fieldInitTimeout _ => true
  | .wdnFldDeadWrite _ _ _ => true
  | .wdnFldUnavWrite _ _ _ => true
  | .wdnRstGapWrite _ _ _ => true
  | .wdnKeepWrite _ off _ => decide (off % 8 = 0) && (decide (0x400 ≤ off ∧ off < 0x480) || decide (0x200000 ≤ off ∧ off < 0x210000))
  | .wdnRstCauseWrite _ _ => true
  | .tapReset => true
  | .fldBarnodeWrite _ _ _ _ => true
  | .fldBarrootWrite _ _ _ _ _ => true
  | .barcutNode _ _ _ => true
  | .barcutRootRemove _ _ _ => true
  | .barcutRootCredit _ _ _ => true
  | .barcutSysroot _ _ _ => true
  | .dropvClear _ _ => true
  | .fldSealShWrite _ _ _ => true
  | .hdrvClear _ _ => true
  | .fldSealDropRead _ _ => true
  | .fldKeyDropRead _ _ => true
  | .fldHopCeRead _ _ => true
  | .fldHopRetryRead _ _ => true
  | .rimData _ _ b => decide (20 ≤ b.length)
  | .rimAck _ _ b => ctlLen b
  | .rimNak _ _ b => ctlLen b
  | .rimCredit _ _ b => ctlLen b
  | .creditSend _ _ => true
  | .linkId _ _ b => ctlLen b
  | .replayTimer _ _ => true
  | .retrainTimeout _ _ => true
  | .failoverReq _ _ b => ctlLen b
  | .failoverRsp _ _ b => ctlLen b
  | .failoverReqRepeat _ => true
  | .signalLoss _ _ => true
  | .signalReturn _ => true
  | .neighbourWaitTimeout _ => true
  | .rimBridgePacket _ _ _ => true
  | .rimxTopoWrite _ _ _ => true
  | .portEnable _ _ _ v => v.getLsbD 0
  | .portDisable _ _ _ v => !v.getLsbD 0
  | .kselSwitch _ _ _ _ => true
  | .rimxKeydropRead _ _ => true
  | .rimxUndelivRead _ _ => true
  | .rimxPerrRead _ _ _ => true
  | .rimxPretrRead _ _ _ => true
  | .gateInbound _ ch => ch == 0 || ch == 2
  | .gateFeRetry _ _ => true
  | .gateTagIdle _ _ => true
  | .interruptTake _ _ => true
  | .timerInterrupt _ _ => true
  | .prsClkWrite _ _ _ => true
  | .clusterClkDone _ => true
  | .coreRelease _ _ _ => true
  | .coreHold _ _ _ => true
  | .l3lockApply _ => true
  | .prsFwinWrite _ _ _ _ => true
  | .doorbell _ _ _ _ => true
  | .doorbellClear _ _ _ _ => true
  | .prsIpiWrite _ _ _ => true
  | .lockstepMismatch => true
  | .bootRomStart => true
  | .hostDoorbell _ _ => true
  | .hostDoorbellClear _ _ => true
  | .msiSend _ _ => true
  | .bar0Access a => busOk a 0x1000000
  | .hostWindowAccess _ a => busOk a 0x1000000
  | .hostWindowTimeout _ => true
  | .wdnHwinWrite _ _ _ _ => true
  | .rstF _ => true
  | .rstT _ => true
  | .colmap _ => true
  | .stylusTopo _ => true
  | .reg _ a => busOk a 0xC0000 && a.size == 4
  | .mesh _ q => meshOk q
  | .relay _ => true
  | .event _ => true
  | .answer _ => true
  | .getState => true
  | .mgmtRd => true
  | .mgmtWr b => decide (2 ≤ b.length ∧ b.length ≤ 1026)
  | .i3cTopo b => b.length == 8
  | .stageWr b => decide (8 ≤ b.length ∧ b.length ≤ 264)
  | .stageChk b => b.length == 1
  | .telemRd => true
  | .setBootsel b => b.length == 1
  | .bootselTimeout => true
  | .islandStart _ => true
  | .periodicSelftest _ => true
  | .healthTestFail => true
  | .tempExcursion => true
  | .selftest _ _ => true
  | .getid _ => true
  | .verify _ => true
  | .islandExtend _ => true
  | .quote _ => true
  | .islandImport _ => true
  | .forget _ => true
  | .loadkey _ => true
  | .random _ => true
  | .challenge _ => true
  | .setOwner _ => true
  | .zeroize _ => true
  | .unlock _ => true
  | .revoke _ => true
  | .svnraise _ => true
  | .lidTrip => true
  | .tapUnlock c => c.ir != .unlock || c.data.length == 193
  | .epochBegin => true
  | .epochCommit _ => true
  | .colmapCommit _ => true
  | .epochComplete => true
  | .fldColmapShWrite _ _ _ _ => true
  | .fldTfltRead _ _ => true
  | .fldEvtClear _ _ _ => true
  | .fldBurnCtlWrite _ _ _ => true
  | .fldBurnCeRead _ _ => true
  | .fldBurnUecRead _ _ => true
  | .redfishOn _ => true
  | .forceOff _ => true
  | .powerCycle _ => true
  | .forceRestart _ => true
  | .redfishRead _ _ => true
  | .settingsWrite _ _ _ => true
  | .firmwarePush _ _ => true
  | .hello src _ => plateOk src
  | .bypassIn src _ _ => srcOk src
  | .bypassOut src _ _ => srcOk src
  | .setTopo src _ _ _ => srcOk src
  | .powerOff src _ => plateOk src
  | .telemSub src _ _ => plateOk src
  | .telemetryFrame => true
  | .krovasIbi => true
  | .coolantOvertemp _ => true
  | .packageOvertemp _ => true
  | .leakOrSupplyFault _ => true
  | .trayOverpower _ => true
  | .trayPowerNormal _ => true
  | .sisErrNChange => true
  | .heartbeatStall => true
  | .orphanTimeout => true
  | .trialTimeout => true
  | .bypassMismatch _ => true
  | .plateRstOutAssert => true
  | .standbyRestore => true
  | .prfCommitGo _ => true
  | .latchPoint _ _ => true
  | .prfMapFlipWrite _ _ => true
  | .prfFenceSigWrite _ _ => true
  | .prfShadowWrite _ off _ => decide (off % 4 = 0) && decide (off < 0x100)
  | .prfPalWrite _ _ _ _ => true
  | .proofEnable _ v => v.getLsbD 0
  | .proofDisable _ v => !v.getLsbD 0
  | .prfPclkWrite _ _ => true
  | .pixelPllLock => true
  | .hpdChange _ => true
  | .auxRequest _ v => v.getLsbD 31
  | .auxDone _ _ b => decide (b.length ≤ 16)
  | .composeLine y => decide (y < 1200)
  | .registerWrite _ ga _ wide => decide (ga.toNat % (if wide then 8 else 4) = 0)
  | .domainPllLock _ => true
  | .standbyLoss => true
  | .bypPosChange _ _ => true

/-- The commands that the machine is asked to take. -/
abbrev WellFormed (i : Instr) : Prop := i.wf = true

end Sys2Proof
end

