-- ==== Sys2Proof/Tests/Slice0.lean ====
section
/-! SUPPORT. Tests: ill-formed commands that WellFormed refuses, words of the spec's worked examples, and witnesses that the
hypotheses of each clause of the statements can be met together. -/

namespace Sys2Proof.Tests
open Sys2Proof Sys2Proof.Machine

/- Each theorem below is evaluated by the kernel, one after another. -/
set_option Elab.async false
set_option linter.unusedVariables false

/-! ### Ill-formed commands -/

theorem test_wf_window : WellFormed (.regWindowWrite .pressM 0 0x80 0#32) ∧ ¬ WellFormed (.regWindowWrite .pressM 0 0x82 0#32)
    ∧ ¬ WellFormed (.regWindowWrite .pressM 0 0x300 0#32) := by decide
theorem test_wf_feWindow : WellFormed (.feWindowWrite .pressM 0 0x20BFC 0#32) ∧ ¬ WellFormed (.feWindowWrite .pressM 0 0x20C00 0#32)
    ∧ ¬ WellFormed (.feWindowWrite .pressM 0 0x20001 0#32) := by decide
theorem test_wf_lane : WellFormed (.routerForward { r := 0, port := .s, b := true, ch := 0 } .ok)
    ∧ ¬ WellFormed (.routerForward { r := 0, port := .n, b := false, ch := 0 } .ok)
    ∧ ¬ WellFormed (.routerForward { r := 0, port := .loc, b := true, ch := 0 } .ok)
    ∧ ¬ WellFormed (.hopReplay { r := 0, port := .loc, b := false, ch := 0 })
    ∧ ¬ WellFormed (.creditReturn { r := 767, port := .e, b := false, ch := 0 } false) := by decide
theorem test_wf_keep : WellFormed (.wdnKeepWrite .wardenFw 0x478 0#64) ∧ ¬ WellFormed (.wdnKeepWrite .wardenFw 0x480 0#64)
    ∧ ¬ WellFormed (.wdnKeepWrite .wardenFw 0x404 0#64) := by decide
theorem test_wf_rim : ¬ WellFormed (.rimData 0 0 []) ∧ ¬ WellFormed (.rimAck 0 0 []) ∧ ¬ WellFormed (.rimNak 0 0 [])
    ∧ ¬ WellFormed (.rimCredit 0 0 []) ∧ ¬ WellFormed (.linkId 0 0 []) ∧ ¬ WellFormed (.failoverReq 0 0 [])
    ∧ ¬ WellFormed (.failoverRsp 0 0 []) ∧ WellFormed (.rimAck 0 0 (List.replicate 16 0#8)) := by decide
theorem test_wf_enables : ¬ WellFormed (.portEnable .wardenFw 0 0 0#32) ∧ ¬ WellFormed (.portDisable .wardenFw 0 0 1#32)
    ∧ ¬ WellFormed (.proofEnable .wardenFw 0#32) ∧ ¬ WellFormed (.proofDisable .wardenFw 1#32)
    ∧ ¬ WellFormed (.auxRequest .wardenFw 1#32) ∧ WellFormed (.auxRequest .wardenFw 0x80000000#32) := by decide
theorem test_wf_gate : WellFormed (.gateInbound 0 2) ∧ ¬ WellFormed (.gateInbound 0 1) := by decide
theorem test_wf_bus : WellFormed (.bar0Access { off := 0xFFFFFC, size := 4, wr := false, data := [] })
    ∧ ¬ WellFormed (.bar0Access { off := 0xFFFFFC, size := 8, wr := false, data := [] })
    ∧ ¬ WellFormed (.hostWindowAccess 0 { off := 2, size := 4, wr := false, data := [] })
    ∧ ¬ WellFormed (.reg 0 { off := 0, size := 8, wr := false, data := [] })
    ∧ ¬ WellFormed (.bar0Access { off := 0, size := 4, wr := true, data := [] }) := by decide
theorem test_wf_bytes : ¬ WellFormed (.mgmtWr [0#8]) ∧ ¬ WellFormed (.i3cTopo []) ∧ ¬ WellFormed (.stageWr []) ∧ ¬ WellFormed (.stageChk [])
    ∧ ¬ WellFormed (.setBootsel []) ∧ ¬ WellFormed (.tapUnlock ⟨.unlock, []⟩) := by decide
theorem test_wf_plate : WellFormed (.hello 1023 0) ∧ ¬ WellFormed (.hello 1024 0) ∧ ¬ WellFormed (.bypassIn (.plate 1024) 0 0)
    ∧ ¬ WellFormed (.bypassOut (.plate 1024) 0 0) ∧ ¬ WellFormed (.powerOff 1024 0) ∧ ¬ WellFormed (.telemSub 1024 0 0)
    ∧ ¬ WellFormed (.setTopo (.plate 1024) 0 0#32 0) := by decide
theorem test_wf_proof : ¬ WellFormed (.prfShadowWrite .wardenFw 0x100 0#32) ∧ ¬ WellFormed (.prfShadowWrite .wardenFw 2 0#32)
    ∧ ¬ WellFormed (.composeLine 1200) ∧ ¬ WellFormed (.auxDone false 0 (List.replicate 17 0#8)) := by decide
theorem test_wf_register : WellFormed (.registerWrite .wardenFw 4#64 0#64 false) ∧ ¬ WellFormed (.registerWrite .wardenFw 4#64 0#64 true) := by
  decide

/-! ### Instruction words of the worked examples (6.1, 6.2, 6.8, 6.10, 6.11, 7.4, Table 12.4) -/

theorem test_decode_add : decodeTile 0x00A13C01#32 none = some { mn := .add, d := 5, a := 1, b := 7, qa := true, imm := 0#32 }
    ∧ decodeTile 0x00A53C01#32 none = none := by decide
theorem test_decode_addi : decodeTile 0x04602A10#32 none = some { mn := .addi, d := 3, a := 0, b := 0, imm := 0x2A10#32 }
    ∧ decodeTile 0x04602A10#32 (some 4#16) = some { mn := .addi, d := 3, a := 0, b := 0, imm := 0x00042A10#32 }
    ∧ isLimm 0xF8000004#32 = true := by decide
theorem test_decode_lw : decodeTile 0x3082FFC0#32 none = some { mn := .lw, d := 4, a := 2, b := 0, imm := 0xFFFFFFC0#32 } := by decide
theorem test_decode_sendq2 : (decodeTile 0x9914A902#32 none).map (fun f => (f.mn, f.d, f.a, f.b, f.o)) = some (.sendq2, 8, 20, 21, true) := by
  decide
theorem test_decode_barrier : (decodeTile 0xA0000100#32 none).map (fun f => (f.mn, f.a, f.imm)) = some (.barrive, 0, 0x100#32)
    ∧ (decodeTile 0xA4000100#32 none).map (fun f => (f.mn, f.a, f.imm)) = some (.barwait, 0, 0x100#32) := by decide
theorem test_decode_lvm : (decodeTile 0xD8461000#32 none).map (fun f => (f.mn, f.d, f.a, f.b, f.fmt)) = some (.lvm, 2, 6, 0, 1) := by decide
theorem test_decode_press : (decodePress 0x2C650010#32 none).map (fun f => (f.mn, f.d, f.a, f.imm)) = some (.ld, 3, 5, 0x10#32)
    ∧ (decodePress 0xE0000002#32 none).map (·.mn) = some .tret := by decide

theorem wit_Governor : State.reset.wdn.alert = false ∧ 10 * State.reset.wdn.pwrCap < 20000
    ∧ 0 * 256 < 10 * State.reset.wdn.pwrCap * (256 - State.reset.wdn.headroom) := by decide

theorem wit_PowerCapAlways : PowerCapLegal State.reset
    ∧ ∃ u, step { State.reset with pending := [.wdnPwrCapWrite .wardenFw 0x7D0#32] } = .next u :=
  ⟨⟨by decide, by decide⟩, _, rfl⟩

theorem wit_FusesOnlyBurn : ∃ u, step { State.reset with pending := [.porRelease] } = .next u := ⟨_, rfl⟩

/-! ### Worked examples of the spec, one step each -/

/-- Tile (0, 1) of a released field, with words of code from address 0. -/
def small (code : List W32) (t : Tile) : State :=
  { tiles := [(1, { t with state := .running, mem := code.zipIdx.foldl (fun m e => mwrite32 m (4 * e.2) e.1) [] })],
    fields := [(0, { rst := false, seqDone := true, subwave := 4 })] }

/-- What is true of the tile after a command. -/
def after (o : Host.Outcome State Fault Refusal) (p : Tile → Bool) : Bool :=
  match o with
  | .next u => p (u.tile 1)
  | _ => false

/-- 6.1: ADD s5, q1, s7. -/
theorem test_add_queue : after (exec (.add (.tile 1)) (small [0x00A13C01#32] { sregs := [(7, 0x12#32)], queues := [(1, [{ v := 0x30#32 }])] }))
    (fun t => t.sreg 5 == 0x42#32 && t.queue 1 == [] && t.pc == 4#32) = true := by decide +kernel
/-- 6.2: LIMM 0x0004 before ADDI s3, s0, 0x2A10. -/
theorem test_limm_addi : after (exec (.limm (.tile 1)) (small [0xF8000004#32, 0x04602A10#32] {}))
    (fun t => t.sreg 3 == 0x00042A10#32 && t.pc == 8#32) = true := by decide +kernel
/-- 6.8: GAXY s8, s10, s11. -/
theorem test_gaxy : after (exec (.gaxy (.tile 1)) (small [0x990A5806#32]
      { sregs := [(8, 0x4000#32), (9, 0x0FFE0000#32), (10, 302#32), (11, 455#32)] }))
    (fun t => t.sreg 9 == 0x0FFE9738#32 && t.sreg 8 == 0xE0004000#32) = true := by decide +kernel
/-- 7.3: lanes converted by LCVT and LCVTQ. -/
theorem test_convert : [0x3F800000, 0x43960000, 0xBC000000, 0x43FA0000, 0x3727C5AC].map (fun x =>
      [narrowLane 1 false false 0 x, narrowLane 2 false false 0 x, narrowLane 3 false false 0 x, narrowLane 4 false false 0 x,
       narrowLane 0 false false 0 x])
    = [[0x38, 0x3C, 0x3C00, 0x3F80, 0x01], [0x79, 0x5D, 0x5CB0, 0x4396, 0x7F], [0x84, 0xA0, 0xA000, 0xBC00, 0x00],
       [0x7F, 0x60, 0x5FD0, 0x43FA, 0x7F], [0x00, 0x01, 0x00A8, 0x3728, 0x00]] := by decide +kernel
/-- 7.7: INT8 products and their conversion by 2^-6. -/
theorem test_requantise : [macLane 0 (macLane 0 0 0x64 0x64) 0x64 0x64, macLane 0 0 0xDB 0x05, macLane 0 0 0x03 0x0B, macLane 0 0 0xE0 0x01]
      = [0x4E20, 0xFFFFFF47, 0x21, 0xFFFFFFE0]
    ∧ [0x4E20, 0xFFFFFF47, 0x21, 0xFFFFFFE0].map (narrowLane 0 false true (-6)) = [0x7F, 0xFD, 0x01, 0x00] := by decide +kernel
/-- 8.2: a stipple-out slot in FP16. -/
theorem test_stipple_out : resWords [(0, 0x36#32), (4, 1#32)] [0, 0x3C00, 0, 0, 0xC000, 0, 0, 0, 0, 0x8000, 0, 0, 0, 0, 0, 0x3800]
    = [0x00038012#32, 0xC0003C00#32, 0x00003800#32] := by decide +kernel
/-- 9.3: the head flit of the RSTE of 6.8. -/
theorem test_header : ({ dx := 455, dy := 302, dplate := 0x7FF, long := true, sx := 410, sy := 300, splate := 0x7FF, pkey := 1, op := 0x10, route := 1, off := 0x4040 } : Hdr).word = 0x00008080000900017FF4B19AFFF4B9C7#128 := by decide
/-- 11.6: an RSW and its acknowledgement take the same bucket. -/
theorem test_bucket : bucketOf { dx := 101, dy := 40, dplate := 254, sx := 530, sy := 200, splate := 163 } = 1
    ∧ bucketOf { dx := 530, dy := 200, dplate := 163, sx := 101, sy := 40, splate := 254 } = 1 := by decide

/-! ### Witnesses: machines and helpers -/

/-- Both sources read, as `SrcAB` says. -/
def srcABb (t0 : Tile) (f : Fields) (t : Tile) (a b : W32) : Bool :=
  match t0.srcS f.qa f.a with
  | .got t1 x => decide (x = a ∧ t1.srcS f.qb f.b = .got t b)
  | _ => false
/-- The vector sources read, as `VecAB` says. -/
def vecABb (t0 : Tile) (f : Fields) (t : Tile) (a b : List Nat) : Bool :=
  match t0.srcV f.qa f.a with
  | .got t1 x => decide (x = a ∧ t1.srcV f.qb f.b = .got t b)
  | _ => false
def isOk {ε α : Type} [DecidableEq α] (x : Except ε α) (a : α) : Bool :=
  match x with
  | .ok y => decide (y = a)
  | _ => false
def isErr {ε α : Type} [DecidableEq ε] (x : Except ε α) (a : ε) : Bool :=
  match x with
  | .error y => decide (y = a)
  | _ => false
/-- A Veluc-H core issues, as `PIssues` says. -/
def pIssuesb (s : State) (h : Hart) (c k : Nat) (s' : State) (f : Fields) (len : Nat) : Bool :=
  decide (s.coreOf h = some (c, k)) && (s.prs c).runs k && decide ((s.core c k).blk = none)
    && decide (s.pressFetch c k = .instr s' f (len == 8) len)

theorem srcABb_sound {t0 t : Tile} {f : Fields} {a b : W32} (h : srcABb t0 f t a b = true) : SrcAB t0 f t a b := by
  unfold srcABb at h
  split at h
  · rename_i t1 x hx; obtain ⟨rfl, h2⟩ := of_decide_eq_true h; exact ⟨t1, hx, h2⟩
  · cases h

theorem vecABb_sound {t0 t : Tile} {f : Fields} {a b : List Nat} (h : vecABb t0 f t a b = true) : VecAB t0 f t a b := by
  unfold vecABb at h
  split at h
  · rename_i t1 x hx; obtain ⟨rfl, h2⟩ := of_decide_eq_true h; exact ⟨t1, hx, h2⟩
  · cases h

theorem pIssuesb_sound {s s' : State} {h : Hart} {c k len : Nat} {f : Fields} (hp : pIssuesb s h c k s' f len = true) :
    PIssues s h c k s' f len := by
  unfold pIssuesb at hp
  simp only [Bool.and_eq_true, decide_eq_true_eq] at hp
  exact ⟨hp.1.1.1, hp.1.1.2, hp.1.2, hp.2⟩

def fup : Field := { rst := false, seqDone := true, subwave := 4, lock := true, tracking := true }
def st1 (f : Field) : State := { fields := [(0, f)] }
def inb (s : State) (r : Nat) (p : RPort) (ch : Nat) (q : Packet) : State :=
  { s with mesh := { s.mesh with inbox := sput s.mesh.inbox (portKey r p ch) [q] } }
def barQ (kind id : Nat) (x y : Nat := 0) (cut : Nat := 0) : Packet :=
  { h := { op := 0x1C, ch := 3, sx := x, sy := y, payload := BitVec.ofNat 32 (cut * 2 ^ 23 + kind * 2 ^ 14 + id) } }
def nd (e : BarNode) (i : Nat) (x : Field := fup) : State := st1 { x with barNode := [(i, e)] }
def rt (e : BarRoot) (i : Nat) (x : Field := fup) : State := st1 { x with barRoot := [(i, e)] }
def cs (lv i : Nat) (g : Nat := 0) : Field := { fup with barcutSel := BitVec.ofNat 32 (g * 65536 + lv * 16384 + i) }
def lan (s : State) (l : LaneId) (fs : List Flit) : State := { s with mesh := { s.mesh with lanes := [(laneKey l.r.val l.port l.ch.val l.b, fs)] } }
def fl1 (h : Hdr) : Flit := { kind := .single, h := h }
def s01 (a b : Field := fup) : State := { fields := [(0, a), (1, b)] }
def til : Tile :=   { state := .running, pc := 8#32, sregs := [(1, 5#32), (2, 7#32)], vregs := [(1, 9#256)], mem := [(0, 1#8), (5, 7#8)], full := [(3, true)], upset := [(7, .ce)],   queues := [(0, [{ v := 3#32 }])], waiters := [.core true 3 0#32 1 4#32], pend := [(2, { valid := true, sent := true, id := 7 })], cyc := 3#64 }
def busy : State := { pending := [.stopComplete 0], freeCtr := 4, rdata := 9#64, tiles := [(0, til), (1, til), (9600, til), (9601, til)], fields := (List.range 64).map (fun i => (i, { fup with eff := i % 17, clkTgt := 16, burnCe := 3, barNode := [(3, { scope := 1, expect := 2, remain := 2 })], fltLog := [5#32], sealAct := 0x00002FC0#32, barRoot := [(4, { armed := true, fmask := 3, remainf := 2 })], clkCeil := 9 })), mesh := { lanes := [(4, [fl1 {}])], used := [(4, 1)], inbox := [(9, [{ h := {} }])] }, rims := (List.range 4).map (fun d => (d, { rst := false, pll := true, topo := 0x80000005#32, keymap := [(0, 1#32)] })), press := (List.range 16).map (fun c => (c, { rst := false, pll := true, hold := 0#32, scratch := [(0, 5#8)] })), wdn := { asserted := false, cls := .plate, stage := 0, clkOn := true, go := true, wave := 8, cause := 0x1F#32, keep := [(0, 5#64), (15, 7#64)], ground := [(0, 1#8), (65535, 4#8)], supply := true, rstOut := false, coresUp := true, periphUp := true, booted := true, styUp := ~~~0#64, sram := [(0x400000, 5#8)], pwrCap := 300, gap := [(2, 77)], ready := true, hb := 4 }, island := { st := .operational, slots := [(0, { key := [1#8], k := 0 })], mreg := [(1, [1#8])], owner := none, tamper := 3, dikGen := 1 }, proof := { ctl := 1#32, pal := [(0, 5#32)] }, krovas := { ready := true, now := 77, telPeriod := 1 }, epochQ := [{ f := 1, id := 2, cut := false, lastf := 1 }], time := 1234#64, serial := 99#64, etch := [(1, [1#32])] }

def cod (l : List (Nat × W32)) (m : Mem) : Mem := l.foldl (fun m e => mwrite32 m e.1 e.2) m
def tb : Tile := { state := .running, pc := 0x100#32, sregs := [(1, 5#32), (2, 0xFFFFFFFD#32), (3, 7#32), (4,0x17FFC#32),(5,0x80000000#32),(6,0x3F800000#32),(7,0x7FC00000#32)], vregs := [(1, BitVec.ofNat 256 (0x0102030405060708090A0B0C0D0E0F*2^128+0xFFFEFDFC80817F7E)),(2,9#256)], mem := mwrite32 (mwrite32 [] 0 0x81828384#32) 0x17FFC 0xFFFF8001#32, full := [(3, true)], queues := [(0, [{ v := 3#32 },{v:=0x80000001#32}]),(1,(List.range 16).map (fun i => {v:=BitVec.ofNat 32 (0x01010101*i)}))], cyc := 3#64 }
def ts (l : List (Nat × W32)) (g : Tile → Tile) (r : Nat := 1) : State := { busy with tiles := [(0, til), (busy.phys r, g { tb with mem := cod l tb.mem })] ++ (if r < 9600 then [(9600, til)] else []) }
def fe (s : State) (r : Nat) : Fields := match (s.tile r).fetch (s.tile r).pc with | .instr f _ _ => f | _ => {mn := .limm}
def le (s : State) (r : Nat) : Nat := match (s.tile r).fetch (s.tile r).pc with | .instr _ _ n => n | _ => 0
def sab (s : State) (r : Nat) : Tile × W32 × W32 := match (s.tile r).srcS (fe s r).qa (fe s r).a with | .got t a => (match t.srcS (fe s r).qb (fe s r).b with | .got t b => (t,a,b) | _ => ({},0,0)) | _ => ({},0,0)
def hh (c k : Nat) : Hart := if h : c < 16 ∧ k < 4 then .press ⟨c, h.1⟩ ⟨k, h.2⟩ else .mgmt

/-! ### Witnesses: one theorem for the clauses of a statement's part. A clause that needs a key pair of the part, or an
image signed under its fused key, has none: neither has a value here. -/

namespace W01

theorem wit_TileTwoSource :
  ((Sys2Proof.Tables.alu2).any (fun o =>
    let r : TileId := 1;
    let s : State := (ts [(0x100,0x1011001#32)] (fun t => t) 1);
    let f : Fields := fe s r.val;
    let len : Nat := le s r.val;
    let t : Tile := (sab s r.val).1;
    let a : W32 := (sab s r.val).2.1;
    let b : W32 := (sab s r.val).2.2;
    decide (s.issues r.val f len = true) && decide (f.mn = o.2.1) && srcABb (s.tile r.val) f t a b)) = true := by
  decide +kernel

theorem wit_TileOneSource :
  ((Sys2Proof.Tables.alu1).any (fun o =>
    let r : TileId := 1;
    let s : State := (ts [(0x100,0x1010012#32)] (fun t => t) 1);
    let f : Fields := fe s r.val;
    let len : Nat := le s r.val;
    let t : Tile := (match (s.tile r.val).srcS f.qa f.a with | .got t _ => t | _ => {});
    let a : W32 := (match (s.tile r.val).srcS f.qa f.a with | .got _ a => a | _ => 0);
    decide (s.issues r.val f len = true) && decide (f.mn = o.2.1) && decide ((s.tile r.val).srcS f.qa f.a = .got t a))) = true := by
  decide +kernel

theorem wit_TileImmediate :
  ((Sys2Proof.Tables.aluImm).any (fun o =>
    let s : State := (ts [(0x100,0x502FFFF#32)] (fun t => t) 1);
    let r : TileId := 1;
    let f : Fields := fe s r.val;
    let len : Nat := le s r.val;
    decide (s.issues r.val f len = true) && decide (f.mn = o.2.1))) = true := by
  decide +kernel

theorem wit_ScalarRegisters :
  (let n : Nat := 3;
    decide (n ≠ 0)) = true ∧
  (let n : Nat := 0;
    let m : Nat := 4;
    decide (m ≠ n)) = true := by
  decide +kernel

theorem wit_QueueOperands :
  ((Sys2Proof.Tables.alu2).any (fun o =>
    let s : State := (ts [(0x100,0x1000C01#32)] (fun t => t) 1);
    let r : TileId := 1;
    let f : Fields := fe s r.val;
    let len : Nat := le s r.val;
    decide (s.issues r.val f len = true) && decide (f.mn = o.2.1) && decide (f.qa = true) && (let w := {v:=3#32};
    let ws := [{v:=0x80000001#32}];
    decide ((s.tile r.val).queue f.a = w :: ws) && decide (w.e = .good)))) = true ∧
  ((Sys2Proof.Tables.alu2).any (fun o =>
    let s : State := (ts [(0x100,0x1020C01#32)] (fun t => t) 1);
    let r : TileId := 1;
    let f : Fields := fe s r.val;
    let len : Nat := le s r.val;
    decide (s.issues r.val f len = true) && decide (f.mn = o.2.1) && decide (f.qa = true) && decide ((s.tile r.val).queue f.a = []))) = true ∧
  ((Sys2Proof.Tables.alu2).any (fun o =>
    let s : State := (ts [(0x100,0x1000C01#32)] (fun t => { t with pc:=256#32,queues:=[(0,[{v:=3#32,e:=.ue},{v:=4#32}])] }) 1);
    let r : TileId := 1;
    let f : Fields := fe s r.val;
    let len : Nat := le s r.val;
    decide (s.issues r.val f len = true) && decide (f.mn = o.2.1) && decide (f.qa = true) && (let w := {v:=3#32,e:=.ue};
    let ws := [{v:=4#32}];
    decide ((s.tile r.val).queue f.a = w :: ws) && decide (w.e = .ue)))) = true := by
  decide +kernel

theorem wit_TileLoads :
  ((Sys2Proof.Tables.loads).any (fun o =>
    let s : State := (ts [(0x100,0x31210000#32)] (fun t => { t with pc:=256#32,sregs:=[(1,0#32),(8,0x89ABCDEF#32)] }) 1);
    let r : TileId := 1;
    let f : Fields := fe s r.val;
    let len : Nat := le s r.val;
    let t := s.tile r.val;
    let e := (t.sreg f.a + f.imm).toNat;
    decide (s.issues r.val f len = true) && decide (f.mn = o.2.1) && decide (e % o.2.2.1 = 0) && decide (e + o.2.2.1 ≤ 0x18000) && decide (sget .good t.upset (e / 4) ≠ .ue))) = true := by
  decide +kernel

theorem wit_TileStores :
  ((Sys2Proof.Tables.stores).any (fun o =>
    let s : State := (ts [(0x100,0x45010000#32)] (fun t => { t with pc:=256#32,sregs:=[(1,0#32),(8,0x89ABCDEF#32)] }) 1);
    let r : TileId := 1;
    let f : Fields := fe s r.val;
    let len : Nat := le s r.val;
    let t := s.tile r.val;
    let e := (t.sreg f.a + f.imm).toNat;
    decide (s.issues r.val f len = true) && decide (f.mn = o.2.1) && decide (e % o.2.2 = 0) && decide (e + o.2.2 ≤ 0x18000) && decide (o.2.2 = 4 ∨ sget .good t.upset (e / 4) ≠ .ue))) = true ∧
  ((Sys2Proof.Tables.stores).any (fun o =>
    let s : State := (ts [(0x100,0x49010000#32)] (fun t => { t with pc:=256#32,sregs:=[(1,0#32),(8,0x89ABCDEF#32)],upset:=[(0,.ue)] }) 1);
    let r : TileId := 1;
    let f : Fields := fe s r.val;
    let len : Nat := le s r.val;
    let t := s.tile r.val;
    let e := (t.sreg f.a + f.imm).toNat;
    decide (s.issues r.val f len = true) && decide (f.mn = o.2.1) && decide (e % o.2.2 = 0) && decide (e + o.2.2 ≤ 0x18000) && decide (o.2.2 < 4 ∧ sget .good t.upset (e / 4) = .ue))) = true := by
  decide +kernel

theorem wit_TileAccessFaults :
  (([((.lw : Hart → Instr), Mn.lw, 4), (.lh, .lh, 2), (.lhu, .lhu, 2), (.lb, .lb, 1), (.lbu, .lbu, 1), (.sw, .sw, 4), (.sh, .sh, 2), (.sb, .sb, 1), (.ldf, .ldf, 4), (.ste, .ste, 4)]).any (fun o =>
    let s : State := (ts [(0x100,0x31010000#32)] (fun t => { t with pc:=256#32,sregs:=[(1,1#32),(8,0x89ABCDEF#32)] }) 1);
    let r : TileId := 1;
    let f : Fields := fe s r.val;
    let len : Nat := le s r.val;
    let t := s.tile r.val;
    let e := t.sreg f.a + f.imm;
    decide (s.issues r.val f len = true) && decide (f.mn = o.2.1) && decide (e.toNat % o.2.2 ≠ 0))) = true ∧
  (([((.lw : Hart → Instr), Mn.lw, 4), (.lh, .lh, 2), (.lhu, .lhu, 2), (.lb, .lb, 1), (.lbu, .lbu, 1), (.sw, .sw, 4), (.sh, .sh, 2), (.sb, .sb, 1), (.ldf, .ldf, 4), (.ste, .ste, 4)]).any (fun o =>
    let s : State := (ts [(0x100,0x31010000#32)] (fun t => { t with pc:=256#32,sregs:=[(1,98304#32),(8,0x89ABCDEF#32)] }) 1);
    let r : TileId := 1;
    let f : Fields := fe s r.val;
    let len : Nat := le s r.val;
    let t := s.tile r.val;
    let e := t.sreg f.a + f.imm;
    decide (s.issues r.val f len = true) && decide (f.mn = o.2.1) && decide (e.toNat % o.2.2 = 0) && decide (0x18000 < e.toNat + o.2.2))) = true := by
  decide +kernel

theorem wit_TileFullEmpty :
  (let s : State := (ts [(0x100,0x51210000#32)] (fun t => { t with pc:=256#32,sregs:=[(1,12#32),(8,0x89ABCDEF#32)] }) 1);
    let r : TileId := 1;
    let f : Fields := fe s r.val;
    let len : Nat := le s r.val;
    let t := s.tile r.val;
    let e := (t.sreg f.a + f.imm).toNat;
    decide (s.issues r.val f len = true) && decide (e % 4 = 0) && decide (e + 4 ≤ 0x18000) && decide (sget .good t.upset (e / 4) ≠ .ue) && decide (t.waiters = []) && decide (f.mn = .ldf) && decide (sget false t.full (e / 4) = true)) = true ∧
  (let s : State := (ts [(0x100,0x51210000#32)] (fun t => { t with pc:=256#32,sregs:=[(1,0#32),(8,0x89ABCDEF#32)] }) 1);
    let r : TileId := 1;
    let f : Fields := fe s r.val;
    let len : Nat := le s r.val;
    let t := s.tile r.val;
    let e := (t.sreg f.a + f.imm).toNat;
    decide (s.issues r.val f len = true) && decide (e % 4 = 0) && decide (e + 4 ≤ 0x18000) && decide (sget .good t.upset (e / 4) ≠ .ue) && decide (t.waiters = []) && decide (f.mn = .ldf) && decide (sget false t.full (e / 4) = false)) = true ∧
  (let s : State := (ts [(0x100,0x55010000#32)] (fun t => { t with pc:=256#32,sregs:=[(1,0#32),(8,0x89ABCDEF#32)] }) 1);
    let r : TileId := 1;
    let f : Fields := fe s r.val;
    let len : Nat := le s r.val;
    let t := s.tile r.val;
    let e := (t.sreg f.a + f.imm).toNat;
    decide (s.issues r.val f len = true) && decide (e % 4 = 0) && decide (e + 4 ≤ 0x18000) && decide (sget .good t.upset (e / 4) ≠ .ue) && decide (t.waiters = []) && decide (f.mn = .ste) && decide (sget false t.full (e / 4) = false)) = true ∧
  (let s : State := (ts [(0x100,0x55010000#32)] (fun t => { t with pc:=256#32,sregs:=[(1,12#32),(8,0x89ABCDEF#32)] }) 1);
    let r : TileId := 1;
    let f : Fields := fe s r.val;
    let len : Nat := le s r.val;
    let t := s.tile r.val;
    let e := (t.sreg f.a + f.imm).toNat;
    decide (s.issues r.val f len = true) && decide (e % 4 = 0) && decide (e + 4 ≤ 0x18000) && decide (sget .good t.upset (e / 4) ≠ .ue) && decide (t.waiters = []) && decide (f.mn = .ste) && decide (sget false t.full (e / 4) = true)) = true := by
  decide +kernel

theorem wit_TileControlAccess :
  (let s : State := (ts [(0x100,0x59210000#32)] (fun t => { t with pc:=256#32,sregs:=[(1,0#32),(8,0x89ABCDEF#32)] }) 1);
    let r : TileId := 1;
    let f : Fields := fe s r.val;
    let len : Nat := le s r.val;
    let t := s.tile r.val;
    let e := t.sreg f.a + f.imm;
    decide (s.issues r.val f len = true) && decide (e.toNat % 4 = 0) && decide (f.mn = .crd) && decide (ctlRange e.toNat 4 = true)) = true ∧
  (let s : State := (ts [(0x100,0x5D010000#32)] (fun t => { t with pc:=256#32,sregs:=[(1,0#32),(8,0x89ABCDEF#32)] }) 1);
    let r : TileId := 1;
    let f : Fields := fe s r.val;
    let len : Nat := le s r.val;
    let t := s.tile r.val;
    let e := t.sreg f.a + f.imm;
    decide (s.issues r.val f len = true) && decide (e.toNat % 4 = 0) && decide (f.mn = .cwr) && decide (ctlRange e.toNat 4 = true)) = true ∧
  (let s : State := (ts [(0x100,0x59010000#32)] (fun t => { t with pc:=256#32,sregs:=[(1,1280#32),(8,0x89ABCDEF#32)] }) 1);
    let r : TileId := 1;
    let f : Fields := fe s r.val;
    let len : Nat := le s r.val;
    let t := s.tile r.val;
    let e := t.sreg f.a + f.imm;
    decide (s.issues r.val f len = true) && decide (e.toNat % 4 = 0) && decide (ctlRange e.toNat 4 = false) && ([((.crd : Hart → Instr), Mn.crd), (.cwr, .cwr)]).any (fun o =>
    decide (f.mn = o.2))) = true := by
  decide +kernel

theorem wit_TileBranches :
  ((Sys2Proof.Tables.branches).any (fun o =>
    let s : State := (ts [(0x100,0x60220004#32)] (fun t => t) 1);
    let r : TileId := 1;
    let f : Fields := fe s r.val;
    let len : Nat := le s r.val;
    let t := s.tile r.val;
    decide (s.issues r.val f len = true) && decide (f.mn = o.2.1) && decide (o.2.2 (t.sreg f.d) (t.sreg f.a) = false))) = true ∧
  ((Sys2Proof.Tables.branches).any (fun o =>
    let s : State := (ts [(0x100,0x60210004#32)] (fun t => t) 1);
    let r : TileId := 1;
    let f : Fields := fe s r.val;
    let len : Nat := le s r.val;
    let t := s.tile r.val;
    let tgt := t.pc + f.imm * 4#32;
    decide (s.issues r.val f len = true) && decide (f.mn = o.2.1) && decide (o.2.2 (t.sreg f.d) (t.sreg f.a) = true) && decide (tgt.toNat < 0x18000))) = true ∧
  ((Sys2Proof.Tables.branches).any (fun o =>
    let s : State := (ts [(0x100,0x60217FFF#32)] (fun t => t) 1);
    let r : TileId := 1;
    let f : Fields := fe s r.val;
    let len : Nat := le s r.val;
    let t := s.tile r.val;
    let tgt := t.pc + f.imm * 4#32;
    decide (s.issues r.val f len = true) && decide (f.mn = o.2.1) && decide (o.2.2 (t.sreg f.d) (t.sreg f.a) = true) && decide (0x18000 ≤ tgt.toNat))) = true := by
  decide +kernel

theorem wit_TileJumps :
  (let s : State := (ts [(0x100,0x79200005#32)] (fun t => t) 1);
    let r : TileId := 1;
    let f : Fields := fe s r.val;
    let len : Nat := le s r.val;
    let t := s.tile r.val;
    let j := t.pc + f.imm * 4#32;
    decide (s.issues r.val f len = true) && decide (f.mn = .jal) && decide (j.toNat < 0x18000)) = true ∧
  (let s : State := (ts [(0x100,0x793FFFBF#32)] (fun t => t) 1);
    let r : TileId := 1;
    let f : Fields := fe s r.val;
    let len : Nat := le s r.val;
    let t := s.tile r.val;
    let j := t.pc + f.imm * 4#32;
    decide (s.issues r.val f len = true) && decide (f.mn = .jal) && decide (0x18000 ≤ j.toNat)) = true ∧
  (let s : State := (ts [(0x100,0x7D210004#32)] (fun t => { t with pc:=256#32,sregs:=[(1,0x200#32),(8,0x89ABCDEF#32)] }) 1);
    let r : TileId := 1;
    let f : Fields := fe s r.val;
    let len : Nat := le s r.val;
    let t := s.tile r.val;
    let k := t.sreg f.a + f.imm;
    decide (s.issues r.val f len = true) && decide (f.mn = .jalr) && decide (k.toNat % 4 = 0) && decide (k.toNat < 0x18000)) = true ∧
  (let s : State := (ts [(0x100,0x7D210001#32)] (fun t => { t with pc:=256#32,sregs:=[(1,0x200#32),(8,0x89ABCDEF#32)] }) 1);
    let r : TileId := 1;
    let f : Fields := fe s r.val;
    let len : Nat := le s r.val;
    let t := s.tile r.val;
    let k := t.sreg f.a + f.imm;
    decide (s.issues r.val f len = true) && decide (f.mn = .jalr) && decide (k.toNat % 4 ≠ 0)) = true ∧
  (let s : State := (ts [(0x100,0x7C210000#32)] (fun t => { t with pc:=256#32,sregs:=[(1,0x18000#32),(8,0x89ABCDEF#32)] }) 1);
    let r : TileId := 1;
    let f : Fields := fe s r.val;
    let len : Nat := le s r.val;
    let t := s.tile r.val;
    let k := t.sreg f.a + f.imm;
    decide (s.issues r.val f len = true) && decide (f.mn = .jalr) && decide (k.toNat % 4 = 0) && decide (0x18000 ≤ k.toNat)) = true := by
  decide +kernel

theorem wit_TileHaltAndBreak :
  (let s : State := (ts [(0x100,0xAC000000#32)] (fun t => t) 1);
    let r : TileId := 1;
    let f : Fields := fe s r.val;
    let len : Nat := le s r.val;
    decide (s.issues r.val f len = true) && decide (f.mn = .halt)) = true ∧
  (let s : State := (ts [(0x100,0xB0000000#32)] (fun t => t) 1);
    let r : TileId := 1;
    let f : Fields := fe s r.val;
    let len : Nat := le s r.val;
    decide (s.issues r.val f len = true) && decide (f.mn = .brk)) = true := by
  decide +kernel

end W01

namespace W03

theorem wit_GlobalAddress_1 :
  (let t : Tile := { tb with sregs:=[(1,0x17FF0#32),(2,3#32),(8,0x89ABCDEF#32),(10,0x40000000#32),(11,0xFFE0080#32)], origin:=0x03F00000#32 };
    let n : Nat := 10;
    let imm : W32 := 0xFFFFFFFF#32;
    let w := t.spair n;
    let g := gaOf w;
    let off := (g.off : Int) + imm.toInt;
    decide (off < 0 ∨ 2 ^ 29 ≤ off)) = true ∧
  (let t : Tile := { tb with sregs:=[(1,0x17FF0#32),(2,3#32),(8,0x89ABCDEF#32),(10,0x40000004#32),(11,0x1FFE0080#32)], origin:=0x03F00000#32 };
    let n : Nat := 10;
    let imm : W32 := 0x0#32;
    let spaces : List Nat := [0,8];
    let w := t.spair n;
    let g := gaOf w;
    let off := (g.off : Int) + imm.toInt;
    decide (0 ≤ off) && decide (off < 2 ^ 29) && decide (g.space ∉ spaces)) = true ∧
  (let t : Tile := { tb with sregs:=[(1,0x17FF0#32),(2,3#32),(8,0x89ABCDEF#32),(10,0xE0017FFC#32),(11,0xFFF7FDF#32)], origin:=0x03F00000#32 };
    let n : Nat := 10;
    let imm : W32 := 0x0#32;
    let spaces : List Nat := [0,1,2,3,4,5,8,9];
    let al : Nat := 4;
    let size : Nat := 4;
    let w := t.spair n;
    let g := gaOf w;
    let off := (g.off : Int) + imm.toInt;
    let h : Ga := { g with off := off.toNat };
    decide (0 ≤ off) && decide (off < 2 ^ 29) && decide (g.space ∈ spaces) && decide (g.space < 8) && decide (h.bad size = false) && decide (h.off % al = 0)) = true ∧
  (let t : Tile := { tb with sregs:=[(1,0x17FF0#32),(2,3#32),(8,0x89ABCDEF#32),(10,0x0#32),(11,0xFFF8000#32)], origin:=0x03F00000#32 };
    let n : Nat := 10;
    let imm : W32 := 0x0#32;
    let spaces : List Nat := [0,1,2,3,4,5,8,9];
    let size : Nat := 4;
    let w := t.spair n;
    let g := gaOf w;
    let off := (g.off : Int) + imm.toInt;
    let h : Ga := { g with off := off.toNat };
    decide (0 ≤ off) && decide (off < 2 ^ 29) && decide (g.space ∈ spaces) && decide (g.space < 8) && decide (h.bad size = true)) = true ∧
  (let t : Tile := { tb with sregs:=[(1,0x17FF0#32),(2,3#32),(8,0x89ABCDEF#32),(10,0x2#32),(11,0xFFE0000#32)], origin:=0x03F00000#32 };
    let n : Nat := 10;
    let imm : W32 := 0x0#32;
    let spaces : List Nat := [0,1,2,3,4,5,8,9];
    let al : Nat := 4;
    let size : Nat := 4;
    let w := t.spair n;
    let g := gaOf w;
    let off := (g.off : Int) + imm.toInt;
    let h : Ga := { g with off := off.toNat };
    decide (0 ≤ off) && decide (off < 2 ^ 29) && decide (g.space ∈ spaces) && decide (g.space < 8) && decide (h.bad size = false) && decide (h.off % al ≠ 0)) = true ∧
  (let t : Tile := { tb with sregs:=[(1,0x17FF0#32),(2,3#32),(8,0x89ABCDEF#32),(10,0xE0000004#32),(11,0x8FFE5FA3#32)], origin:=0xA180C0#32 };
    let n : Nat := 10;
    let imm : W32 := 0x0#32;
    let spaces : List Nat := [0,1,2,3,4,5,8,9];
    let al : Nat := 4;
    let size : Nat := 4;
    let w := t.spair n;
    let g := gaOf w;
    let off := (g.off : Int) + imm.toInt;
    let h : Ga := { g with off := off.toNat };
    let m : Ga := { h with space := h.space - 8, y := (h.y + bits t.origin 19 10) % 1024, x := (h.x + bits t.origin 9 0) % 1024 };
    decide (0 ≤ off) && decide (off < 2 ^ 29) && decide (g.space ∈ spaces) && decide (g.space = 8 ∨ g.space = 9) && decide (g.y < 96 * (bits t.origin 25 23 + 1)) && decide (g.x < 96 * (bits t.origin 22 20 + 1)) && decide (m.bad size = false) && decide (m.off % al = 0)) = true := by
  decide +kernel

theorem wit_GlobalAddress_2 :
  (let t : Tile := { tb with sregs:=[(1,0x17FF0#32),(2,3#32),(8,0x89ABCDEF#32),(10,0x18000#32),(11,0x8FFE0000#32)], origin:=0xA180C0#32 };
    let n : Nat := 10;
    let imm : W32 := 0x0#32;
    let spaces : List Nat := [0,1,2,3,4,5,8,9];
    let size : Nat := 4;
    let w := t.spair n;
    let g := gaOf w;
    let off := (g.off : Int) + imm.toInt;
    let h : Ga := { g with off := off.toNat };
    let m : Ga := { h with space := h.space - 8, y := (h.y + bits t.origin 19 10) % 1024, x := (h.x + bits t.origin 9 0) % 1024 };
    decide (0 ≤ off) && decide (off < 2 ^ 29) && decide (g.space ∈ spaces) && decide (g.space = 8 ∨ g.space = 9) && decide (g.y < 96 * (bits t.origin 25 23 + 1)) && decide (g.x < 96 * (bits t.origin 22 20 + 1)) && decide (m.bad size = true)) = true ∧
  (let t : Tile := { tb with sregs:=[(1,0x17FF0#32),(2,3#32),(8,0x89ABCDEF#32),(10,0x60000002#32),(11,0x8FFE0180#32)], origin:=0xA180C0#32 };
    let n : Nat := 10;
    let imm : W32 := 0x0#32;
    let spaces : List Nat := [0,1,2,3,4,5,8,9];
    let al : Nat := 4;
    let size : Nat := 4;
    let w := t.spair n;
    let g := gaOf w;
    let off := (g.off : Int) + imm.toInt;
    let h : Ga := { g with off := off.toNat };
    let m : Ga := { h with space := h.space - 8, y := (h.y + bits t.origin 19 10) % 1024, x := (h.x + bits t.origin 9 0) % 1024 };
    decide (0 ≤ off) && decide (off < 2 ^ 29) && decide (g.space ∈ spaces) && decide (g.space = 8 ∨ g.space = 9) && decide (g.y < 96 * (bits t.origin 25 23 + 1)) && decide (g.x < 96 * (bits t.origin 22 20 + 1)) && decide (m.bad size = false) && decide (m.off % al ≠ 0)) = true ∧
  (let t : Tile := { tb with sregs:=[(1,0x17FF0#32),(2,3#32),(8,0x89ABCDEF#32),(10,0x0#32),(11,0x8FFE6000#32)], origin:=0xA180C0#32 };
    let n : Nat := 10;
    let imm : W32 := 0x0#32;
    let spaces : List Nat := [0,1,2,3,4,5,8,9];
    let w := t.spair n;
    let g := gaOf w;
    let off := (g.off : Int) + imm.toInt;
    decide (0 ≤ off) && decide (off < 2 ^ 29) && decide (g.space ∈ spaces) && decide (g.space = 8 ∨ g.space = 9) && decide (96 * (bits t.origin 25 23 + 1) ≤ g.y ∨ 96 * (bits t.origin 22 20 + 1) ≤ g.x)) = true := by
  decide +kernel

theorem wit_TileRemoteBlocking :
  (let s : State := (ts [(0x100,0x812A0004#32)] (fun t => { t with pc:=256#32,sregs:=[(1,0x17FF0#32),(2,3#32),(8,0x89ABCDEF#32),(10,0x20000040#32),(11,0xFFE0281#32)] }) 1);
    let r : TileId := 1;
    let f : Fields := fe s r.val;
    let len : Nat := le s r.val;
    let g : Ga := (match formGa (s.tile r.val) f.a f.imm [0, 1, 2, 3, 4, 5, 8, 9] 4 4 with | .ok g => g | _ => ⟨0,0,0,0,0⟩);
    let t := s.tile r.val;
    decide (s.issues r.val f len = true) && decide (s.mayEnter r.val 0 0 = true) && decide (f.mn = .rlw) && isOk (formGa t f.a f.imm [0, 1, 2, 3, 4, 5, 8, 9] 4 4) (g)) = true ∧
  (let s : State := (ts [(0x100,0x912A0004#32)] (fun t => { t with pc:=256#32,sregs:=[(1,0x17FF0#32),(2,3#32),(8,0x89ABCDEF#32),(10,0x20000040#32),(11,0xFFE0281#32)] }) 1);
    let r : TileId := 1;
    let f : Fields := fe s r.val;
    let len : Nat := le s r.val;
    let g : Ga := (match formGa (s.tile r.val) f.a f.imm [0, 8] 4 4 with | .ok g => g | _ => ⟨0,0,0,0,0⟩);
    let t := s.tile r.val;
    decide (s.issues r.val f len = true) && decide (s.mayEnter r.val 0 0 = true) && decide (f.mn = .rldf) && isOk (formGa t f.a f.imm [0, 8] 4 4) (g)) = true ∧
  (let s : State := (ts [(0x100,0x950A0004#32)] (fun t => { t with pc:=256#32,sregs:=[(1,0x17FF0#32),(2,3#32),(8,0x89ABCDEF#32),(10,0x20000040#32),(11,0xFFE0281#32)] }) 1);
    let r : TileId := 1;
    let f : Fields := fe s r.val;
    let len : Nat := le s r.val;
    let g : Ga := (match formGa (s.tile r.val) f.a f.imm [0, 8] 4 4 with | .ok g => g | _ => ⟨0,0,0,0,0⟩);
    let t := s.tile r.val;
    decide (s.issues r.val f len = true) && decide (s.mayEnter r.val 0 0 = true) && decide (f.mn = .rste) && isOk (formGa t f.a f.imm [0, 8] 4 4) (g)) = true := by
  decide +kernel

theorem wit_TilePosted :
  (let s : State := (ts [(0x100,0x850A0004#32)] (fun t => { t with pc:=256#32,sregs:=[(1,0x17FF0#32),(2,3#32),(8,0x89ABCDEF#32),(10,0x20000040#32),(11,0xFFE0281#32)] }) 1);
    let r : TileId := 1;
    let f : Fields := fe s r.val;
    let len : Nat := le s r.val;
    let g : Ga := (match formGa (s.tile r.val) f.a f.imm [0, 1, 2, 3, 4, 5, 8, 9] 4 4 with | .ok g => g | _ => ⟨0,0,0,0,0⟩);
    let t := s.tile r.val;
    decide (s.issues r.val f len = true) && decide (s.mayEnter r.val 0 0 = true) && decide (t.freeTag ≠ none) && decide (f.mn = .rsw) && isOk (formGa t f.a f.imm [0, 1, 2, 3, 4, 5, 8, 9] 4 4) (g)) = true ∧
  (let s : State := (ts [(0x100,0x890A0000#32)] (fun t => { t with pc:=256#32,sregs:=[(1,0x17FF0#32),(2,3#32),(8,0x89ABCDEF#32),(10,0x20000040#32),(11,0xFFE0281#32)] }) 1);
    let r : TileId := 1;
    let f : Fields := fe s r.val;
    let len : Nat := le s r.val;
    let g : Ga := (match formGa (s.tile r.val) f.a f.imm [0, 8] 2 2 with | .ok g => g | _ => ⟨0,0,0,0,0⟩);
    let t := s.tile r.val;
    decide (s.issues r.val f len = true) && decide (s.mayEnter r.val 0 0 = true) && decide (t.freeTag ≠ none) && decide (f.mn = .rsh) && isOk (formGa t f.a f.imm [0, 8] 2 2) (g)) = true ∧
  (let s : State := (ts [(0x100,0x8D0A0000#32)] (fun t => { t with pc:=256#32,sregs:=[(1,0x17FF0#32),(2,3#32),(8,0x89ABCDEF#32),(10,0x20000040#32),(11,0xFFE0281#32)] }) 1);
    let r : TileId := 1;
    let f : Fields := fe s r.val;
    let len : Nat := le s r.val;
    let g : Ga := (match formGa (s.tile r.val) f.a f.imm [0, 8] 1 1 with | .ok g => g | _ => ⟨0,0,0,0,0⟩);
    let t := s.tile r.val;
    decide (s.issues r.val f len = true) && decide (s.mayEnter r.val 0 0 = true) && decide (t.freeTag ≠ none) && decide (f.mn = .rsb) && isOk (formGa t f.a f.imm [0, 8] 1 1) (g)) = true ∧
  (let s : State := (ts [(0x100,0x99411004#32)] (fun t => { t with pc:=256#32,sregs:=[(1,0x17FF0#32),(2,3#32),(8,0x89ABCDEF#32),(10,0x20000040#32),(11,0xFFE0281#32)] }) 1);
    let r : TileId := 1;
    let f : Fields := fe s r.val;
    let len : Nat := le s r.val;
    let g : Ga := (match formGa (sab s r.val).1 f.d 0#32 [0, 8] 4 (4 * (sab s r.val).2.2.toNat) with | .ok g => g | _ => ⟨0,0,0,0,0⟩);
    let t := s.tile r.val;
    decide (s.issues r.val f len = true) && decide (s.mayEnter r.val 0 0 = true) && decide (t.freeTag ≠ none) && (let t2 := (sab s r.val).1;
    let a := (sab s r.val).2.1;
    let b := (sab s r.val).2.2;
    decide (f.mn = .rcopy) && srcABb t f t2 a b && decide (1 ≤ b.toNat) && decide (b.toNat ≤ 32) && isOk (formGa t2 f.d 0#32 [0, 8] 4 (4 * b.toNat)) (g) && decide (a.toNat % 4 = 0) && decide (a.toNat + 4 * b.toNat ≤ 0x18000) && decide (∀ i, i < b.toNat → sget .good t.upset (a.toNat / 4 + i) ≠ .ue))) = true := by
  decide +kernel

theorem wit_TileQueueSend :
  (let s : State := (ts [(0x100,0x99410001#32)] (fun t => { t with pc:=256#32,sregs:=[(1,0x17FF0#32),(2,3#32),(8,0x89ABCDEF#32),(10,0x20000000#32),(11,0xFFE0281#32)] }) 1);
    let r : TileId := 1;
    let f : Fields := fe s r.val;
    let len : Nat := le s r.val;
    let g : Ga := (match formGa (sab s r.val).1 f.d 0#32 [0, 8] 1 1 with | .ok g => g | _ => ⟨0,0,0,0,0⟩);
    let t2 : Tile := (sab s r.val).1;
    let a : W32 := (sab s r.val).2.1;
    let b : W32 := (sab s r.val).2.2;
    let t := s.tile r.val;
    decide (s.issues r.val f len = true) && decide (s.canInject r.val .loc 2 = true) && decide (t.freeTag ≠ none) && srcABb t f t2 a b && isOk (formGa t2 f.d 0#32 [0, 8] 1 1) (g) && decide (g.off < 4) && decide (f.o = false ∨ t.fenced = true ∨ t.latch = none ∧ (t.fence = some [] ∨ t.fence = none ∧ t.openC0 = [])) && decide (f.mn = .sendq)) = true ∧
  (let s : State := (ts [(0x100,0x99411002#32)] (fun t => { t with pc:=256#32,sregs:=[(1,0x17FF0#32),(2,3#32),(8,0x89ABCDEF#32),(10,0x20000000#32),(11,0xFFE0281#32)] }) 1);
    let r : TileId := 1;
    let f : Fields := fe s r.val;
    let len : Nat := le s r.val;
    let g : Ga := (match formGa (sab s r.val).1 f.d 0#32 [0, 8] 1 1 with | .ok g => g | _ => ⟨0,0,0,0,0⟩);
    let t2 : Tile := (sab s r.val).1;
    let a : W32 := (sab s r.val).2.1;
    let b : W32 := (sab s r.val).2.2;
    let t := s.tile r.val;
    decide (s.issues r.val f len = true) && decide (s.canInject r.val .loc 2 = true) && decide (t.freeTag ≠ none) && srcABb t f t2 a b && isOk (formGa t2 f.d 0#32 [0, 8] 1 1) (g) && decide (g.off < 4) && decide (f.o = false ∨ t.fenced = true ∨ t.latch = none ∧ (t.fence = some [] ∨ t.fence = none ∧ t.openC0 = [])) && decide (f.mn = .sendq2)) = true ∧
  (let s : State := (ts [(0x100,0x99411003#32)] (fun t => { t with pc:=256#32,sregs:=[(1,0x17FF0#32),(2,3#32),(8,0x89ABCDEF#32),(10,0x20000000#32),(11,0xFFE0281#32)] }) 1);
    let r : TileId := 1;
    let f : Fields := fe s r.val;
    let len : Nat := le s r.val;
    let g : Ga := (match formGa (sab s r.val).1 f.d 0#32 [0, 8] 1 1 with | .ok g => g | _ => ⟨0,0,0,0,0⟩);
    let t2 : Tile := (sab s r.val).1;
    let a : W32 := (sab s r.val).2.1;
    let b : W32 := (sab s r.val).2.2;
    let t := s.tile r.val;
    decide (s.issues r.val f len = true) && decide (s.canInject r.val .loc 2 = true) && decide (t.freeTag ≠ none) && srcABb t f t2 a b && isOk (formGa t2 f.d 0#32 [0, 8] 1 1) (g) && decide (g.off < 4) && decide (f.o = false ∨ t.fenced = true ∨ t.latch = none ∧ (t.fence = some [] ∨ t.fence = none ∧ t.openC0 = [])) && decide (f.mn = .sendqm) && decide (1 ≤ b.toNat) && decide (b.toNat ≤ 8) && decide (a.toNat % 4 = 0) && decide (a.toNat + 4 * b.toNat ≤ 0x18000) && decide (∀ i, i < b.toNat → sget .good t.upset (a.toNat / 4 + i) ≠ .ue)) = true := by
  decide +kernel

theorem wit_TileRemfence :
  (let s : State := (ts [(0x100,0x98000005#32)] (fun t => { t with pc:=256#32,stepping:=true }) 1);
    let r : TileId := 1;
    let f : Fields := fe s r.val;
    let len : Nat := le s r.val;
    let t := s.tile r.val;
    decide (s.issues r.val f len = true) && decide (f.mn = .remfence) && decide (t.latch = none) && decide (t.fence = some [] ∨ t.fence = none ∧ t.openC0 = [])) = true ∧
  (let s : State := (ts [(0x100,0x98000005#32)] (fun t => { t with pc:=256#32,out:=[(0,{ch:=0,ga:=1#64}),(1,{ch:=2,ga:=1#64}),(5,{ch:=0,ga:=1#64})] }) 1);
    let r : TileId := 1;
    let f : Fields := fe s r.val;
    let len : Nat := le s r.val;
    let t := s.tile r.val;
    decide (s.issues r.val f len = true) && decide (f.mn = .remfence) && decide (t.latch = none) && decide (t.fence = none) && decide (t.openC0 ≠ [])) = true ∧
  (let s : State := (ts [(0x100,0x98000005#32)] (fun t => { t with pc:=256#32,latch:=some (5,9#64) }) 1);
    let r : TileId := 1;
    let f : Fields := fe s r.val;
    let len : Nat := le s r.val;
    let t := s.tile r.val;
    decide (s.issues r.val f len = true) && decide (f.mn = .remfence) && (let st := 5;
    let ga := 9#64;
    decide (t.latch = some (st, ga)) && decide (t.latchMore = false))) = true := by
  decide +kernel

theorem wit_TileQueueTest :
  (let s : State := (ts [(0x100,0x99411006#32)] (fun t => { t with pc:=256#32,sregs:=[(1,0x3F5#32),(2,0xFFFFFC0A#32),(10,0xFFFFFFFF#32),(11,0xFFFFFFFF#32)] }) 1);
    let r : TileId := 1;
    let f : Fields := fe s r.val;
    let len : Nat := le s r.val;
    let t := s.tile r.val;
    decide (s.issues r.val f len = true) && (let t2 := (sab s r.val).1;
    let a := (sab s r.val).2.1;
    let b := (sab s r.val).2.2;
    decide (f.mn = .gaxy) && srcABb t f t2 a b && decide (f.d % 2 = 0) && decide (f.d < 32) && decide (f.d ≠ 0))) = true ∧
  (let s : State := (ts [(0x100,0x98011006#32)] (fun t => { t with pc:=256#32,sregs:=[(1,0xFFFFFFFF#32),(2,0xFFFFFC0A#32)] }) 1);
    let r : TileId := 1;
    let f : Fields := fe s r.val;
    let len : Nat := le s r.val;
    let t := s.tile r.val;
    decide (s.issues r.val f len = true) && (let t2 := (sab s r.val).1;
    let a := (sab s r.val).2.1;
    let b := (sab s r.val).2.2;
    decide (f.mn = .gaxy) && srcABb t f t2 a b && decide (f.d = 0))) = true ∧
  (let s : State := (ts [(0x100,0x9D030001#32)] (fun t => t) 1);
    let r : TileId := 1;
    let f : Fields := fe s r.val;
    let len : Nat := le s r.val;
    let t := s.tile r.val;
    decide (s.issues r.val f len = true) && decide (f.mn = .qtry) && decide (t.queue f.a = [])) = true ∧
  (let s : State := (ts [(0x100,0x9D000001#32)] (fun t => t) 1);
    let r : TileId := 1;
    let f : Fields := fe s r.val;
    let len : Nat := le s r.val;
    let t := s.tile r.val;
    decide (s.issues r.val f len = true) && (let w := {v:=3#32};
    let ws := [{v:=0x80000001#32}];
    decide (f.mn = .qtry) && decide (t.queue f.a = w :: ws) && decide (w.e = .good))) = true ∧
  (let s : State := (ts [(0x100,0x9D000002#32)] (fun t => t) 1);
    let r : TileId := 1;
    let f : Fields := fe s r.val;
    let len : Nat := le s r.val;
    decide (s.issues r.val f len = true) && decide (f.mn = .qcnt)) = true := by
  decide +kernel

theorem wit_TileBarriers_1 :
  (let s : State := (ts [(0x100,0xA0010000#32)] (fun t => { t with pc:=256#32,sregs:=[(1,16384#32)],pend:=[(0,{valid:=true,sent:=true,id:=5,released:=true}),(1,{valid:=true,sent:=true,id:=7}),(2,{valid:=true,id:=9,waits:=[3]})] }) 1);
    let r : TileId := 1;
    let f : Fields := fe s r.val;
    let len : Nat := le s r.val;
    let t := s.tile r.val;
    let i := t.sreg f.a + f.imm;
    decide (s.issues r.val f len = true) && decide (16384 ≤ i.toNat) && ([((.barrive : Hart → Instr), Mn.barrive), (.barwait, .barwait), (.bartest, .bartest)]).any (fun o =>
    decide (f.mn = o.2))) = true ∧
  (let s : State := (ts [(0x100,0xA0010000#32)] (fun t => { t with pc:=256#32,sregs:=[(1,0#32)],pend:=[(0,{valid:=true,sent:=true,id:=5,released:=true}),(1,{valid:=true,sent:=true,id:=7}),(2,{valid:=true,id:=9,waits:=[3]})] }) 1);
    let r : TileId := 1;
    let f : Fields := fe s r.val;
    let len : Nat := le s r.val;
    let n : Nat := 3;
    let t := s.tile r.val;
    let i := t.sreg f.a + f.imm;
    decide (s.issues r.val f len = true) && decide (i.toNat < 16384) && decide (f.mn = .barrive) && decide (t.pendOf i.toNat = none) && decide (t.pendFree = some n) && decide (t.arrivals = []) && decide (bit t.compat 1 = true ∨ t.openC0 = []) && decide (s.canInject r.val .loc 3 = true)) = true ∧
  (let s : State := (ts [(0x100,0xA0010000#32)] (fun t => { t with pc:=256#32,sregs:=[(1,6#32)],pend:=[(0,{valid:=true,sent:=true,id:=5,released:=true}),(1,{valid:=true,sent:=true,id:=7}),(2,{valid:=true,id:=9,waits:=[3]})],out:=[(0,{ch:=0,ga:=1#64}),(7,{ch:=0,ga:=1#64})] }) 1);
    let r : TileId := 1;
    let f : Fields := fe s r.val;
    let len : Nat := le s r.val;
    let n : Nat := 3;
    let t := s.tile r.val;
    let i := t.sreg f.a + f.imm;
    decide (s.issues r.val f len = true) && decide (i.toNat < 16384) && decide (f.mn = .barrive) && decide (t.pendOf i.toNat = none) && decide (t.pendFree = some n) && decide (t.arrivals = []) && decide (bit t.compat 1 = false) && decide (t.openC0 ≠ [])) = true ∧
  (let s : State := (ts [(0x100,0xA0010000#32)] (fun t => { t with pc:=256#32,sregs:=[(1,5#32)],pend:=[(0,{valid:=true,sent:=true,id:=5,released:=true}),(1,{valid:=true,sent:=true,id:=7}),(2,{valid:=true,id:=9,waits:=[3]})] }) 1);
    let r : TileId := 1;
    let f : Fields := fe s r.val;
    let len : Nat := le s r.val;
    let n : Nat := 0;
    let t := s.tile r.val;
    let i := t.sreg f.a + f.imm;
    decide (s.issues r.val f len = true) && decide (i.toNat < 16384) && decide (f.mn = .barrive) && decide (t.pendOf i.toNat = some n)) = true ∧
  (let s : State := (ts [(0x100,0xA0010000#32)] (fun t => { t with pc:=256#32,sregs:=[(1,5#32)],pend:=(List.range 16).map (fun i => (i,{valid:=true,sent:=true,id:=i+100})) }) 1);
    let r : TileId := 1;
    let f : Fields := fe s r.val;
    let len : Nat := le s r.val;
    let t := s.tile r.val;
    let i := t.sreg f.a + f.imm;
    decide (s.issues r.val f len = true) && decide (i.toNat < 16384) && decide (f.mn = .barrive) && decide (t.pendOf i.toNat = none) && decide (t.pendFree = none)) = true ∧
  (let s : State := (ts [(0x100,0xA4010000#32)] (fun t => { t with pc:=256#32,sregs:=[(1,5#32)],pend:=[(0,{valid:=true,sent:=true,id:=5,released:=true}),(1,{valid:=true,sent:=true,id:=7}),(2,{valid:=true,id:=9,waits:=[3]})] }) 1);
    let r : TileId := 1;
    let f : Fields := fe s r.val;
    let len : Nat := le s r.val;
    let n : Nat := 0;
    let t := s.tile r.val;
    let i := t.sreg f.a + f.imm;
    decide (s.issues r.val f len = true) && decide (i.toNat < 16384) && decide (f.mn = .barwait) && decide (t.latch = none) && decide (t.pendOf i.toNat = some n) && decide ((sget {} t.pend n).released = true)) = true ∧
  (let s : State := (ts [(0x100,0xA4010000#32)] (fun t => { t with pc:=256#32,sregs:=[(1,7#32)],pend:=[(0,{valid:=true,sent:=true,id:=5,released:=true}),(1,{valid:=true,sent:=true,id:=7}),(2,{valid:=true,id:=9,waits:=[3]})] }) 1);
    let r : TileId := 1;
    let f : Fields := fe s r.val;
    let len : Nat := le s r.val;
    let n : Nat := 1;
    let t := s.tile r.val;
    let i := t.sreg f.a + f.imm;
    decide (s.issues r.val f len = true) && decide (i.toNat < 16384) && decide (f.mn = .barwait) && decide (t.latch = none) && decide (t.pendOf i.toNat = some n) && decide ((sget {} t.pend n).released = false)) = true ∧
  (let s : State := (ts [(0x100,0xA4010000#32)] (fun t => { t with pc:=256#32,sregs:=[(1,5#32)],pend:=[(0,{valid:=true,sent:=true,id:=5,released:=true}),(1,{valid:=true,sent:=true,id:=7}),(2,{valid:=true,id:=9,waits:=[3]})],latch:=some (5,9#64) }) 1);
    let r : TileId := 1;
    let f : Fields := fe s r.val;
    let len : Nat := le s r.val;
    let n : Nat := 0;
    let t := s.tile r.val;
    let i := t.sreg f.a + f.imm;
    decide (s.issues r.val f len = true) && decide (i.toNat < 16384) && (let st := 5;
    let ga := 9#64;
    decide (f.mn = .barwait) && decide (t.latch = some (st, ga)) && decide (t.latchMore = false) && decide (t.pendOf i.toNat = some n))) = true := by
  decide +kernel

theorem wit_TileBarriers_2 :
  (let s : State := (ts [(0x100,0xA9210000#32)] (fun t => { t with pc:=256#32,sregs:=[(1,5#32)],pend:=[(0,{valid:=true,sent:=true,id:=5,released:=true}),(1,{valid:=true,sent:=true,id:=7}),(2,{valid:=true,id:=9,waits:=[3]})] }) 1);
    let r : TileId := 1;
    let f : Fields := fe s r.val;
    let len : Nat := le s r.val;
    let n : Nat := 0;
    let t := s.tile r.val;
    let i := t.sreg f.a + f.imm;
    decide (s.issues r.val f len = true) && decide (i.toNat < 16384) && decide (f.mn = .bartest) && decide (t.pendOf i.toNat = some n) && decide ((sget {} t.pend n).released = true)) = true ∧
  (let s : State := (ts [(0x100,0xA9210000#32)] (fun t => { t with pc:=256#32,sregs:=[(1,7#32)],pend:=[(0,{valid:=true,sent:=true,id:=5,released:=true}),(1,{valid:=true,sent:=true,id:=7}),(2,{valid:=true,id:=9,waits:=[3]})] }) 1);
    let r : TileId := 1;
    let f : Fields := fe s r.val;
    let len : Nat := le s r.val;
    let n : Nat := 1;
    let t := s.tile r.val;
    let i := t.sreg f.a + f.imm;
    decide (s.issues r.val f len = true) && decide (i.toNat < 16384) && decide (f.mn = .bartest) && decide (t.pendOf i.toNat = some n) && decide ((sget {} t.pend n).released = false)) = true ∧
  (let s : State := (ts [(0x100,0xA4010000#32)] (fun t => { t with pc:=256#32,sregs:=[(1,6#32)],pend:=[(0,{valid:=true,sent:=true,id:=5,released:=true}),(1,{valid:=true,sent:=true,id:=7}),(2,{valid:=true,id:=9,waits:=[3]})] }) 1);
    let r : TileId := 1;
    let f : Fields := fe s r.val;
    let len : Nat := le s r.val;
    let t := s.tile r.val;
    let i := t.sreg f.a + f.imm;
    decide (s.issues r.val f len = true) && decide (i.toNat < 16384) && ([((.barwait : Hart → Instr), Mn.barwait), (.bartest, .bartest)]).any (fun o =>
    decide (f.mn = o.2) && decide (t.pendOf i.toNat = none))) = true := by
  decide +kernel

end W03

namespace W04
def vab (s : State) (r : Nat) : Tile × List Nat × List Nat := match (s.tile r).srcV (fe s r).qa (fe s r).a with | .got t a => (match t.srcV (fe s r).qb (fe s r).b with | .got t b => (t,a,b) | _ => ({},[],[])) | _ => ({},[],[])
def acc0 : List (Nat × BitVec 512) := [(1, BitVec.ofNat 512 (0xFFFFFFFF7FFFFFFF00000001800000000000007F3F800000BF8000007FC00000 * 2^256 + 0x01234567)),(2, BitVec.ofNat 512 (0x7F80000000000000FFFFFFFF12345678))]
def okd (x : Except Nat Desc) : Desc := match x with | .ok g => g | _ => []
def erd (x : Except Nat Desc) : Nat := match x with | .error g => g | _ => 0
def gS (t : Tile) (f : Fields) : Tile × W32 := match t.srcS f.qa f.a with | .got t a => (t,a) | _ => ({},0)
def gV (t : Tile) (q : Bool) (a : Nat) : Tile × List Nat := match t.srcV q a with | .got t a => (t,a) | _ => ({},[])
def dA (t : Tile) (u : Nat) : Tile × LvmPart := match t.gatherA u with | .got t b => (t, b) | _ => ({}, { xs := [] })
def dW (t : Tile) (u : Nat) (b : LvmPart) : Tile × LvmPart := match t.gatherW u 16 b with | (t, b, _) => (t, b)
def dF (t : Tile) (u : Nat) (d : Desc) : Tile × Item := match t.fetchItem u d with | .item t i => (t,i) | _ => ({},.vec [])
def ds (ctl : Nat) (base : Nat) (c0 : Nat := 4) (st : Nat := 32) (more : Desc := []) : Desc := [(0, BitVec.ofNat 32 ctl),(1,BitVec.ofNat 32 base),(4,BitVec.ofNat 32 c0),(8,BitVec.ofNat 32 st)] ++ more
theorem wit_VectorRegisters :
  (let n : Nat := 3;
    let m : Nat := 4;
    let l : List Nat := (List.range 16);
    decide (l.length = 16) && decide (m ≠ n) && decide (∀ x ∈ l, x < 2 ^ 16)) = true ∧
  (let n : Nat := 3;
    let m : Nat := 4;
    let l : List Nat := (List.range 16);
    decide (l.length = 16) && decide (m ≠ n) && decide (∀ x ∈ l, x < 2 ^ 32)) = true := by
  decide +kernel

theorem wit_VectorMemory :
  (([((.vldb : Hart → Instr), Mn.vldb, (.vstb : Hart → Instr), Mn.vstb, 1), (.vldh, .vldh, .vsth, .vsth, 2)]).any (fun o =>
    let s : State := (ts [(0x100,0xC0410000#32)] (fun t => { t with pc:=256#32,sregs:=[(1,0#32)] }) 1);
    let r : TileId := 1;
    let f : Fields := fe s r.val;
    let len : Nat := le s r.val;
    let es := o.2.2.2.2;
    let t := s.tile r.val;
    let e := (t.sreg f.a + f.imm).toNat;
    decide (s.issues r.val f len = true) && decide (e % 4 = 0) && decide (e + 16 * es ≤ 0x18000) && decide (f.mn = o.2.1) && decide (∀ i, i < 4 * es → sget .good t.upset (e / 4 + i) ≠ .ue))) = true ∧
  (([((.vldb : Hart → Instr), Mn.vldb, (.vstb : Hart → Instr), Mn.vstb, 1), (.vldh, .vldh, .vsth, .vsth, 2)]).any (fun o =>
    let s : State := (ts [(0x100,0xC8210000#32)] (fun t => { t with pc:=256#32,sregs:=[(1,0#32)] }) 1);
    let r : TileId := 1;
    let f : Fields := fe s r.val;
    let len : Nat := le s r.val;
    let es := o.2.2.2.2;
    let t := s.tile r.val;
    let e := (t.sreg f.a + f.imm).toNat;
    decide (s.issues r.val f len = true) && decide (e % 4 = 0) && decide (e + 16 * es ≤ 0x18000) && decide (f.mn = o.2.2.2.1))) = true := by
  decide +kernel

theorem wit_VectorArithmetic :
  ((Sys2Proof.Tables.vec2).any (fun o =>
    let r : TileId := 1;
    let s : State := (ts [(0x100,0xD0611001#32)] (fun t => t) 1);
    let f : Fields := fe s r.val;
    let len : Nat := le s r.val;
    let t : Tile := (vab s r.val).1;
    let a : List Nat := (vab s r.val).2.1;
    let b : List Nat := (vab s r.val).2.2;
    decide (s.issues r.val f len = true) && decide (f.mn = o.2.1) && vecABb (s.tile r.val) f t a b)) = true := by
  decide +kernel

theorem wit_VectorMoves :
  (let r : TileId := 1;
    let s : State := (ts [(0x100,0xD0610006#32)] (fun t => t) 1);
    let f : Fields := fe s r.val;
    let len : Nat := le s r.val;
    let t : Tile := (gV (s.tile r.val) f.qa f.a).1;
    decide (s.issues r.val f len = true) && (let l := (gV (s.tile r.val) f.qa f.a).2;
    decide ((s.tile r.val).srcV f.qa f.a = .got t l) && decide (f.mn = .vmov))) = true ∧
  (let r : TileId := 1;
    let s : State := (ts [(0x100,0xD1210008#32)] (fun t => t) 1);
    let f : Fields := fe s r.val;
    let len : Nat := le s r.val;
    let t : Tile := (gV (s.tile r.val) f.qa f.a).1;
    decide (s.issues r.val f len = true) && (let l := (gV (s.tile r.val) f.qa f.a).2;
    decide ((s.tile r.val).srcV f.qa f.a = .got t l) && decide (f.mn = .vext))) = true ∧
  (let r : TileId := 1;
    let s : State := (ts [(0x100,0xD061000A#32)] (fun t => t) 1);
    let f : Fields := fe s r.val;
    let len : Nat := le s r.val;
    let t : Tile := (gV (s.tile r.val) f.qa f.a).1;
    decide (s.issues r.val f len = true) && (let l := (gV (s.tile r.val) f.qa f.a).2;
    decide ((s.tile r.val).srcV f.qa f.a = .got t l) && decide (f.mn = .vcvt))) = true ∧
  (let r : TileId := 1;
    let s : State := (ts [(0x100,0xD0620007#32)] (fun t => t) 1);
    let f : Fields := fe s r.val;
    let len : Nat := le s r.val;
    let t : Tile := (gS (s.tile r.val) f).1;
    decide (s.issues r.val f len = true) && (let a := (gS (s.tile r.val) f).2;
    decide ((s.tile r.val).srcS f.qa f.a = .got t a) && decide (f.mn = .vsplat))) = true ∧
  (let r : TileId := 1;
    let s : State := (ts [(0x100,0xD0227809#32)] (fun t => t) 1);
    let f : Fields := fe s r.val;
    let len : Nat := le s r.val;
    let t : Tile := (gS (s.tile r.val) f).1;
    decide (s.issues r.val f len = true) && (let a := (gS (s.tile r.val) f).2;
    decide ((s.tile r.val).srcS f.qa f.a = .got t a) && decide (f.mn = .vins))) = true ∧
  (let r : TileId := 1;
    let s : State := (ts [(0x100,0xD121000B#32)] (fun t => t) 1);
    let f : Fields := fe s r.val;
    let len : Nat := le s r.val;
    let t : Tile := (gS (s.tile r.val) f).1;
    decide (s.issues r.val f len = true) && (let a := (gS (s.tile r.val) f).2;
    decide ((s.tile r.val).srcS f.qa f.a = .got t a) && decide (f.mn = .scvtf))) = true ∧
  (let r : TileId := 1;
    let s : State := (ts [(0x100,0xD121000C#32)] (fun t => t) 1);
    let f : Fields := fe s r.val;
    let len : Nat := le s r.val;
    let t : Tile := (gS (s.tile r.val) f).1;
    decide (s.issues r.val f len = true) && (let a := (gS (s.tile r.val) f).2;
    decide ((s.tile r.val).srcS f.qa f.a = .got t a) && decide (f.mn = .scvtn))) = true := by
  decide +kernel

theorem wit_LatticeIssue :
  (let s : State := (ts [(0x100,0xD4200003#32)] (fun t => t) 1);
    let r : TileId := 1;
    let f : Fields := fe s r.val;
    let len : Nat := le s r.val;
    let t := s.tile r.val;
    decide (s.issues r.val f len = true) && (Sys2Proof.Tables.lattice).any (fun o =>
    decide (f.mn = o.2.1) && decide (t.latq.length < 4))) = true ∧
  (let s : State := (ts [(0x100,0xD4200003#32)] (fun t => { t with pc:=256#32,latq:=[.lzero 1,.lzero 2,.lmov 1 2,.lzero 0] }) 1);
    let r : TileId := 1;
    let f : Fields := fe s r.val;
    let len : Nat := le s r.val;
    let t := s.tile r.val;
    decide (s.issues r.val f len = true) && (Sys2Proof.Tables.lattice).any (fun o =>
    decide (f.mn = o.2.1) && decide (4 ≤ t.latq.length))) = true ∧
  (let s : State := (ts [(0x100,0xD4211001#32)] (fun t => t) 1);
    let r : TileId := 1;
    let f : Fields := fe s r.val;
    let len : Nat := le s r.val;
    let t := s.tile r.val;
    decide (s.issues r.val f len = true) && (let t2 := (vab s r.val).1;
    let a := (vab s r.val).2.1;
    let b := (vab s r.val).2.2;
    decide (f.mn = .lmac) && vecABb t f t2 a b && decide (t.latq.length < 4))) = true ∧
  (let s : State := (ts [(0x100,0xD4211002#32)] (fun t => t) 1);
    let r : TileId := 1;
    let f : Fields := fe s r.val;
    let len : Nat := le s r.val;
    let t := s.tile r.val;
    decide (s.issues r.val f len = true) && (let t1 := (gS (s.tile r.val) f).1;
    let t2 := (gV (gS (s.tile r.val) f).1 f.qb f.b).1;
    let a := (gS (s.tile r.val) f).2;
    let b := (gV (gS (s.tile r.val) f).1 f.qb f.b).2;
    decide (f.mn = .lmacs) && decide (t.srcS f.qa f.a = .got t1 a) && decide (t1.srcV f.qb f.b = .got t2 b) && decide (t.latq.length < 4))) = true ∧
  (let s : State := (ts [(0x100,0xD4210008#32)] (fun t => t) 1);
    let r : TileId := 1;
    let f : Fields := fe s r.val;
    let len : Nat := le s r.val;
    let t := s.tile r.val;
    decide (s.issues r.val f len = true) && (let t2 := (gV (s.tile r.val) f.qa f.a).1;
    let a := (gV (s.tile r.val) f.qa f.a).2;
    decide (f.mn = .lwid) && decide (t.srcV f.qa f.a = .got t2 a) && decide (t.latq.length < 4))) = true ∧
  (let s : State := (ts [(0x100,0xD8201000#32)] (fun t => { t with pc:=256#32,streams:=[(0,{act:=some (ds 0 0)}),(1,{act:=some (ds 0 0)})] }) 1);
    let r : TileId := 1;
    let f : Fields := fe s r.val;
    let len : Nat := le s r.val;
    let t := s.tile r.val;
    decide (s.issues r.val f len = true) && (let k := 0;
    decide (f.mn = .lvm) && decide ((t.unit f.b).readFmt = some k) && decide ((t.unit f.fmt).readFmt = some k) && decide (k ≤ 4) && decide (t.latq.length < 4))) = true ∧
  (let s : State := (ts [(0x100,0xD8221000#32)] (fun t => { t with pc:=256#32,streams:=[(0,{act:=some (ds 1 0)}),(1,{})] }) 1);
    let r : TileId := 1;
    let f : Fields := fe s r.val;
    let len : Nat := le s r.val;
    let t := s.tile r.val;
    decide (s.issues r.val f len = true) && decide (f.mn = .lvm) && decide ((t.unit f.b).readFmt = none ∨ (t.unit f.fmt).readFmt = none)) = true ∧
  (let s : State := (ts [(0x100,0xD8221000#32)] (fun t => { t with pc:=256#32,streams:=[(0,{act:=some (ds 0 0)}),(1,{act:=some (ds 16 0)})],upset:=[(64,.ce)] }) 1);
    let r : TileId := 1;
    let f : Fields := fe s r.val;
    let len : Nat := le s r.val;
    let t := s.tile r.val;
    decide (s.issues r.val f len = true) && (let k := 0;
    let m := 1;
    decide (f.mn = .lvm) && decide ((t.unit f.b).readFmt = some k) && decide ((t.unit f.fmt).readFmt = some m) && decide (k ≠ m ∨ 4 < k))) = true := by
  decide +kernel

theorem wit_LatticeStart_1 :
  (let s : State := (ts [] (fun t => { t with accs:=acc0,latq:=.lmac 0 1 ((List.range 16)) ((List.range 16).map (fun i => i*17))::[.lzero 9] }) 1);
    let r : TileId := 1;
    let rest : List LCmd := [.lzero 9];
    let t := s.tile r.val;
    decide (t.rst = false) && decide (t.latRun = none) && (let f := 0;
    let d := 1;
    let xs := (List.range 16);
    let ws := (List.range 16).map (fun i => i*17);
    decide (t.latq = .lmac f d xs ws :: rest))) = true ∧
  (let s : State := (ts [] (fun t => { t with accs:=acc0,latq:=.lzero 1::[.lzero 9] }) 1);
    let r : TileId := 1;
    let rest : List LCmd := [.lzero 9];
    let t := s.tile r.val;
    decide (t.rst = false) && decide (t.latRun = none) && (let d := 1;
    decide (t.latq = .lzero d :: rest))) = true ∧
  (let s : State := (ts [] (fun t => { t with accs:=acc0,latq:=.lmov 3 1::[.lzero 9] }) 1);
    let r : TileId := 1;
    let rest : List LCmd := [.lzero 9];
    let t := s.tile r.val;
    decide (t.rst = false) && decide (t.latRun = none) && (let d := 3;
    let a := 1;
    decide (t.latq = .lmov d a :: rest))) = true ∧
  (let s : State := (ts [] (fun t => { t with accs:=acc0,latq:=.ladd 0 1 2::[.lzero 9] }) 1);
    let r : TileId := 1;
    let rest : List LCmd := [.lzero 9];
    let t := s.tile r.val;
    decide (t.rst = false) && decide (t.latRun = none) && (let d := 1;
    let a := 2;
    decide (t.latq = .ladd 0 d a :: rest))) = true ∧
  (let s : State := (ts [] (fun t => { t with accs:=acc0,latq:=.ladd 1 1 2::[.lzero 9] }) 1);
    let r : TileId := 1;
    let rest : List LCmd := [.lzero 9];
    let t := s.tile r.val;
    decide (t.rst = false) && decide (t.latRun = none) && (let f := 1;
    let d := 1;
    let a := 2;
    decide (f ≠ 0) && decide (t.latq = .ladd f d a :: rest))) = true ∧
  (let s : State := (ts [] (fun t => { t with accs:=acc0,latq:=.lsel true 0 1 2::[.lzero 9] }) 1);
    let r : TileId := 1;
    let rest : List LCmd := [.lzero 9];
    let t := s.tile r.val;
    decide (t.rst = false) && decide (t.latRun = none) && (let mx := true;
    let d := 1;
    let a := 2;
    decide (t.latq = .lsel mx 0 d a :: rest))) = true ∧
  (let s : State := (ts [] (fun t => { t with accs:=acc0,latq:=.lsel true 1 1 2::[.lzero 9],compat:=0#32 }) 1);
    let r : TileId := 1;
    let rest : List LCmd := [.lzero 9];
    let t := s.tile r.val;
    decide (t.rst = false) && decide (t.latRun = none) && (let mx := true;
    let f := 1;
    let d := 1;
    let a := 2;
    decide (f ≠ 0) && decide (t.latq = .lsel mx f d a :: rest))) = true ∧
  (let s : State := (ts [] (fun t => { t with accs:=acc0,latq:=.lwid 0 1 ((List.range 16).map (fun i => i*17))::[.lzero 9] }) 1);
    let r : TileId := 1;
    let rest : List LCmd := [.lzero 9];
    let t := s.tile r.val;
    decide (t.rst = false) && decide (t.latRun = none) && (let f := 0;
    let d := 1;
    let xs := (List.range 16).map (fun i => i*17);
    decide (t.latq = .lwid f d xs :: rest))) = true := by
  decide +kernel

theorem wit_LatticeStart_2 :
  (let s : State := (ts [] (fun t => { t with accs:=acc0,latq:=.lcvt 0 true true 1 2 (0)::[.lzero 9] }) 1);
    let r : TileId := 1;
    let rest : List LCmd := [.lzero 9];
    let t := s.tile r.val;
    decide (t.rst = false) && decide (t.latRun = none) && (let f := 0;
    let sat := true;
    let int := true;
    let w := 1;
    let a := 2;
    let sc := 0;
    decide (t.latq = .lcvt f sat int w a sc :: rest))) = true ∧
  (let s : State := (ts [] (fun t => { t with accs:=acc0,latq:=.lvm 1 3 0 0 1::[.lzero 9] }) 1);
    let r : TileId := 1;
    let rest : List LCmd := [.lzero 9];
    let t := s.tile r.val;
    decide (t.rst = false) && decide (t.latRun = none) && (let f := 1;
    let d := 3;
    let ua := 0;
    let uw := 1;
    decide (t.latq = .lvm f d 0 ua uw :: rest))) = true ∧
  (let s : State := (ts [] (fun t => { t with accs:=acc0,latq:=.lvm 1 3 7 0 1::[.lzero 9] }) 1);
    let r : TileId := 1;
    let rest : List LCmd := [.lzero 9];
    let t := s.tile r.val;
    decide (t.rst = false) && decide (t.latRun = none) && (let f := 1;
    let d := 3;
    let n := 7;
    let ua := 0;
    let uw := 1;
    decide (n ≠ 0) && decide (t.latq = .lvm f d n ua uw :: rest))) = true ∧
  (let s : State := (ts [] (fun t => { t with accs:=acc0,latq:=.lpush 2 1 (0)::[.lzero 9],streams:=[(2,{act:=some (ds 4 0)})] }) 1);
    let r : TileId := 1;
    let rest : List LCmd := [.lzero 9];
    let t := s.tile r.val;
    decide (t.rst = false) && decide (t.latRun = none) && (let n := 2;
    let a := 1;
    let sc := 0;
    let d := (ds 4 0);
    decide (t.latq = .lpush n a sc :: rest) && decide ((t.unit n).pushRoom = some d))) = true := by
  decide +kernel

theorem wit_LatticeBlock :
  (let s : State := (ts [(1024,0x4E4E9C44#32),(1028,0xDE98C4CD#32),(1032,0x01020304#32),(1056,0x80FF7F02#32),(1064,0x4E4E9C44#32),(0x200,0x00030051#32),(0x204,0x00010203#32)] (fun t => { t with accs:=acc0,latRun:=some {f:=0,ad:=1,left:=1,ua:=0,uw:=1},streams:=[] }) 1);
    let r : TileId := 1;
    let v : LvmRun := {f:=0,ad:=1,left:=1,ua:=0,uw:=1};
    let t := s.tile r.val;
    decide (t.rst = false) && decide (t.latRun = some v) && decide (v.part = none) && (match t.gatherA v.ua with | .wait => true | _ => false)) = true ∧
  (let s : State := (ts [(1024,0x4E4E9C44#32),(1028,0xDE98C4CD#32),(1032,0x01020304#32),(1056,0x80FF7F02#32),(1064,0x4E4E9C44#32),(0x200,0x00030051#32),(0x204,0x00010203#32)] (fun t => { t with accs:=acc0,latRun:=some {f:=0,ad:=1,left:=1,ua:=0,uw:=1},streams:=[(0,{act:=some (ds 0 512 4 16)}),(1,{act:=some (ds 0 0x400 4 32)})] }) 1);
    let r : TileId := 1;
    let v : LvmRun := {f:=0,ad:=1,left:=1,ua:=0,uw:=1};
    let t := s.tile r.val;
    decide (t.rst = false) && decide (t.latRun = some v) && (let t1 : Tile := (dA (s.tile r.val) 0).1;
    let t2 : Tile := (dW (dA (s.tile r.val) 0).1 1 (dA (s.tile r.val) 0).2).1;
    let b0 := (dA (s.tile r.val) 0).2;
    let b := (dW (dA (s.tile r.val) 0).1 1 (dA (s.tile r.val) 0).2).2;
    decide (v.part = some b0 ∧ t1 = t ∨ v.part = none ∧ t.gatherA v.ua = .got t1 b0) && decide (t1.gatherW v.uw 16 b0 = (t2, b, none)) && decide (b.pos < 16))) = true ∧
  (let s : State := { tiles := [(1, { mem := cod [(0,0x01020304#32),(8,0xFEFF7F80#32)] [], accs := acc0, latRun := some ({ f := 0, ad := 1, left := 1, ua := 0, uw := 1, part := some ({ xs := [1,2,3,4,5,6,7,8,9,10,11,12,13,14,15,16], pos := 15, parts := [.vec 14 [3,4]], modes := [0,0] }) }), streams := [(1,{act:=some [(4, 1#32), (8, 16#32)]})] })], fields := [(0, fup)] };
    let r : TileId := 1;
    let v : LvmRun := { f := 0, ad := 1, left := 1, ua := 0, uw := 1, part := some ({ xs := [1,2,3,4,5,6,7,8,9,10,11,12,13,14,15,16], pos := 15, parts := [.vec 14 [3,4]], modes := [0,0] }) };
    let t := s.tile r.val;
    decide (t.rst = false) && decide (t.latRun = some v) && (let t1 : Tile := t;
    let b0 := { xs := [1,2,3,4,5,6,7,8,9,10,11,12,13,14,15,16], pos := 15, parts := [.vec 14 [3,4]], modes := [0,0] };
    let t2 : Tile := (dW t 1 b0).1;
    let b := (dW t 1 b0).2;
    decide (v.part = some b0 ∧ t1 = t ∨ v.part = none ∧ t.gatherA v.ua = .got t1 b0) && decide (t1.gatherW v.uw 16 b0 = (t2, b, none)) && decide (16 ≤ b.pos) && decide (oneMode b.modes = true))) = true ∧
  (let s : State := { tiles := [(1, { mem := cod [(0,0x01020304#32),(8,0xFEFF7F80#32)] [], accs := acc0, latRun := some ({ f := 0, ad := 1, left := 1, ua := 0, uw := 1, part := some ({ xs := [1,2,3,4,5,6,7,8,9,10,11,12,13,14,15,16], pos := 15, parts := [.vec 14 [3,4]], modes := [0,1] }) }), streams := [(1,{act:=some [(4, 1#32), (8, 16#32)]})] })], fields := [(0, fup)] };
    let r : TileId := 1;
    let v : LvmRun := { f := 0, ad := 1, left := 1, ua := 0, uw := 1, part := some ({ xs := [1,2,3,4,5,6,7,8,9,10,11,12,13,14,15,16], pos := 15, parts := [.vec 14 [3,4]], modes := [0,1] }) };
    let t := s.tile r.val;
    decide (t.rst = false) && decide (t.latRun = some v) && (let t1 : Tile := t;
    let b0 := { xs := [1,2,3,4,5,6,7,8,9,10,11,12,13,14,15,16], pos := 15, parts := [.vec 14 [3,4]], modes := [0,1] };
    let t2 : Tile := (dW t 1 b0).1;
    let b := (dW t 1 b0).2;
    decide (v.part = some b0 ∧ t1 = t ∨ v.part = none ∧ t.gatherA v.ua = .got t1 b0) && decide (t1.gatherW v.uw 16 b0 = (t2, b, none)) && decide (16 ≤ b.pos) && decide (oneMode b.modes = false))) = true := by
  decide +kernel

theorem wit_StreamInstructions :
  (let s : State := (ts [(0x100,0xDC010001#32)] (fun t => { t with pc:=256#32,streams:=[(1,{desc:=(ds 0 0 4 16),abort:=true,pos:=3#32})] }) 1);
    let r : TileId := 1;
    let f : Fields := fe s r.val;
    let len : Nat := le s r.val;
    let t := s.tile r.val;
    decide (s.issues r.val f len = true) && (let d := okd (sdCheck ((s.tile r.val).unit f.a).desc (s.tile r.val).origin);
    decide (f.mn = .sdgo) && isOk (sdCheck (t.unit f.a).desc t.origin) (d) && decide ((t.unit f.a).act = none))) = true ∧
  (let s : State := (ts [(0x100,0xDC010001#32)] (fun t => { t with pc:=256#32,streams:=[(1,{desc:=(ds 0 0 4 16),act:=some (ds 0 0),idx:=2})] }) 1);
    let r : TileId := 1;
    let f : Fields := fe s r.val;
    let len : Nat := le s r.val;
    let t := s.tile r.val;
    decide (s.issues r.val f len = true) && (let d := okd (sdCheck ((s.tile r.val).unit f.a).desc (s.tile r.val).origin);
    decide (f.mn = .sdgo) && isOk (sdCheck (t.unit f.a).desc t.origin) (d) && decide ((t.unit f.a).act ≠ none) && decide ((t.unit f.a).wait = none))) = true ∧
  (let s : State := (ts [(0x100,0xDC010001#32)] (fun t => { t with pc:=256#32,streams:=[(1,{desc:=(ds 0 0 4 16),act:=some (ds 0 0),wait:=some (ds 0 0)})] }) 1);
    let r : TileId := 1;
    let f : Fields := fe s r.val;
    let len : Nat := le s r.val;
    let t := s.tile r.val;
    decide (s.issues r.val f len = true) && (let d := okd (sdCheck ((s.tile r.val).unit f.a).desc (s.tile r.val).origin);
    decide (f.mn = .sdgo) && isOk (sdCheck (t.unit f.a).desc t.origin) (d) && decide ((t.unit f.a).act ≠ none) && decide ((t.unit f.a).wait ≠ none))) = true ∧
  (let s : State := (ts [(0x100,0xDC010001#32)] (fun t => { t with pc:=256#32,streams:=[(1,{desc:=(ds 7 0 4 16)})] }) 1);
    let r : TileId := 1;
    let f : Fields := fe s r.val;
    let len : Nat := le s r.val;
    let t := s.tile r.val;
    decide (s.issues r.val f len = true) && (let e := erd (sdCheck (t.unit f.a).desc t.origin);
    decide (f.mn = .sdgo) && isErr (sdCheck (t.unit f.a).desc t.origin) (e))) = true ∧
  (let s : State := (ts [(0x100,0xDC010002#32)] (fun t => { t with pc:=256#32,streams:=[(1,{desc:=[]})] }) 1);
    let r : TileId := 1;
    let f : Fields := fe s r.val;
    let len : Nat := le s r.val;
    let t := s.tile r.val;
    decide (s.issues r.val f len = true) && decide (f.mn = .sdwait) && decide ((t.unit f.a).act = none) && decide ((t.unit f.a).wait = none)) = true ∧
  (let s : State := (ts [(0x100,0xDC010002#32)] (fun t => { t with pc:=256#32,streams:=[(1,{desc:=[],act:=some (ds 0 0)})] }) 1);
    let r : TileId := 1;
    let f : Fields := fe s r.val;
    let len : Nat := le s r.val;
    let t := s.tile r.val;
    decide (s.issues r.val f len = true) && decide (f.mn = .sdwait) && decide ((t.unit f.a).act ≠ none ∨ (t.unit f.a).wait ≠ none)) = true ∧
  (let s : State := (ts [(0x100,0xDC610003#32)] (fun t => { t with pc:=256#32,streams:=[(1,{desc:=[],act:=some (ds 0 0),buf:=[.vec (List.range 16 |>.map (BitVec.ofNat 8))],sub:=0,pos:=9#32,nnz:=4#32})] }) 1);
    let r : TileId := 1;
    let f : Fields := fe s r.val;
    let len : Nat := le s r.val;
    let t := s.tile r.val;
    decide (s.issues r.val f len = true) && (let d := (ds 0 0);
    let l := (((s.tile r.val).unit f.a).takeImage.getD ([],{})).1;
    let x := (((s.tile r.val).unit f.a).takeImage.getD ([],{})).2;
    decide (f.mn = .vpop) && decide ((t.unit f.a).act = some d) && decide (Desc.dir d = false) && decide ((t.unit f.a).takeImage = some (l, x)))) = true := by
  decide +kernel

theorem wit_StreamUnits :
  (let s : State := (ts [(0,0x10001#32),(0x200,0x00010001#32),(0x204,0x12345678#32)] (fun t => { t with streams:=[(1,{act:=some (ds 0 0 4 16)})] }) 1);
    let r : TileId := 1;
    let k : UnitId := 1;
    let d : Desc := (ds 0 0 4 16);
    let t := s.tile r.val;
    let x := t.unit k.val;
    decide (t.rst = false) && decide (x.act = some d) && decide (x.paused = false) && (let t2 := (dF (s.tile r.val) k.val d).1;
    let i := (dF (s.tile r.val) k.val d).2;
    decide (Desc.dir d = false) && decide (x.idx < Desc.total d) && decide (bufLoad x.buf + (if Desc.mode d = 3 then 2 else 1) ≤ 8) && decide (Desc.mode d < 2 → t.skipLocked k.val = false) && decide (t.fetchItem k.val d = .item t2 i))) = true ∧
  (let s : State := (ts [(0,0x10001#32),(0x200,0x00010001#32),(0x204,0x12345678#32)] (fun t => { t with streams:=[(1,{act:=some (ds 4 512 3 16),res:=[List.range 16]})] }) 1);
    let r : TileId := 1;
    let k : UnitId := 1;
    let d : Desc := (ds 4 512 3 16);
    let t := s.tile r.val;
    let x := t.unit k.val;
    decide (t.rst = false) && decide (x.act = some d) && decide (x.paused = false) && (let l := List.range 16;
    let rest := [];
    decide (Desc.dir d = true) && decide (Desc.remote d = false) && decide (x.res = l :: rest))) = true ∧
  (let s : State := (ts [(0,0x10001#32),(0x200,0x00010001#32),(0x204,0x12345678#32)] (fun t => { t with streams:=[(1,{act:=some (ds 0 0 2),taken:=2,idx:=2})] }) 1);
    let r : TileId := 1;
    let k : UnitId := 1;
    let d : Desc := (ds 0 0 2);
    let t := s.tile r.val;
    let x := t.unit k.val;
    decide (t.rst = false) && decide (x.act = some d) && decide (x.paused = false) && decide (x.cmdDone = true) && decide (t.sendU ≠ some k.val)) = true := by
  decide +kernel

end W04

namespace W05
def cb : PCore := { pc := 0x100#64, xregs := [(1, 5#64),(2,0xFFFFFFFFFFFFFFFD#64),(3,0x200#64),(4,0x80000000FFFFFF85#64),(5,0x3F8000003F800000#64),(6,0x8000000000000000#64),(7,0x7F8000003FC00000#64)], ctl := [(0x800,1#64),(0x801,0x1000#64),(0x802,0x204#64),(0x803,5#64),(0x806,1#64),(0x808,0xF#64),(0x80A,2000#64)] }
def psx (l : List (Nat × W32)) (g : PCore → PCore) (h : Press → Press) (c k : Nat) : State := { busy with press := busy.press.map (fun e => if e.1 == c then (e.1, h { e.2 with scratch := cod l (cod [(0x200,0x81828384#32),(0x204,0x85868788#32),(0x208,0x11223344#32),(0x7FFF8,0x9#32)] []), cores := [(k, g cb)] ++ (if k < 3 then [(3,cb)] else []) }) else e) }
def pf (s : State) (c k : Nat) : State × Fields × Nat := match s.pressFetch c k with | .instr s' f _ n => (s',f,n) | _ => (s,{mn:=.limm},0)
def tro (x : State × Except (Nat × Nat) (Nat × Bool)) : State × Nat × Bool := match x with | (s,.ok (p,c)) => (s,p,c) | (s,_) => (s,0,false)
def mgx (l : List (Nat × W32)) (g : PCore → PCore) : State := { busy with press := [(16, { rst := false, hold := 0xE#32, ways := 32, scratch := cod l [], cores := [(0, g cb)] })] }
def idn (n : Nat) : Nat := if n = 5 then 5 else n
def sca (x : Target) : Nat := match x with | .scratch a => a | _ => 0
theorem wit_PressArithmetic :
  (let s : State := (psx [(0x100,0x1011001#32)] (fun q => { q with pc:=256#64 }) (fun x => x) 3 1);
    let s' : State := (pf s 3 1).1;
    let c : Nat := 3;
    let k : Nat := 1;
    let h : Hart := hh c k;
    let f : Fields := (pf s 3 1).2.1;
    let len : Nat := (pf s 3 1).2.2;
    pIssuesb s h c k s' f len && (Sys2Proof.Tables.press2).any (fun o =>
    decide (f.mn = o.2.1))) = true ∧
  (let s : State := (psx [(0x100,0x05230007#32)] (fun q => { q with pc:=256#64 }) (fun x => x) 3 1);
    let c : Nat := 3;
    let k : Nat := 1;
    let s' : State := (pf s c k).1;
    let h : Hart := hh c k;
    let f : Fields := (pf s c k).2.1;
    let len : Nat := (pf s c k).2.2;
    pIssuesb s h c k s' f len && (Sys2Proof.Tables.pressImm).any (fun o =>
    decide (f.mn = o.2.1))) = true := by
  decide +kernel

theorem wit_PressControlFlow :
  (let s : State := (psx [(0x100,0x60220004#32)] (fun q => { q with pc:=256#64 }) (fun x => x) 3 1);
    let s' : State := (pf s 3 1).1;
    let c : Nat := 3;
    let k : Nat := 1;
    let h : Hart := hh c k;
    let f : Fields := (pf s 3 1).2.1;
    let len : Nat := (pf s 3 1).2.2;
    pIssuesb s h c k s' f len && ([((.beq : Hart → Instr), Mn.beq, fun (a b : W64) => decide (a = b)), (.bne, .bne, fun a b => decide (a ≠ b)), (.blt, .blt, fun a b => decide (a.toInt < b.toInt)), (.bge, .bge, fun a b => decide (b.toInt ≤ a.toInt)), (.bltu, .bltu, fun a b => decide (a.toNat < b.toNat)), (.bgeu, .bgeu, fun a b => decide (b.toNat ≤ a.toNat))]).any (fun o =>
    decide (f.mn = o.2.1))) = true ∧
  (let s : State := (psx [(0x100,0x79200005#32)] (fun q => { q with pc:=256#64 }) (fun x => x) 3 1);
    let s' : State := (pf s 3 1).1;
    let c : Nat := 3;
    let k : Nat := 1;
    let h : Hart := hh c k;
    let f : Fields := (pf s 3 1).2.1;
    let len : Nat := (pf s 3 1).2.2;
    pIssuesb s h c k s' f len && decide (f.mn = .jal)) = true ∧
  (let s : State := (psx [(0x100,0x7D230000#32)] (fun q => { q with pc:=256#64 }) (fun x => x) 3 1);
    let s' : State := (pf s 3 1).1;
    let c : Nat := 3;
    let k : Nat := 1;
    let h : Hart := hh c k;
    let f : Fields := (pf s 3 1).2.1;
    let len : Nat := (pf s 3 1).2.2;
    let q := s'.core c k;
    pIssuesb s h c k s' f len && decide (f.mn = .jalr) && decide ((q.x f.a + f.imm.signExtend 64).toNat % 4 = 0)) = true := by
  decide +kernel

theorem wit_PressLoads :
  (([((.lw : Hart → Instr), Mn.lw, 4, fun (x : Nat) => (BitVec.ofNat 32 x).signExtend 64), (.lh, .lh, 2, fun x => (BitVec.ofNat 16 x).signExtend 64), (.lhu, .lhu, 2, fun x => BitVec.ofNat 64 x), (.lb, .lb, 1, fun x => (BitVec.ofNat 8 x).signExtend 64), (.lbu, .lbu, 1, fun x => BitVec.ofNat 64 x), (.ld, .ld, 8, fun x => BitVec.ofNat 64 x)]).any (fun o =>
    let s : State := (psx [(0x100,0x31230000#32),(0x10000,0x11001#32),(0x10004,0x0#32),(0x11000,0x12001#32),(0x11004,0x0#32),(0x12000,0x13001#32),(0x12004,0x0#32),(0x13000,0x1B#32),(0x13004,0x0#32),(0x13008,0xF#32),(0x1300C,0x0#32),(0x13010,0x13#32),(0x13014,0x0#32),(0x12008,0xF#32),(0x1200C,0x0#32)] (fun q => { q with pc:=256#64 }) (fun x => x) 3 1);
    let s' : State := (pf s 3 1).1;
    let s2 : State := (tro ((pf s 3 1).1.translate 3 1 (((pf s 3 1).1.core 3 1).x (pf s 3 1).2.1.a + (pf s 3 1).2.1.imm.signExtend 64) .load)).1;
    let c : Nat := 3;
    let k : Nat := 1;
    let h : Hart := hh c k;
    let f : Fields := (pf s 3 1).2.1;
    let len : Nat := (pf s 3 1).2.2;
    let pa : Nat := (tro ((pf s 3 1).1.translate 3 1 (((pf s 3 1).1.core 3 1).x (pf s 3 1).2.1.a + (pf s 3 1).2.1.imm.signExtend 64) .load)).2.1;
    let a : Nat := sca (((tro ((pf s 3 1).1.translate 3 1 (((pf s 3 1).1.core 3 1).x (pf s 3 1).2.1.a + (pf s 3 1).2.1.imm.signExtend 64) .load)).1.prs 3).target (tro ((pf s 3 1).1.translate 3 1 (((pf s 3 1).1.core 3 1).x (pf s 3 1).2.1.a + (pf s 3 1).2.1.imm.signExtend 64) .load)).2.1 4);
    let ca : Bool := (tro ((pf s 3 1).1.translate 3 1 (((pf s 3 1).1.core 3 1).x (pf s 3 1).2.1.a + (pf s 3 1).2.1.imm.signExtend 64) .load)).2.2;
    let va := (s'.core c k).x f.a + f.imm.signExtend 64;
    pIssuesb s h c k s' f len && decide (f.mn = o.2.1) && decide (va.toNat % o.2.2.1 = 0) && decide ((s'.translate c k va .load).1 = s2) && isOk (s'.translate c k va .load).2 ((pa, ca)) && decide ((s2.prs c).target pa o.2.2.1 = .scratch a) && decide ((s2.prs c).scratchUe a o.2.2.1 = false))) = true := by
  decide +kernel

theorem wit_PressStores :
  (let s : State := (psx [(0x100,0x44830000#32),(0x10000,0x11001#32),(0x10004,0x0#32),(0x11000,0x12001#32),(0x11004,0x0#32),(0x12000,0x13001#32),(0x12004,0x0#32),(0x13000,0x1B#32),(0x13004,0x0#32),(0x13008,0xF#32),(0x1300C,0x0#32),(0x13010,0x13#32),(0x13014,0x0#32),(0x12008,0xF#32),(0x1200C,0x0#32)] (fun q => { q with pc:=256#64 }) (fun x => x) 3 1);
    let s' : State := (pf s 3 1).1;
    let s2 : State := (tro ((pf s 3 1).1.translate 3 1 (((pf s 3 1).1.core 3 1).x (pf s 3 1).2.1.a + (pf s 3 1).2.1.imm.signExtend 64) .store)).1;
    let c : Nat := 3;
    let k : Nat := 1;
    let h : Hart := hh c k;
    let f : Fields := (pf s 3 1).2.1;
    let len : Nat := (pf s 3 1).2.2;
    let pa : Nat := (tro ((pf s 3 1).1.translate 3 1 (((pf s 3 1).1.core 3 1).x (pf s 3 1).2.1.a + (pf s 3 1).2.1.imm.signExtend 64) .store)).2.1;
    let a : Nat := sca (((tro ((pf s 3 1).1.translate 3 1 (((pf s 3 1).1.core 3 1).x (pf s 3 1).2.1.a + (pf s 3 1).2.1.imm.signExtend 64) .store)).1.prs 3).target (tro ((pf s 3 1).1.translate 3 1 (((pf s 3 1).1.core 3 1).x (pf s 3 1).2.1.a + (pf s 3 1).2.1.imm.signExtend 64) .store)).2.1 4);
    let ca : Bool := (tro ((pf s 3 1).1.translate 3 1 (((pf s 3 1).1.core 3 1).x (pf s 3 1).2.1.a + (pf s 3 1).2.1.imm.signExtend 64) .store)).2.2;
    let va : W64 := (((pf s 3 1).1.core 3 1).x (pf s 3 1).2.1.a + (pf s 3 1).2.1.imm.signExtend 64);
    let q := s'.core c k;
    let x := s2.prs c;
    pIssuesb s h c k s' f len && decide ((s'.translate c k va .store).1 = s2) && isOk (s'.translate c k va .store).2 ((pa, ca)) && ([((.sw : Hart → Instr), Mn.sw, 4), (.sh, .sh, 2), (.sb, .sb, 1), (.sd, .sd, 8)]).any (fun o =>
    decide (f.mn = o.2.1) && decide (va = q.x f.a + f.imm.signExtend 64) && decide (va.toNat % o.2.2 = 0) && decide (x.target pa o.2.2 = .scratch a) && decide (o.2.2 < 8 → x.scratchUe a o.2.2 = false))) = true ∧
  (let s : State := (psx [(0x100,0xE1230008#32),(0x10000,0x11001#32),(0x10004,0x0#32),(0x11000,0x12001#32),(0x11004,0x0#32),(0x12000,0x13001#32),(0x12004,0x0#32),(0x13000,0x1B#32),(0x13004,0x0#32),(0x13008,0xF#32),(0x1300C,0x0#32),(0x13010,0x13#32),(0x13014,0x0#32),(0x12008,0xF#32),(0x1200C,0x0#32)] (fun q => { q with pc:=256#64 }) (fun x => x) 3 1);
    let s' : State := (pf s 3 1).1;
    let s2 : State := (tro ((pf s 3 1).1.translate 3 1 (((pf s 3 1).1.core 3 1).x (pf s 3 1).2.1.a) .store)).1;
    let c : Nat := 3;
    let k : Nat := 1;
    let h : Hart := hh c k;
    let f : Fields := (pf s 3 1).2.1;
    let len : Nat := (pf s 3 1).2.2;
    let pa : Nat := (tro ((pf s 3 1).1.translate 3 1 (((pf s 3 1).1.core 3 1).x (pf s 3 1).2.1.a) .store)).2.1;
    let a : Nat := sca (((tro ((pf s 3 1).1.translate 3 1 (((pf s 3 1).1.core 3 1).x (pf s 3 1).2.1.a) .store)).1.prs 3).target (tro ((pf s 3 1).1.translate 3 1 (((pf s 3 1).1.core 3 1).x (pf s 3 1).2.1.a) .store)).2.1 8);
    let ca : Bool := (tro ((pf s 3 1).1.translate 3 1 (((pf s 3 1).1.core 3 1).x (pf s 3 1).2.1.a) .store)).2.2;
    let va : W64 := (((pf s 3 1).1.core 3 1).x (pf s 3 1).2.1.a);
    let q := s'.core c k;
    let x := s2.prs c;
    pIssuesb s h c k s' f len && decide ((s'.translate c k va .store).1 = s2) && isOk (s'.translate c k va .store).2 ((pa, ca)) && ([((.atswp : Hart → Instr), Mn.atswp, fun (_ b : W64) => b), (.atadd, .atadd, fun m b => m + b)]).any (fun o =>
    decide (f.mn = o.2.1) && decide (va = q.x f.a) && decide (va.toNat % 8 = 0) && decide (x.target pa 8 = .scratch a) && decide (x.scratchUe a 8 = false))) = true := by
  decide +kernel

theorem wit_PressAccessTraps :
  (([((.lw : Hart → Instr), Mn.lw, 4, Acc.load), (.lh, .lh, 2, .load), (.lhu, .lhu, 2, .load), (.lb, .lb, 1, .load), (.lbu, .lbu, 1, .load), (.ld, .ld, 8, .load), (.sw, .sw, 4, .store), (.sh, .sh, 2, .store), (.sb, .sb, 1, .store), (.sd, .sd, 8, .store), (.atswp, .atswp, 8, .store), (.atadd, .atadd, 8, .store)]).any (fun o =>
    let s : State := (psx [(256,0x31210000#32)] (fun q => { q with pc:=256#64 }) (fun x => x) 3 1);
    let c : Nat := 3;
    let k : Nat := 1;
    let s' : State := (pf s c k).1;
    let h : Hart := hh c k;
    let f : Fields := (pf s c k).2.1;
    let len : Nat := (pf s c k).2.2;
    let q := s'.core c k;
    let n := o.2.2.1;
    let va := if f.mn = .atswp ∨ f.mn = .atadd then q.x f.a else q.x f.a + f.imm.signExtend 64;
    pIssuesb s h c k s' f len && decide (f.mn = o.2.1) && decide (va.toNat % n ≠ 0))) = true ∧
  (([((.lw : Hart → Instr), Mn.lw, 4, Acc.load), (.lh, .lh, 2, .load), (.lhu, .lhu, 2, .load), (.lb, .lb, 1, .load), (.lbu, .lbu, 1, .load), (.ld, .ld, 8, .load), (.sw, .sw, 4, .store), (.sh, .sh, 2, .store), (.sb, .sb, 1, .store), (.sd, .sd, 8, .store), (.atswp, .atswp, 8, .store), (.atadd, .atadd, 8, .store)]).any (fun o =>
    let s : State := (psx [(256,0x31260000#32)] (fun q => { q with pc:=256#64 }) (fun x => x) 3 1);
    let c : Nat := 3;
    let k : Nat := 1;
    let s' : State := (pf s c k).1;
    let s2 : State := s';
    let h : Hart := hh c k;
    let f : Fields := (pf s c k).2.1;
    let len : Nat := (pf s c k).2.2;
    let code : Nat := 3;
    let detail : Nat := 0x10;
    let q := s'.core c k;
    let n := o.2.2.1;
    let va := if f.mn = .atswp ∨ f.mn = .atadd then q.x f.a else q.x f.a + f.imm.signExtend 64;
    pIssuesb s h c k s' f len && decide (f.mn = o.2.1) && decide (va.toNat % n = 0) && decide ((s'.translate c k va o.2.2.2).1 = s2) && isErr (s'.translate c k va o.2.2.2).2 ((code, detail)))) = true ∧
  (([((.lw : Hart → Instr), Mn.lw, 4, Acc.load), (.lh, .lh, 2, .load), (.lhu, .lhu, 2, .load), (.lb, .lb, 1, .load), (.lbu, .lbu, 1, .load), (.ld, .ld, 8, .load), (.sw, .sw, 4, .store), (.sh, .sh, 2, .store), (.sb, .sb, 1, .store), (.sd, .sd, 8, .store), (.atswp, .atswp, 8, .store), (.atadd, .atadd, 8, .store)]).any (fun o =>
    let s : State := (psx [(256,0x31210000#32)] (fun q => { q with pc:=256#64,xregs:=[(1,0x900000#64)] }) (fun x => x) 3 1);
    let c : Nat := 3;
    let k : Nat := 1;
    let s' : State := (pf s c k).1;
    let s2 : State := s';
    let h : Hart := hh c k;
    let f : Fields := (pf s c k).2.1;
    let len : Nat := (pf s c k).2.2;
    let pa : Nat := 0x900000;
    let ca : Bool := false;
    let q := s'.core c k;
    let n := o.2.2.1;
    let va := if f.mn = .atswp ∨ f.mn = .atadd then q.x f.a else q.x f.a + f.imm.signExtend 64;
    pIssuesb s h c k s' f len && decide (f.mn = o.2.1) && decide (va.toNat % n = 0) && decide ((s'.translate c k va o.2.2.2).1 = s2) && isOk (s'.translate c k va o.2.2.2).2 ((pa, ca)) && decide ((s2.prs c).target pa n = .none))) = true ∧
  (([((.lw : Hart → Instr), Mn.lw, 4, Acc.load), (.lh, .lh, 2, .load), (.lhu, .lhu, 2, .load), (.lb, .lb, 1, .load), (.lbu, .lbu, 1, .load), (.ld, .ld, 8, .load), (.sw, .sw, 4, .store), (.sh, .sh, 2, .store), (.sb, .sb, 1, .store), (.sd, .sd, 8, .store), (.atswp, .atswp, 8, .store), (.atadd, .atadd, 8, .store)]).any (fun o =>
    let s : State := (psx [(256,0x31230000#32)] (fun q => { q with pc:=256#64 }) (fun x => { x with scratchBad := [0x200] }) 3 1);
    let c : Nat := 3;
    let k : Nat := 1;
    let s' : State := (pf s c k).1;
    let s2 : State := s';
    let h : Hart := hh c k;
    let f : Fields := (pf s c k).2.1;
    let len : Nat := (pf s c k).2.2;
    let pa : Nat := 0x200;
    let a : Nat := 0x200;
    let ca : Bool := false;
    let q := s'.core c k;
    let n := o.2.2.1;
    let va := if f.mn = .atswp ∨ f.mn = .atadd then q.x f.a else q.x f.a + f.imm.signExtend 64;
    pIssuesb s h c k s' f len && decide (f.mn = o.2.1) && decide (va.toNat % n = 0) && decide ((s'.translate c k va o.2.2.2).1 = s2) && isOk (s'.translate c k va o.2.2.2).2 ((pa, ca)) && decide ((s2.prs c).target pa n = .scratch a) && decide ((s2.prs c).scratchUe a n = true) && decide (f.mn ≠ .sd))) = true := by
  decide +kernel

theorem wit_PressWindows :
  (let s : State := (psx [(256,0x31210000#32)] (fun q => { q with pc:=256#64,xregs:=[(1,0x800C05000100#64)] }) (fun x => x) 3 1);
    let c : Nat := 3;
    let k : Nat := 1;
    let s' : State := (pf s c k).1;
    let s2 : State := s';
    let h : Hart := hh c k;
    let f : Fields := (pf s c k).2.1;
    let len : Nat := (pf s c k).2.2;
    let pa : Nat := 0x800C05000100;
    let kind : Nat := 0;
    let n : Nat := ((s'.prs c).freeTags).headD 0;
    let ns : List Nat := ((s'.prs c).freeTags).tail;
    let g : Ga := { space := 0, plate := 0x7FF, y := 3, x := 5, off := 0x100 };
    let q := s'.core c k;
    let va := q.x f.a + f.imm.signExtend 64;
    let x := s2.prs c;
    let r := gateRouter c;
    let key := if q.lvl = .m then bits (x.ckeyOf k) 11 0 else bits (x.ckeyOf k) 27 16;
    pIssuesb s h c k s' f len && decide (va.toNat % 4 = 0) && decide (x.target pa 4 = .win kind g) && decide (kind < 6) && decide (q.lvl ≠ .u ∨ kind = 0) && decide (g.bad 4 = false) && decide (x.keyOk key = true) && decide (x.freeTags = n :: ns) && decide (s2.entryShut r .gate = false) && decide (s2.canInject r .gate 0 = true) && decide (f.mn = .lw) && decide ((s'.translate c k va .load).1 = s2) && isOk (s'.translate c k va .load).2 ((pa, false)) && decide (g.off % 4 = 0)) = true ∧
  (let s : State := (psx [(256,0x45210000#32)] (fun q => { q with pc:=256#64,xregs:=[(1,0x800C05000100#64)] }) (fun x => x) 3 1);
    let c : Nat := 3;
    let k : Nat := 1;
    let s' : State := (pf s c k).1;
    let s2 : State := s';
    let h : Hart := hh c k;
    let f : Fields := (pf s c k).2.1;
    let len : Nat := (pf s c k).2.2;
    let pa : Nat := 0x800C05000100;
    let kind : Nat := 0;
    let n : Nat := ((s'.prs c).freeTags).headD 0;
    let ns : List Nat := ((s'.prs c).freeTags).tail;
    let g : Ga := { space := 0, plate := 0x7FF, y := 3, x := 5, off := 0x100 };
    let q := s'.core c k;
    let va := q.x f.a + f.imm.signExtend 64;
    let x := s2.prs c;
    let r := gateRouter c;
    let key := if q.lvl = .m then bits (x.ckeyOf k) 11 0 else bits (x.ckeyOf k) 27 16;
    pIssuesb s h c k s' f len && decide (va.toNat % 4 = 0) && decide (x.target pa 4 = .win kind g) && decide (kind < 6) && decide (q.lvl ≠ .u ∨ kind = 0) && decide (g.bad 4 = false) && decide (x.keyOk key = true) && decide (x.freeTags = n :: ns) && decide (s2.entryShut r .gate = false) && decide (s2.canInject r .gate 0 = true) && (let ca := false;
    decide (f.mn = .sw) && decide ((s'.translate c k va .store).1 = s2) && isOk (s'.translate c k va .store).2 ((pa, ca)))) = true := by
  decide +kernel

theorem wit_PressControlRegisters_1 :
  (let s : State := (psx [(256,0xB9200000#32)] (fun q => { q with pc:=256#64 }) (fun x => x) 3 1);
    let c : Nat := 3;
    let k : Nat := 1;
    let s' : State := (pf s c k).1;
    let h : Hart := hh c k;
    let f : Fields := (pf s c k).2.1;
    let len : Nat := (pf s c k).2.2;
    let q := s'.core c k;
    let n := f.imm.toNat;
    let low := if n / 256 = 0 then 0 else if n / 256 = 4 then 1 else 2;
    let pass := bits (q.ctlReg 0x807) 47 32;
    let mask := (q.ctlReg 0x808).toNat;
    pIssuesb s h c k s' f len && decide (f.mn = .pcrr) && decide (low ≤ q.lvl.code) && ([(0, s'.time), (1, if c = 16 then Config.mgmtCoreId else BitVec.ofNat 64 (4 * c + k)), (0x809, BitVec.ofNat 64 (s'.ipend c k)), (0x409, BitVec.ofNat 64 (s'.ipend c k &&& pass)), (0x408, BitVec.ofNat 64 (mask &&& pass))]).any (fun o =>
    decide (n = o.1))) = true ∧
  (let s : State := (psx [(0x100,0xB9200800#32)] (fun q => { q with pc:=256#64 }) (fun x => x) 3 1);
    let s' : State := (pf s 3 1).1;
    let c : Nat := 3;
    let k : Nat := 1;
    let h : Hart := hh c k;
    let f : Fields := (pf s 3 1).2.1;
    let len : Nat := (pf s 3 1).2.2;
    let q := s'.core c k;
    let n := f.imm.toNat;
    let low := if n / 256 = 0 then 0 else if n / 256 = 4 then 1 else 2;
    pIssuesb s h c k s' f len && decide (f.mn = .pcrr) && decide (low ≤ q.lvl.code) && decide (n ≠ 0x408) && decide (ctlMask n ≠ none)) = true ∧
  (let s : State := (psx [(0x100,0xBC020800#32)] (fun q => { q with pc:=256#64 }) (fun x => x) 3 1);
    let s' : State := (pf s 3 1).1;
    let c : Nat := 3;
    let k : Nat := 1;
    let h : Hart := hh c k;
    let f : Fields := (pf s 3 1).2.1;
    let len : Nat := (pf s 3 1).2.2;
    let q := s'.core c k;
    let n := f.imm.toNat;
    let v := q.x f.a;
    let low := if n / 256 = 0 then 0 else if n / 256 = 4 then 1 else 2;
    pIssuesb s h c k s' f len && (let m : W64 := (ctlMask f.imm.toNat).getD 0;
    decide (f.mn = .pcrw) && decide (low ≤ q.lvl.code) && decide (ctlMask n = some m) && decide (n ≠ 0x408) && decide (n = 0x803 ∨ n = 0x403 → bits v 1 0 ≠ 3))) = true ∧
  (let s : State := (psx [(256,0xBC010803#32)] (fun q => { q with pc:=256#64,xregs:=[(1,7#64)] }) (fun x => x) 3 1);
    let c : Nat := 3;
    let k : Nat := 1;
    let s' : State := (pf s c k).1;
    let h : Hart := hh c k;
    let f : Fields := (pf s c k).2.1;
    let len : Nat := (pf s c k).2.2;
    let q := s'.core c k;
    let n := f.imm.toNat;
    let v := q.x f.a;
    let low := if n / 256 = 0 then 0 else if n / 256 = 4 then 1 else 2;
    pIssuesb s h c k s' f len && decide (f.mn = .pcrw) && decide (low ≤ q.lvl.code) && decide (n = 0x803 ∨ n = 0x403) && decide (bits v 1 0 = 3)) = true ∧
  (let s : State := (psx [(256,0xBC010408#32)] (fun q => { q with pc:=256#64 }) (fun x => x) 3 1);
    let c : Nat := 3;
    let k : Nat := 1;
    let s' : State := (pf s c k).1;
    let h : Hart := hh c k;
    let f : Fields := (pf s c k).2.1;
    let len : Nat := (pf s c k).2.2;
    let q := s'.core c k;
    let n := f.imm.toNat;
    pIssuesb s h c k s' f len && decide (f.mn = .pcrw) && decide (1 ≤ q.lvl.code) && decide (n = 0x408)) = true := by
  decide +kernel

theorem wit_PressControlRegisters_2 :
  (let s : State := (psx [(0x100,0xB8000800#32)] (fun q => { q with pc:=256#64,lvl:=.s }) (fun x => x) 3 1);
    let s' : State := (pf s 3 1).1;
    let c : Nat := 3;
    let k : Nat := 1;
    let h : Hart := hh c k;
    let f : Fields := (pf s 3 1).2.1;
    let len : Nat := (pf s 3 1).2.2;
    let q := s'.core c k;
    let n := f.imm.toNat;
    let low := if n / 256 = 0 then 0 else if n / 256 = 4 then 1 else 2;
    pIssuesb s h c k s' f len && decide (f.mn = .pcrr) && decide (q.lvl.code < low ∨ ctlMask n = none ∧ n ∉ [0, 1, 0x409, 0x809])) = true ∧
  (let s : State := (psx [(256,0xBC010800#32)] (fun q => { q with pc:=256#64,lvl:=.u }) (fun x => x) 3 1);
    let c : Nat := 3;
    let k : Nat := 1;
    let s' : State := (pf s c k).1;
    let h : Hart := hh c k;
    let f : Fields := (pf s c k).2.1;
    let len : Nat := (pf s c k).2.2;
    let q := s'.core c k;
    let n := f.imm.toNat;
    let low := if n / 256 = 0 then 0 else if n / 256 = 4 then 1 else 2;
    pIssuesb s h c k s' f len && decide (f.mn = .pcrw) && decide (q.lvl.code < low ∨ ctlMask n = none)) = true := by
  decide +kernel

theorem wit_PressTraps :
  (let s : State := (psx [(0x100,0xE0000001#32)] (fun q => { q with pc:=256#64,lvl:=.m,ctl:=[(0x800,0#64),(0x801,0x1000#64),(0x807,0xFFFF#64),(0x803,5#64),(0x805,9#64)] }) (fun x => x) 3 1);
    let s' : State := (pf s 3 1).1;
    let c : Nat := 3;
    let k : Nat := 1;
    let h : Hart := hh c k;
    let f : Fields := (pf s 3 1).2.1;
    let len : Nat := (pf s 3 1).2.2;
    pIssuesb s h c k s' f len && decide (f.mn = .sysc)) = true ∧
  (let s : State := (psx [(0x100,0xB0000000#32)] (fun q => { q with pc:=256#64,lvl:=.m,ctl:=[(0x800,0#64),(0x801,0x1000#64),(0x807,0xFFFF#64),(0x803,5#64),(0x805,9#64)] }) (fun x => x) 3 1);
    let s' : State := (pf s 3 1).1;
    let c : Nat := 3;
    let k : Nat := 1;
    let h : Hart := hh c k;
    let f : Fields := (pf s 3 1).2.1;
    let len : Nat := (pf s 3 1).2.2;
    pIssuesb s h c k s' f len && decide (f.mn = .brk)) = true ∧
  (let s : State := (psx [(256,0xE0000002#32)] (fun q => { q with pc:=256#64,lvl:=.u }) (fun x => x) 3 1);
    let c : Nat := 3;
    let k : Nat := 1;
    let s' : State := (pf s c k).1;
    let h : Hart := hh c k;
    let f : Fields := (pf s c k).2.1;
    let len : Nat := (pf s c k).2.2;
    let q := s'.core c k;
    pIssuesb s h c k s' f len && ([((.tret : Hart → Instr), Mn.tret), (.idle, .idle), (.xlinv, .xlinv), (.cinvall, .cinvall), (.barrive, .barrive), (.barwait, .barwait), (.bartest, .bartest)]).any (fun o =>
    decide (f.mn = o.2) && decide (q.lvl = .u))) = true := by
  decide +kernel

theorem wit_PressSystem_1 :
  (let s : State := (psx [(0x100,0xE0000002#32)] (fun q => { q with pc:=256#64,lvl:=.m,ctl:=[(0x803,0#64),(0x802,0x204#64),(0x403,0#64),(0x402,0x304#64)] }) (fun x => x) 3 1);
    let s' : State := (pf s 3 1).1;
    let c : Nat := 3;
    let k : Nat := 1;
    let h : Hart := hh c k;
    let f : Fields := (pf s 3 1).2.1;
    let len : Nat := (pf s 3 1).2.2;
    let q := s'.core c k;
    pIssuesb s h c k s' f len && (let b := (idn 0x800);
    decide (f.mn = .tret) && decide (q.lvl = .m ∧ b = 0x800 ∨ q.lvl = .s ∧ b = 0x400))) = true ∧
  (let s : State := (psx [(0x100,0xE0000003#32)] (fun q => { q with pc:=256#64,lvl:=.m,ctl:=[(0x808,2#64)] }) (fun x => x) 3 1);
    let s' : State := (pf s 3 1).1;
    let c : Nat := 3;
    let k : Nat := 1;
    let h : Hart := hh c k;
    let f : Fields := (pf s 3 1).2.1;
    let len : Nat := (pf s 3 1).2.2;
    let q := s'.core c k;
    pIssuesb s h c k s' f len && decide (f.mn = .idle) && decide (q.lvl ≠ .u) && decide (s'.ipend c k &&& (q.ctlReg 0x808).toNat ≠ 0)) = true ∧
  (let s : State := (psx [(256,0xE0000003#32)] (fun q => { q with pc:=256#64,ctl:=[] }) (fun x => x) 3 1);
    let c : Nat := 3;
    let k : Nat := 1;
    let s' : State := (pf s c k).1;
    let h : Hart := hh c k;
    let f : Fields := (pf s c k).2.1;
    let len : Nat := (pf s c k).2.2;
    let q := s'.core c k;
    pIssuesb s h c k s' f len && decide (f.mn = .idle) && decide (q.lvl ≠ .u) && decide (s'.ipend c k &&& (q.ctlReg 0x808).toNat = 0)) = true ∧
  (let s : State := (psx [(0x100,0xE0000004#32)] (fun q => { q with pc:=256#64 }) (fun x => x) 3 1);
    let s' : State := (pf s 3 1).1;
    let c : Nat := 3;
    let k : Nat := 1;
    let h : Hart := hh c k;
    let f : Fields := (pf s 3 1).2.1;
    let len : Nat := (pf s 3 1).2.2;
    let q := s'.core c k;
    let x := s'.prs c;
    pIssuesb s h c k s' f len && decide (f.mn = .pfence) && decide (q.latch = none) && decide (q.fence.getD (x.openC0 k) = [])) = true ∧
  (let s : State := (psx [(256,0xE0000004#32)] (fun q => { q with pc:=256#64 }) (fun x => { x with tags:=[(2,{core:=1,word:=none,ch:=0,ga:=1#64})] }) 3 1);
    let c : Nat := 3;
    let k : Nat := 1;
    let s' : State := (pf s c k).1;
    let h : Hart := hh c k;
    let f : Fields := (pf s c k).2.1;
    let len : Nat := (pf s c k).2.2;
    let q := s'.core c k;
    let x := s'.prs c;
    pIssuesb s h c k s' f len && decide (f.mn = .pfence) && decide (q.latch = none) && decide (q.fence.getD (x.openC0 k) ≠ [])) = true ∧
  (let s : State := (psx [(256,0xE0000004#32)] (fun q => { q with pc:=256#64,latch:=some (3,7#64) }) (fun x => x) 3 1);
    let c : Nat := 3;
    let k : Nat := 1;
    let s' : State := (pf s c k).1;
    let h : Hart := hh c k;
    let f : Fields := (pf s c k).2.1;
    let len : Nat := (pf s c k).2.2;
    let q := s'.core c k;
    pIssuesb s h c k s' f len && (let st := 3;
    let ga := 7#64;
    decide (f.mn = .pfence) && decide (q.latch = some (st, ga)))) = true := by
  decide +kernel

theorem wit_PressSystem_2 :
  (let s : State := (psx [(0x100,0xE0000005#32)] (fun q => { q with pc:=256#64,lvl:=.m,tlb:=[{va:=0,size:=4096,xid:=0,ent:=1#64},{va:=4096,size:=4096,xid:=0,ent:=1#64}] }) (fun x => x) 3 1);
    let s' : State := (pf s 3 1).1;
    let c : Nat := 3;
    let k : Nat := 1;
    let h : Hart := hh c k;
    let f : Fields := (pf s 3 1).2.1;
    let len : Nat := (pf s 3 1).2.2;
    let q := s'.core c k;
    pIssuesb s h c k s' f len && decide (f.mn = .xlinv) && decide (q.lvl ≠ .u)) = true ∧
  (let s : State := (psx [(256,0xE0030006#32)] (fun q => { q with pc:=256#64,lvl:=.m,l2:=[(8,{b:=[1#8]}),(9,{})] }) (fun x => { x with l3:=[(8,{}),(7,{b:=[2#8]})] }) 3 1);
    let c : Nat := 3;
    let k : Nat := 1;
    let s' : State := (pf s c k).1;
    let h : Hart := hh c k;
    let f : Fields := (pf s c k).2.1;
    let len : Nat := (pf s c k).2.2;
    let q := s'.core c k;
    pIssuesb s h c k s' f len && (let s2 := s';
    let pa := 0x200;
    let ca := false;
    decide (f.mn = .cinv) && decide ((s'.translate c k (q.x f.a) .load).1 = s2) && isOk (s'.translate c k (q.x f.a) .load).2 ((pa, ca)))) = true ∧
  (let s : State := (psx [(256,0xE0060006#32)] (fun q => { q with pc:=256#64,lvl:=.m,l2:=[(8,{b:=[1#8]}),(9,{})] }) (fun x => { x with l3:=[(8,{}),(7,{b:=[2#8]})] }) 3 1);
    let c : Nat := 3;
    let k : Nat := 1;
    let s' : State := (pf s c k).1;
    let h : Hart := hh c k;
    let f : Fields := (pf s c k).2.1;
    let len : Nat := (pf s c k).2.2;
    let q := s'.core c k;
    pIssuesb s h c k s' f len && (let s2 := s';
    let code := 3;
    let detail := 0x10;
    decide (f.mn = .cinv) && decide ((s'.translate c k (q.x f.a) .load).1 = s2) && isErr (s'.translate c k (q.x f.a) .load).2 ((code, detail)))) = true ∧
  (let s : State := (psx [(256,0xE0000007#32)] (fun q => { q with pc:=256#64,lvl:=.m,l2:=[(8,{b:=[1#8]}),(9,{})] }) (fun x => { x with l3:=[(8,{}),(7,{b:=[2#8]})] }) 3 1);
    let c : Nat := 3;
    let k : Nat := 1;
    let s' : State := (pf s c k).1;
    let h : Hart := hh c k;
    let f : Fields := (pf s c k).2.1;
    let len : Nat := (pf s c k).2.2;
    let q := s'.core c k;
    pIssuesb s h c k s' f len && decide (f.mn = .cinvall) && decide (q.lvl ≠ .u)) = true := by
  decide +kernel

theorem wit_PressBarriers_1 :
  (let s : State := (mgx [(256,0xA0010000#32)] (fun q => { q with pc:=256#64 }));
    let c : Nat := 16;
    let k : Nat := 0;
    let s' : State := (pf s c k).1;
    let h : Hart := hh c k;
    let f : Fields := (pf s c k).2.1;
    let len : Nat := (pf s c k).2.2;
    let q := s'.core c k;
    let rows := [((.barrive : Hart → Instr), Mn.barrive), (.barwait, .barwait), (.bartest, .bartest)];
    pIssuesb s h c k s' f len && decide (q.lvl ≠ .u) && decide (c = mgmtUnit) && (rows).any (fun o =>
    decide (f.mn = o.2))) = true ∧
  (let s : State := (psx [(256,0xA0030000#32)] (fun q => { q with pc:=256#64,xregs:=[(3,16384#64)],pend:=[(0,{valid:=true,sent:=true,id:=5,released:=true}),(1,{valid:=true,sent:=true,id:=7})] }) (fun x => x) 3 1);
    let c : Nat := 3;
    let k : Nat := 1;
    let s' : State := (pf s c k).1;
    let h : Hart := hh c k;
    let f : Fields := (pf s c k).2.1;
    let len : Nat := (pf s c k).2.2;
    let q := s'.core c k;
    let i := (q.x f.a + f.imm.setWidth 64).toNat % 2 ^ 32;
    let rows := [((.barrive : Hart → Instr), Mn.barrive), (.barwait, .barwait), (.bartest, .bartest)];
    pIssuesb s h c k s' f len && decide (q.lvl ≠ .u) && decide (c ≠ mgmtUnit) && Nat.ble 16384 i && (rows).any (fun o =>
    decide (f.mn = o.2))) = true ∧
  (let s : State := (psx [(0x100,0xA0010000#32)] (fun q => { q with pc:=256#64,xregs:=[(1,0#64)],pend:=[(0,{valid:=true,sent:=true,id:=5,released:=true}),(1,{valid:=true,sent:=true,id:=7})] }) (fun x => { x with tags:=[(2,{core:=1,word:=none,ch:=0,ga:=1#64}),(9,{core:=1,word:=none,ch:=0,ga:=1#64})] }) 3 1);
    let s' : State := (pf s 3 1).1;
    let c : Nat := 3;
    let k : Nat := 1;
    let h : Hart := hh c k;
    let f : Fields := (pf s 3 1).2.1;
    let len : Nat := (pf s 3 1).2.2;
    let n : Nat := 2;
    let q := s'.core c k;
    let i := (q.x f.a + f.imm.setWidth 64).toNat % 2 ^ 32;
    pIssuesb s h c k s' f len && decide (q.lvl ≠ .u) && decide (c ≠ mgmtUnit) && Nat.blt i 16384 && decide (f.mn = .barrive) && decide (q.pendOf i = none) && decide (q.pendFree = some n) && decide (q.arrivals = []) && decide ((s'.prs c).openC0 k ≠ [])) = true ∧
  (let s : State := (psx [(256,0xA0010000#32)] (fun q => { q with pc:=256#64,xregs:=[(1,0#64)],pend:=[(0,{valid:=true,sent:=true,id:=5,released:=true}),(1,{valid:=true,sent:=true,id:=7})] }) (fun x => x) 3 1);
    let c : Nat := 3;
    let k : Nat := 1;
    let s' : State := (pf s c k).1;
    let h : Hart := hh c k;
    let f : Fields := (pf s c k).2.1;
    let len : Nat := (pf s c k).2.2;
    let n : Nat := 2;
    let q := s'.core c k;
    let i := (q.x f.a + f.imm.setWidth 64).toNat % 2 ^ 32;
    let r := gateRouter c;
    pIssuesb s h c k s' f len && decide (q.lvl ≠ .u) && decide (c ≠ mgmtUnit) && Nat.blt i 16384 && decide (f.mn = .barrive) && decide (q.pendOf i = none) && decide (q.pendFree = some n) && decide (q.arrivals = []) && decide ((s'.prs c).openC0 k = []) && decide (s'.entryShut r .gate = false) && decide (s'.canInject r .gate 3 = true)) = true ∧
  (let s : State := (psx [(256,0xA0010000#32)] (fun q => { q with pc:=256#64,xregs:=[(1,5#64)],pend:=[(0,{valid:=true,sent:=true,id:=5,released:=true}),(1,{valid:=true,sent:=true,id:=7})] }) (fun x => x) 3 1);
    let c : Nat := 3;
    let k : Nat := 1;
    let s' : State := (pf s c k).1;
    let h : Hart := hh c k;
    let f : Fields := (pf s c k).2.1;
    let len : Nat := (pf s c k).2.2;
    let n : Nat := 0;
    let q := s'.core c k;
    let i := (q.x f.a + f.imm.setWidth 64).toNat % 2 ^ 32;
    pIssuesb s h c k s' f len && decide (q.lvl ≠ .u) && decide (c ≠ mgmtUnit) && Nat.blt i 16384 && decide (f.mn = .barrive) && decide (q.pendOf i = some n)) = true := by
  decide +kernel

theorem wit_PressBarriers_2 :
  (let s : State := (psx [(256,0xA0010000#32)] (fun q => { q with pc:=256#64,xregs:=[(1,0#64)],pend:=(List.range 16).map (fun i => (i,{valid:=true,sent:=true,id:=i+20})) }) (fun x => x) 3 1);
    let c : Nat := 3;
    let k : Nat := 1;
    let s' : State := (pf s c k).1;
    let h : Hart := hh c k;
    let f : Fields := (pf s c k).2.1;
    let len : Nat := (pf s c k).2.2;
    let q := s'.core c k;
    let i := (q.x f.a + f.imm.setWidth 64).toNat % 2 ^ 32;
    pIssuesb s h c k s' f len && decide (q.lvl ≠ .u) && decide (c ≠ mgmtUnit) && Nat.blt i 16384 && decide (f.mn = .barrive) && decide (q.pendOf i = none) && decide (q.pendFree = none)) = true ∧
  (let s : State := (psx [(256,0xA4010000#32)] (fun q => { q with pc:=256#64,xregs:=[(1,0#64)],pend:=[(0,{valid:=true,sent:=true,id:=5,released:=true}),(1,{valid:=true,sent:=true,id:=7})] }) (fun x => x) 3 1);
    let c : Nat := 3;
    let k : Nat := 1;
    let s' : State := (pf s c k).1;
    let h : Hart := hh c k;
    let f : Fields := (pf s c k).2.1;
    let len : Nat := (pf s c k).2.2;
    let q := s'.core c k;
    let i := (q.x f.a + f.imm.setWidth 64).toNat % 2 ^ 32;
    pIssuesb s h c k s' f len && decide (q.lvl ≠ .u) && decide (c ≠ mgmtUnit) && Nat.blt i 16384 && ([((.barwait : Hart → Instr), Mn.barwait), (.bartest, .bartest)]).any (fun o =>
    decide (f.mn = o.2) && decide (q.pendOf i = none))) = true ∧
  (let s : State := (psx [(0x100,0xA4010000#32)] (fun q => { q with pc:=256#64,xregs:=[(1,5#64)],pend:=[(0,{valid:=true,sent:=true,id:=5,released:=true}),(1,{valid:=true,sent:=true,id:=7})] }) (fun x => x) 3 1);
    let s' : State := (pf s 3 1).1;
    let c : Nat := 3;
    let k : Nat := 1;
    let h : Hart := hh c k;
    let f : Fields := (pf s 3 1).2.1;
    let len : Nat := (pf s 3 1).2.2;
    let n : Nat := 0;
    let q := s'.core c k;
    let i := (q.x f.a + f.imm.setWidth 64).toNat % 2 ^ 32;
    pIssuesb s h c k s' f len && decide (q.lvl ≠ .u) && decide (c ≠ mgmtUnit) && Nat.blt i 16384 && decide (f.mn = .barwait) && decide (q.pendOf i = some n) && decide (q.latch = none) && decide ((sget {} q.pend n).released = true)) = true ∧
  (let s : State := (psx [(0x100,0xA4010000#32)] (fun q => { q with pc:=256#64,xregs:=[(1,7#64)],pend:=[(0,{valid:=true,sent:=true,id:=5,released:=true}),(1,{valid:=true,sent:=true,id:=7})] }) (fun x => x) 3 1);
    let s' : State := (pf s 3 1).1;
    let c : Nat := 3;
    let k : Nat := 1;
    let h : Hart := hh c k;
    let f : Fields := (pf s 3 1).2.1;
    let len : Nat := (pf s 3 1).2.2;
    let n : Nat := 1;
    let q := s'.core c k;
    let i := (q.x f.a + f.imm.setWidth 64).toNat % 2 ^ 32;
    pIssuesb s h c k s' f len && decide (q.lvl ≠ .u) && decide (c ≠ mgmtUnit) && Nat.blt i 16384 && decide (f.mn = .barwait) && decide (q.pendOf i = some n) && decide (q.latch = none) && decide ((sget {} q.pend n).released = false)) = true ∧
  (let s : State := (psx [(256,0xA4010000#32)] (fun q => { q with pc:=256#64,xregs:=[(1,5#64)],latch:=some (3,7#64),pend:=[(0,{valid:=true,sent:=true,id:=5,released:=true}),(1,{valid:=true,sent:=true,id:=7})] }) (fun x => x) 3 1);
    let c : Nat := 3;
    let k : Nat := 1;
    let s' : State := (pf s c k).1;
    let h : Hart := hh c k;
    let f : Fields := (pf s c k).2.1;
    let len : Nat := (pf s c k).2.2;
    let n : Nat := 0;
    let q := s'.core c k;
    let i := (q.x f.a + f.imm.setWidth 64).toNat % 2 ^ 32;
    pIssuesb s h c k s' f len && decide (q.lvl ≠ .u) && decide (c ≠ mgmtUnit) && Nat.blt i 16384 && (let st := 3;
    let ga := 7#64;
    decide (f.mn = .barwait) && decide (q.pendOf i = some n) && decide (q.latch = some (st, ga)))) = true := by
  decide +kernel

theorem wit_PressBarriers_3 :
  (let s : State := (psx [(0x100,0xA9210000#32)] (fun q => { q with pc:=256#64,xregs:=[(1,5#64)],pend:=[(0,{valid:=true,sent:=true,id:=5,released:=true}),(1,{valid:=true,sent:=true,id:=7})] }) (fun x => x) 3 1);
    let s' : State := (pf s 3 1).1;
    let c : Nat := 3;
    let k : Nat := 1;
    let h : Hart := hh c k;
    let f : Fields := (pf s 3 1).2.1;
    let len : Nat := (pf s 3 1).2.2;
    let n : Nat := 0;
    let q := s'.core c k;
    let i := (q.x f.a + f.imm.setWidth 64).toNat % 2 ^ 32;
    pIssuesb s h c k s' f len && decide (q.lvl ≠ .u) && decide (c ≠ mgmtUnit) && Nat.blt i 16384 && decide (f.mn = .bartest) && decide (q.pendOf i = some n) && decide ((sget {} q.pend n).released = true)) = true ∧
  (let s : State := (psx [(0x100,0xA9210000#32)] (fun q => { q with pc:=256#64,xregs:=[(1,7#64)],pend:=[(0,{valid:=true,sent:=true,id:=5,released:=true}),(1,{valid:=true,sent:=true,id:=7})] }) (fun x => x) 3 1);
    let s' : State := (pf s 3 1).1;
    let c : Nat := 3;
    let k : Nat := 1;
    let h : Hart := hh c k;
    let f : Fields := (pf s 3 1).2.1;
    let len : Nat := (pf s 3 1).2.2;
    let n : Nat := 1;
    let q := s'.core c k;
    let i := (q.x f.a + f.imm.setWidth 64).toNat % 2 ^ 32;
    pIssuesb s h c k s' f len && decide (q.lvl ≠ .u) && decide (c ≠ mgmtUnit) && Nat.blt i 16384 && decide (f.mn = .bartest) && decide (q.pendOf i = some n) && decide ((sget {} q.pend n).released = false)) = true := by
  decide +kernel

end W05

namespace W06
def tl (g : Tile → Tile) (r : Nat := 1) : State := { busy with tiles := [(0, til), (r, g til)] ++ (if r < 9600 then [(9600, til)] else []) }
def un : SUnit := { desc := [(1, 5#32)], act := some [(1, 5#32)], pauseReq := true, paused := true, idx := 3 }
theorem wit_TileCommands :
  (let s : State := (tl (fun t => { t with rst:=false,state:=.stopped,streams:=[(0,un),(3,{})],stepping:=true,stopping:=true }));
    let p : Party := .pressS;
    let r : TileId := 1;
    let t := s.tile r.val;
    decide (t.rst = false) && decide (p = .pressS ∨ p = .pressM) && decide (t.state = .stopped ∨ t.state = .halted)) = true ∧
  (let s : State := (tl (fun t => { t with rst:=false,state:=.faulted,stopping:=true }));
    let p : Party := .pressS;
    let r : TileId := 1;
    let t := s.tile r.val;
    decide (t.rst = false) && decide (p = .pressS ∨ p = .pressM) && decide (t.state = .faulted)) = true ∧
  (let s : State := (tl (fun t => { t with rst:=false,state:=.running,stopping:=false,blk:=none,waiting:=true }));
    let p : Party := .pressS;
    let r : TileId := 1;
    let t := s.tile r.val;
    decide (t.rst = false) && decide (p = .pressS ∨ p = .pressM) && decide (t.state = .running) && decide (t.stopping = false)) = true ∧
  (let s : State := (tl (fun t => { t with rst:=false,state:=.running,stopping:=true,blk:=none,waiting:=true }));
    let p : Party := .pressS;
    let r : TileId := 1;
    let t := s.tile r.val;
    decide (t.rst = false) && decide (p = .pressS ∨ p = .pressM) && decide (t.state = .running) && decide (t.stopping = true)) = true ∧
  (let s : State := (tl (fun t => { t with rst:=false,state:=.stopped }));
    let p : Party := .wardenFw;
    let r : TileId := 1;
    let t := s.tile r.val;
    decide (t.rst = false) && decide (p ≠ .pressS) && decide (p ≠ .pressM) && ([Instr.run p r, .stop p r, .stepCmd p r, .clrf p r]).any (fun c =>
    true)) = true := by
  decide +kernel

theorem wit_TileStopCompletes :
  (let s : State := (tl (fun t => { t with rst:=false,stopping:=true,stepping:=true,streams:=[] }));
    let r : TileId := 1;
    let t := s.tile r.val;
    decide (t.rst = false) && decide (t.state = .running) && decide (t.stopping = true) && decide (t.blk = none) && decide (t.sendCh = none) && decide (t.latq = []) && decide (t.latRun = none)) = true ∧
  (let s : State := (tl (fun t => { t with rst:=false,stopping:=true,blk:=some {kind:=.rlw,rd:=3,npc:=44#32,ga:=7#64,pkt:={h:={}},limit:=0xC540#32} }));
    let r : TileId := 1;
    let t := s.tile r.val;
    decide (t.rst = false) && decide (t.blk ≠ none ∨ t.sendCh ≠ none ∨ t.latq ≠ [] ∨ t.latRun ≠ none)) = true := by
  decide +kernel

theorem wit_TileRegisterWrites_1 :
  (let s : State := (tl (fun t => { t with rst:=false,state:=.stopped }));
    let p : Party := .pressM;
    let r : TileId := 1;
    let v : W32 := 0#32;
    let t := s.tile r.val;
    let idle := (p = .pressS ∨ p = .pressM) ∧ t.state ≠ .running;
    decide (t.rst = false) && decide (idle) && decide (bit v 2 = bit t.compat 2)) = true ∧
  (let s : State := (tl (fun t => { t with rst:=false,state:=.stopped }));
    let r : TileId := 1;
    let v : W32 := 0xFFFFFFFF#32;
    let t := s.tile r.val;
    decide (t.rst = false) && decide (bit v 2 ≠ bit t.compat 2) && decide (∃ q : Fin 4, t.queue q.val ≠ [])) = true ∧
  (let s : State := (tl (fun t => { t with rst:=false,state:=.stopped }));
    let p : Party := .pressM;
    let r : TileId := 1;
    let v : W32 := 0#32;
    let t := s.tile r.val;
    let idle := (p = .pressS ∨ p = .pressM) ∧ t.state ≠ .running;
    decide (t.rst = false) && decide (idle) && decide (originBad (v &&& 0x03FFFFFF#32) = false)) = true ∧
  (let s : State := (tl (fun t => { t with rst:=false,state:=.stopped }));
    let r : TileId := 1;
    let v : W32 := 1#32;
    let t := s.tile r.val;
    decide (t.rst = false) && decide (originBad (v &&& 0x03FFFFFF#32) = true)) = true ∧
  (let s : State := (tl (fun t => { t with rst:=false,state:=.stopped }));
    let p : Party := .pressM;
    let r : TileId := 1;
    let t := s.tile r.val;
    let idle := (p = .pressS ∨ p = .pressM) ∧ t.state ≠ .running;
    decide (t.rst = false) && decide (idle)) = true ∧
  (let s : State := (tl id);
    let p : Party := .pressS;
    let r : TileId := 1;
    let v : W32 := 0xFFFFFFFF#32;
    let t := s.tile r.val;
    decide (t.rst = false) && decide (p = .pressS ∨ p = .pressM ∨ p = .tileSelf) && decide (bits v 11 8 ≤ bits v 15 12)) = true ∧
  (let s : State := (tl (fun t => { t with rst:=false,state:=.stopped }));
    let r : TileId := 1;
    let v : W32 := 0x1200#32;
    let t := s.tile r.val;
    decide (t.rst = false) && decide (bits v 15 12 < bits v 11 8)) = true ∧
  (let s : State := (tl (fun t => { t with rst:=false,state:=.stopped }));
    let p : Party := .pressM;
    let r : TileId := 1;
    let t := s.tile r.val;
    let idle := (p = .pressS ∨ p = .pressM) ∧ t.state ≠ .running;
    decide (t.rst = false) && (let n := 0;
    decide (idle) && decide (n < 32))) = true := by
  decide +kernel

theorem wit_TileRegisterWrites_2 :
  (let s : State := (tl (fun t => { t with rst:=false,state:=.stopped }));
    let p : Party := .pressM;
    let r : TileId := 1;
    let t := s.tile r.val;
    let idle := (p = .pressS ∨ p = .pressM) ∧ t.state ≠ .running;
    decide (t.rst = false) && (let n := default;
    let k := default;
    decide (idle) && decide (n < 16) && decide (k < 8))) = true ∧
  (let s : State := (tl (fun t => { t with rst:=false,state:=.stopped }));
    let p : Party := .pressM;
    let r : TileId := 1;
    let t := s.tile r.val;
    let idle := (p = .pressS ∨ p = .pressM) ∧ t.state ≠ .running;
    decide (t.rst = false) && (let k := default;
    decide (idle) && decide (k < 16))) = true ∧
  (let s : State := (tl (fun t => { t with rst:=false,state:=.stopped }));
    let p : Party := .pressM;
    let r : TileId := 1;
    let t := s.tile r.val;
    let idle := (p = .pressS ∨ p = .pressM) ∧ t.state ≠ .running;
    decide (t.rst = false) && (let n := 0;
    decide (idle) && decide (n < 0x300))) = true ∧
  (let p : Party := .pressM;
    let r : TileId := 1;
    let v : W32 := 0x12345678#32;
    let s : State := (tl (fun t => { t with rst:=false,state:=.stopped,queues:=[(0,List.replicate 0 {v:=1#32})],compat:=0#32 }));
    let t := s.tile r.val;
    let idle := (p = .pressS ∨ p = .pressM) ∧ t.state ≠ .running;
    decide (t.rst = false) && (let q : QNum := 0;
    decide (idle) && decide ((t.queue q.val).length < (if bit t.compat 2 then 8 else 16)))) = true ∧
  (let r : TileId := 1;
    let v : W32 := 0x12345678#32;
    let s : State := (tl (fun t => { t with rst:=false,state:=.stopped,queues:=[(0,List.replicate 16 {v:=1#32})],compat:=0#32 }));
    let t := s.tile r.val;
    decide (t.rst = false) && (let q : QNum := 0;
    decide ((if bit t.compat 2 then 8 else 16) ≤ (t.queue q.val).length))) = true ∧
  (let s : State := (tl (fun t => { t with rst:=false,state:=.stopped,arrivals:=[15,3,0] }));
    let p : Party := .pressM;
    let r : TileId := 1;
    let v : W32 := 0xFFFFFFFF#32;
    let t := s.tile r.val;
    let idle := (p = .pressS ∨ p = .pressM) ∧ t.state ≠ .running;
    decide (t.rst = false) && decide (idle) && decide (v.getLsbD 31 = false ∨ v.getLsbD 29 = true)) = true ∧
  (let s : State := (tl (fun t => { t with rst:=false,state:=.stopped }));
    let r : TileId := 1;
    let v : W32 := 0x80000000#32;
    let t := s.tile r.val;
    decide (t.rst = false) && decide (v.getLsbD 31 = true) && decide (v.getLsbD 29 = false)) = true ∧
  (let s : State := (tl (fun t => { t with rst:=false,state:=.stopped }));
    let p : Party := .wardenFw;
    let r : TileId := 1;
    let v : W32 := 0xFFFFFFFF#32;
    let t := s.tile r.val;
    let idle := (p = .pressS ∨ p = .pressM) ∧ t.state ≠ .running;
    decide (t.rst = false) && decide (¬idle) && ([Instr.tileCompatWrite p r v, .tileOriginWrite p r v, .tilePcWrite p r v, .regWindowWrite p r 0x84 v, .feWindowWrite p r 0x20000 v, .tileQpush p r 0 v, .pendingEntryWrite p r 0 v]).any (fun c =>
    true)) = true := by
  decide +kernel

theorem wit_TileRegisterReads :
  (let s : State := (tl (fun t => { t with rst:=false,state:=.stopped }));
    let p : Party := .pressM;
    let r : TileId := 1;
    let q : QNum := 0;
    let t := s.tile r.val;
    decide (t.rst = false) && (let w := {v:=3#32};
    let ws := [];
    decide (p = .pressS ∨ p = .pressM) && decide (t.state ≠ .running) && decide (t.queue q.val = w :: ws))) = true ∧
  (let s : State := (tl (fun t => { t with rst:=false,state:=.stopped }));
    let p : Party := .pressM;
    let r : TileId := 1;
    let q : QNum := 3;
    let t := s.tile r.val;
    decide (t.rst = false) && decide (p = .pressS ∨ p = .pressM) && decide (t.state ≠ .running) && decide (t.queue q.val = [])) = true ∧
  (let s : State := (tl (fun t => { t with rst:=false,state:=.stopped }));
    let p : Party := .wardenFw;
    let r : TileId := 1;
    let t := s.tile r.val;
    decide (t.rst = false) && decide ((p ≠ .pressS ∧ p ≠ .pressM) ∨ t.state = .running)) = true ∧
  (let s : State := (tl (fun t => { t with rst:=false,state:=.stopped }));
    let r : TileId := 1;
    let t := s.tile r.val;
    decide (t.rst = false)) = true := by
  decide +kernel

theorem wit_TileScrubbing :
  (let s : State := (tl (fun t => { t with rst:=false,wb:=[5,7],upset:=[(5,.ce)] }));
    let r : TileId := 1;
    let t := s.tile r.val;
    decide (t.rst = false) && (let k := 5;
    let ks := [7];
    decide (t.wb = k :: ks))) = true ∧
  (let s : State := { (tl (fun t => { t with rst:=false,upset:=[(9,.ce)],eccCe:=0,eccUe:=0 })) with fields := [(0,{fup with burnCtl:=0x11#32,burnPos:=[(1,0)],burnCe:=0,burnUec:=0})] };
    let r : TileId := 1;
    let t := s.tile r.val;
    let f := fieldOf r.val;
    let c := s.fld f;
    let n := sget 0 c.burnPos (s.phys r.val);
    decide (t.rst = false) && decide (c.rst = false) && decide (bit c.burnCtl 0 = true) && decide (n + 1 < 24576) && decide (sget .good t.upset n = .good)) = true ∧
  (let s : State := { (tl (fun t => { t with rst:=false,upset:=[(3,.ce),(4,.ue)],eccCe:=0,eccUe:=0 })) with fields := [(0,{fup with burnCtl:=0x11#32,burnPos:=[(1,3)],burnCe:=0,burnUec:=0})] };
    let r : TileId := 1;
    let t := s.tile r.val;
    let f := fieldOf r.val;
    let c := s.fld f;
    let n := sget 0 c.burnPos (s.phys r.val);
    decide (t.rst = false) && decide (c.rst = false) && decide (bit c.burnCtl 0 = true) && decide (n + 1 < 24576) && decide (sget .good t.upset n = .ce)) = true ∧
  (let s : State := { (tl (fun t => { t with rst:=false,upset:=[(3,.ue),(4,.ue)],eccCe:=0,eccUe:=0 })) with fields := [(0,{fup with burnCtl:=0x11#32,burnPos:=[(1,3)],burnCe:=0,burnUec:=0})] };
    let r : TileId := 1;
    let t := s.tile r.val;
    let f := fieldOf r.val;
    let c := s.fld f;
    let n := sget 0 c.burnPos (s.phys r.val);
    decide (t.rst = false) && decide (c.rst = false) && decide (bit c.burnCtl 0 = true) && decide (n + 1 < 24576) && decide (sget .good t.upset n = .ue)) = true := by
  decide +kernel

theorem wit_MemoryRequests :
  (let s : State := inb ((tl (fun t => { t with rst:=false }))) 1 .loc 0 ({ h := { op := 1, ch := 0, payload := 0#32, off := 0, sx := 3, sy := 5, splate := 9, pkey := 77, tag := 63, long := false }, ws := [], gen := 0 });
    let r : TileId := 1;
    let q : Packet := { h := { op := 1, ch := 0, payload := 0#32, off := 0, sx := 3, sy := 5, splate := 9, pkey := 77, tag := 63, long := false }, ws := [], gen := 0 };
    let t := s.tile r.val;
    let n := bits q.h.payload 26 0;
    decide (t.rst = false) && decide (s.front r.val .loc 0 = some q) && decide (s.canInject r.val .loc 1 = true) && decide (q.h.op = 0x01) && decide (sget .good t.upset n ≠ .ue)) = true ∧
  (let s : State := inb ((tl (fun t => { t with rst:=false,upset:=[(3,.ue)],eccUe:=0 }))) 1 .loc 0 ({ h := { op := 1, ch := 0, payload := 3#32, off := 0, sx := 3, sy := 5, splate := 9, pkey := 77, tag := 63, long := false }, ws := [], gen := 0 });
    let r : TileId := 1;
    let q : Packet := { h := { op := 1, ch := 0, payload := 3#32, off := 0, sx := 3, sy := 5, splate := 9, pkey := 77, tag := 63, long := false }, ws := [], gen := 0 };
    let t := s.tile r.val;
    let n := bits q.h.payload 26 0;
    decide (t.rst = false) && decide (s.front r.val .loc 0 = some q) && decide (s.canInject r.val .loc 1 = true) && decide (q.h.op = 0x01) && decide (sget .good t.upset n = .ue)) = true ∧
  (let s : State := inb ((tl (fun t => { t with rst:=false }))) 1 .loc 0 ({ h := { op := 8, ch := 0, payload := 0#32, off := 0, sx := 3, sy := 5, splate := 9, pkey := 77, tag := 63, long := false }, ws := [], gen := 0 });
    let r : TileId := 1;
    let q : Packet := { h := { op := 8, ch := 0, payload := 0#32, off := 0, sx := 3, sy := 5, splate := 9, pkey := 77, tag := 63, long := false }, ws := [], gen := 0 };
    let t := s.tile r.val;
    decide (t.rst = false) && decide (s.front r.val .loc 0 = some q) && decide (s.canInject r.val .loc 1 = true) && decide (q.h.op = 0x08) && decide (q.h.off % 4 = 0)) = true ∧
  (let s : State := inb ((tl (fun t => { t with rst:=false }))) 1 .loc 0 ({ h := { op := 14, ch := 0, payload := 0#32, off := 0, sx := 3, sy := 5, splate := 9, pkey := 77, tag := 63, long := false }, ws := [], gen := 0 });
    let r : TileId := 1;
    let q : Packet := { h := { op := 14, ch := 0, payload := 0#32, off := 0, sx := 3, sy := 5, splate := 9, pkey := 77, tag := 63, long := false }, ws := [], gen := 0 };
    let t := s.tile r.val;
    let w := q.h.off / 4;
    decide (t.rst = false) && decide (s.front r.val .loc 0 = some q) && decide (s.canInject r.val .loc 1 = true) && ([(Instr.wrH r, 0x0E, 2), (.wrB r, 0x0F, 1)]).any (fun o =>
    decide (q.h.op = o.2.1) && decide (q.h.off % o.2.2 = 0) && decide (sget .good t.upset w ≠ .ue))) = true ∧
  (let s : State := inb ((tl (fun t => { t with rst:=false,upset:=[(0,.ue)] }))) 1 .loc 0 ({ h := { op := 14, ch := 0, payload := 0#32, off := 0, sx := 3, sy := 5, splate := 9, pkey := 77, tag := 63, long := false }, ws := [], gen := 0 });
    let r : TileId := 1;
    let q : Packet := { h := { op := 14, ch := 0, payload := 0#32, off := 0, sx := 3, sy := 5, splate := 9, pkey := 77, tag := 63, long := false }, ws := [], gen := 0 };
    let t := s.tile r.val;
    let w := q.h.off / 4;
    decide (t.rst = false) && decide (s.front r.val .loc 0 = some q) && decide (s.canInject r.val .loc 1 = true) && ([(Instr.wrH r, 0x0E, 2), (.wrB r, 0x0F, 1)]).any (fun o =>
    decide (q.h.op = o.2.1) && decide (q.h.off % o.2.2 = 0) && decide (sget .good t.upset w = .ue))) = true := by
  decide +kernel

theorem wit_FullEmptyRequests :
  (let s : State := inb ((tl (fun t => { t with rst:=false,waiters:=[] }))) 1 .loc 0 ({ h := { op := 7, ch := 0, payload := 3#32, off := 0, sx := 3, sy := 5, splate := 9, pkey := 77, tag := 63, long := false }, ws := [], gen := 0 });
    let r : TileId := 1;
    let q : Packet := { h := { op := 7, ch := 0, payload := 3#32, off := 0, sx := 3, sy := 5, splate := 9, pkey := 77, tag := 63, long := false }, ws := [], gen := 0 };
    let t := s.tile r.val;
    let n := bits q.h.payload 26 0;
    decide (t.rst = false) && decide (s.front r.val .loc 0 = some q) && decide (s.canInject r.val .loc 1 = true) && decide (q.h.op = 0x07) && decide (sget .good t.upset n = .good) && decide (sget false t.full n = true) && decide (t.waiters = [])) = true ∧
  (let s : State := inb ((tl (fun t => { t with rst:=false,waiters:=List.replicate 0 (.parked true 9 0#32 {} .loc 0) }))) 1 .loc 0 ({ h := { op := 7, ch := 0, payload := 4#32, off := 0, sx := 3, sy := 5, splate := 9, pkey := 77, tag := 63, long := false }, ws := [], gen := 0 });
    let r : TileId := 1;
    let q : Packet := { h := { op := 7, ch := 0, payload := 4#32, off := 0, sx := 3, sy := 5, splate := 9, pkey := 77, tag := 63, long := false }, ws := [], gen := 0 };
    let t := s.tile r.val;
    let n := bits q.h.payload 26 0;
    decide (t.rst = false) && decide (s.front r.val .loc 0 = some q) && decide (s.canInject r.val .loc 1 = true) && decide (q.h.op = 0x07) && decide (sget .good t.upset n = .good) && decide (sget false t.full n = false) && decide (t.parked < 4)) = true ∧
  (let s : State := inb ((tl (fun t => { t with rst:=false,waiters:=List.replicate 4 (.parked true 9 0#32 {} .loc 0) }))) 1 .loc 0 ({ h := { op := 7, ch := 0, payload := 4#32, off := 0, sx := 3, sy := 5, splate := 9, pkey := 77, tag := 63, long := false }, ws := [], gen := 0 });
    let r : TileId := 1;
    let q : Packet := { h := { op := 7, ch := 0, payload := 4#32, off := 0, sx := 3, sy := 5, splate := 9, pkey := 77, tag := 63, long := false }, ws := [], gen := 0 };
    let t := s.tile r.val;
    let n := bits q.h.payload 26 0;
    decide (t.rst = false) && decide (s.front r.val .loc 0 = some q) && decide (s.canInject r.val .loc 1 = true) && decide (q.h.op = 0x07) && decide (sget .good t.upset n = .good) && decide (sget false t.full n = false) && decide (4 ≤ t.parked)) = true ∧
  (let s : State := inb ((tl (fun t => { t with rst:=false,waiters:=[],upset:=[(3,.ue)] }))) 1 .loc 0 ({ h := { op := 7, ch := 0, payload := 3#32, off := 0, sx := 3, sy := 5, splate := 9, pkey := 77, tag := 63, long := false }, ws := [], gen := 0 });
    let r : TileId := 1;
    let q : Packet := { h := { op := 7, ch := 0, payload := 3#32, off := 0, sx := 3, sy := 5, splate := 9, pkey := 77, tag := 63, long := false }, ws := [], gen := 0 };
    let t := s.tile r.val;
    let n := bits q.h.payload 26 0;
    decide (t.rst = false) && decide (s.front r.val .loc 0 = some q) && decide (s.canInject r.val .loc 1 = true) && decide (q.h.op = 0x07) && decide (sget .good t.upset n = .ue)) = true ∧
  (let s : State := inb ((tl (fun t => { t with rst:=false,waiters:=[],upset:=[(9,.ce)],wb:=[4,2] }))) 1 .loc 0 ({ h := { op := 16, ch := 0, payload := 0#32, off := 16, sx := 3, sy := 5, splate := 9, pkey := 77, tag := 63, long := true }, ws := [0x01020304#32], gen := 0 });
    let r : TileId := 1;
    let q : Packet := { h := { op := 16, ch := 0, payload := 0#32, off := 16, sx := 3, sy := 5, splate := 9, pkey := 77, tag := 63, long := true }, ws := [0x01020304#32], gen := 0 };
    let t := s.tile r.val;
    let m := q.h.off / 4;
    decide (t.rst = false) && decide (s.front r.val .loc 0 = some q) && decide (s.canInject r.val .loc 1 = true) && decide (q.h.op = 0x10) && decide (sget .good t.upset m = .good) && decide (sget false t.full m = false) && decide (t.waiters = [])) = true ∧
  (let s : State := inb ((tl (fun t => { t with rst:=false,waiters:=List.replicate 0 (.parked true 9 0#32 {} .loc 0) }))) 1 .loc 0 ({ h := { op := 16, ch := 0, payload := 0#32, off := 12, sx := 3, sy := 5, splate := 9, pkey := 77, tag := 63, long := true }, ws := [4#32], gen := 0 });
    let r : TileId := 1;
    let q : Packet := { h := { op := 16, ch := 0, payload := 0#32, off := 12, sx := 3, sy := 5, splate := 9, pkey := 77, tag := 63, long := true }, ws := [4#32], gen := 0 };
    let t := s.tile r.val;
    let m := q.h.off / 4;
    decide (t.rst = false) && decide (s.front r.val .loc 0 = some q) && decide (s.canInject r.val .loc 1 = true) && decide (q.h.op = 0x10) && decide (sget .good t.upset m = .good) && decide (sget false t.full m = true) && decide (t.parked < 4)) = true ∧
  (let s : State := inb ((tl (fun t => { t with rst:=false,waiters:=List.replicate 4 (.parked true 9 0#32 {} .loc 0),full:=[(3,true)] }))) 1 .loc 0 ({ h := { op := 16, ch := 0, payload := 0#32, off := 12, sx := 3, sy := 5, splate := 9, pkey := 77, tag := 63, long := true }, ws := [4#32], gen := 0 });
    let r : TileId := 1;
    let q : Packet := { h := { op := 16, ch := 0, payload := 0#32, off := 12, sx := 3, sy := 5, splate := 9, pkey := 77, tag := 63, long := true }, ws := [4#32], gen := 0 };
    let t := s.tile r.val;
    let m := q.h.off / 4;
    decide (t.rst = false) && decide (s.front r.val .loc 0 = some q) && decide (s.canInject r.val .loc 1 = true) && decide (q.h.op = 0x10) && decide (sget .good t.upset m = .good) && decide (sget false t.full m = true) && decide (4 ≤ t.parked)) = true := by
  decide +kernel

theorem wit_ControlRequests :
  (let s : State := inb ((tl (fun t => { t with rst:=false }))) 1 .loc 0 ({ h := { op := 2, ch := 0, payload := 0#32, off := 0, sx := 3, sy := 5, splate := 9, pkey := 77, tag := 63, long := false }, ws := [], gen := 0 });
    let r : TileId := 1;
    let q : Packet := { h := { op := 2, ch := 0, payload := 0#32, off := 0, sx := 3, sy := 5, splate := 9, pkey := 77, tag := 63, long := false }, ws := [], gen := 0 };
    let t := s.tile r.val;
    decide (s.canInject r.val .loc 1 = true) && decide (t.rst = false) && decide (s.front r.val .loc 0 = some q) && decide (q.h.op = 0x02)) = true ∧
  (let s : State := inb ((tl (fun t => { t with rst:=false }))) 1 .loc 0 ({ h := { op := 9, ch := 0, payload := 0#32, off := 4, sx := 3, sy := 5, splate := 9, pkey := 77, tag := 63, long := false }, ws := [], gen := 0 });
    let r : TileId := 1;
    let q : Packet := { h := { op := 9, ch := 0, payload := 0#32, off := 4, sx := 3, sy := 5, splate := 9, pkey := 77, tag := 63, long := false }, ws := [], gen := 0 };
    let t := s.tile r.val;
    decide (s.canInject r.val .loc 1 = true) && decide (t.rst = false) && decide (s.front r.val .loc 0 = some q) && decide (q.h.op = 0x09)) = true ∧
  (let s : State := inb ((tl (fun t => { t with rst:=false }))) 1 .loc 2 ({ h := { op := 24, ch := 2, payload := 0#32, off := 0, sx := 3, sy := 5, splate := 9, pkey := 77, tag := 63, long := true }, ws := [1#32], gen := 0 });
    let r : TileId := 1;
    let q : Packet := { h := { op := 24, ch := 2, payload := 0#32, off := 0, sx := 3, sy := 5, splate := 9, pkey := 77, tag := 63, long := true }, ws := [1#32], gen := 0 };
    let t := s.tile r.val;
    let k := q.h.off % 4;
    decide (s.canInject r.val .loc 1 = true) && decide (t.rst = false) && decide (s.front r.val .loc 2 = some q) && decide (q.h.op = 0x18) && decide ((t.queue k).length + q.ws.length ≤ t.qdepth)) = true ∧
  (let s : State := inb ((tl (fun t => { t with rst:=false,queues:=[(0,List.replicate 15 {v:=1#32})] }))) 1 .loc 2 ({ h := { op := 24, ch := 2, payload := 0#32, off := 0, sx := 3, sy := 5, splate := 9, pkey := 77, tag := 63, long := true }, ws := [1#32,2#32], gen := 0 });
    let r : TileId := 1;
    let q : Packet := { h := { op := 24, ch := 2, payload := 0#32, off := 0, sx := 3, sy := 5, splate := 9, pkey := 77, tag := 63, long := true }, ws := [1#32,2#32], gen := 0 };
    let t := s.tile r.val;
    let k := q.h.off % 4;
    decide (s.canInject r.val .loc 1 = true) && decide (t.rst = false) && decide (s.front r.val .loc 2 = some q) && decide (q.h.op = 0x18) && decide (t.qdepth < (t.queue k).length + q.ws.length)) = true ∧
  (let s : State := { inb ((tl (fun t => { t with rst:=false }))) 1 .loc 0 ({ h := { op := 1, ch := 0, payload := 0#32, off := 0, sx := 3, sy := 5, splate := 9, pkey := 77, tag := 63, long := false }, ws := [], gen := 0 }) with fields := [(0,{fup with tileRst:=[1]})] };
    let r : TileId := 1;
    let q : Packet := { h := { op := 1, ch := 0, payload := 0#32, off := 0, sx := 3, sy := 5, splate := 9, pkey := 77, tag := 63, long := false }, ws := [], gen := 0 };
    let t := s.tile r.val;
    decide (s.canInject r.val .loc 1 = true) && decide (t.rst = true) && decide (s.front r.val .loc 0 = some q) && ([(Instr.rdMem r, 0x01, false), (.rdCtl r, 0x02, false), (.feLd r, 0x07, false), (.wrMem r, 0x08, true), (.wrCtl r, 0x09, true), (.wrH r, 0x0E, true), (.wrB r, 0x0F, true), (.feSt r, 0x10, false)]).any (fun o =>
    decide (q.h.op = o.2.1))) = true ∧
  (let s : State := { inb ((tl (fun t => { t with rst:=false }))) 1 .loc 2 ({ h := { op := 24, ch := 2, payload := 0#32, off := 0, sx := 3, sy := 5, splate := 9, pkey := 77, tag := 63, long := true }, ws := [1#32], gen := 0 }) with fields := [(0,{fup with tileRst:=[1]})] };
    let r : TileId := 1;
    let q : Packet := { h := { op := 24, ch := 2, payload := 0#32, off := 0, sx := 3, sy := 5, splate := 9, pkey := 77, tag := 63, long := true }, ws := [1#32], gen := 0 };
    let t := s.tile r.val;
    decide (s.canInject r.val .loc 1 = true) && decide (t.rst = true) && decide (s.front r.val .loc 2 = some q) && decide (q.h.op = 0x18)) = true := by
  decide +kernel

theorem wit_TileAnswers_1 :
  (let s : State := inb ((tl (fun t => { t with rst:=false,gen:=5,blk:=some {kind:=.rlw,rd:=3,npc:=44#32,ga:=7#64,pkt:={h:={}},limit:=0xC540#32,naks:=0,backoff:=false} }))) 1 .loc 1 ({ h := { status := 0, op := 20, ch := 1, payload := 0xFFFFFFF7#32, off := 0, sx := 3, sy := 5, splate := 9, pkey := 77, tag := 63, long := false }, ws := [], gen := 5 });
    let r : TileId := 1;
    let q : Packet := { h := { status := 0, op := 20, ch := 1, payload := 0xFFFFFFF7#32, off := 0, sx := 3, sy := 5, splate := 9, pkey := 77, tag := 63, long := false }, ws := [], gen := 5 };
    let b : Blk := {kind:=.rlw,rd:=3,npc:=44#32,ga:=7#64,pkt:={h:={}},limit:=0xC540#32,naks:=0,backoff:=false};
    let t := s.tile r.val;
    decide (t.rst = false) && decide (s.front r.val .loc 1 = some q) && decide (q.h.op = 0x14) && decide (t.blk = some b) && decide (b.backoff = false) && decide (q.gen = t.gen) && decide (t.state = .running) && decide (t.stepping = true → t.stopping = false) && decide (q.h.status = 0) && decide (t.afault = none)) = true ∧
  (let s : State := inb ((tl (fun t => { t with rst:=false,gen:=5,afault:=some { code:=7,detail:=1,info:=3#64 },blk:=some {kind:=.rlw,rd:=3,npc:=44#32,ga:=7#64,pkt:={h:={}},limit:=0xC540#32,naks:=0,backoff:=false} }))) 1 .loc 1 ({ h := { status := 0, op := 20, ch := 1, payload := 0xFFFFFFF7#32, off := 0, sx := 3, sy := 5, splate := 9, pkey := 77, tag := 63, long := false }, ws := [], gen := 5 });
    let r : TileId := 1;
    let q : Packet := { h := { status := 0, op := 20, ch := 1, payload := 0xFFFFFFF7#32, off := 0, sx := 3, sy := 5, splate := 9, pkey := 77, tag := 63, long := false }, ws := [], gen := 5 };
    let b : Blk := {kind:=.rlw,rd:=3,npc:=44#32,ga:=7#64,pkt:={h:={}},limit:=0xC540#32,naks:=0,backoff:=false};
    let t := s.tile r.val;
    decide (t.rst = false) && decide (s.front r.val .loc 1 = some q) && decide (q.h.op = 0x14) && decide (t.blk = some b) && decide (b.backoff = false) && decide (q.gen = t.gen) && decide (t.state = .running) && decide (t.stepping = true → t.stopping = false) && (let x := {code:=7,detail:=1,info:=3#64};
    decide (q.h.status = 0) && decide (t.afault = some x))) = true ∧
  (let s : State := inb ((tl (fun t => { t with rst:=false,gen:=5,blk:=some {kind:=.rldf,rd:=3,npc:=44#32,ga:=7#64,pkt:={h:={}},limit:=0xC540#32,naks:=0,backoff:=false} }))) 1 .loc 1 ({ h := { status := 1, op := 20, ch := 1, payload := 0xFFFFFFF7#32, off := 0, sx := 3, sy := 5, splate := 9, pkey := 77, tag := 63, long := false }, ws := [], gen := 5 });
    let r : TileId := 1;
    let q : Packet := { h := { status := 1, op := 20, ch := 1, payload := 0xFFFFFFF7#32, off := 0, sx := 3, sy := 5, splate := 9, pkey := 77, tag := 63, long := false }, ws := [], gen := 5 };
    let b : Blk := {kind:=.rldf,rd:=3,npc:=44#32,ga:=7#64,pkt:={h:={}},limit:=0xC540#32,naks:=0,backoff:=false};
    let t := s.tile r.val;
    decide (t.rst = false) && decide (s.front r.val .loc 1 = some q) && decide (q.h.op = 0x14) && decide (t.blk = some b) && decide (b.backoff = false) && decide (q.gen = t.gen) && decide (t.state = .running) && decide (t.stepping = true → t.stopping = false) && decide (q.h.status = 1) && decide (b.kind ≠ .rlw) && decide (b.naks < bits b.limit 7 0)) = true ∧
  (let s : State := inb ((tl (fun t => { t with rst:=false,gen:=5,blk:=some {kind:=.rldf,rd:=3,npc:=44#32,ga:=7#64,pkt:={h:={}},limit:=0xC540#32,naks:=64,backoff:=false} }))) 1 .loc 1 ({ h := { status := 1, op := 20, ch := 1, payload := 0xFFFFFFF7#32, off := 0, sx := 3, sy := 5, splate := 9, pkey := 77, tag := 63, long := false }, ws := [], gen := 5 });
    let r : TileId := 1;
    let q : Packet := { h := { status := 1, op := 20, ch := 1, payload := 0xFFFFFFF7#32, off := 0, sx := 3, sy := 5, splate := 9, pkey := 77, tag := 63, long := false }, ws := [], gen := 5 };
    let b : Blk := {kind:=.rldf,rd:=3,npc:=44#32,ga:=7#64,pkt:={h:={}},limit:=0xC540#32,naks:=64,backoff:=false};
    let t := s.tile r.val;
    decide (t.rst = false) && decide (s.front r.val .loc 1 = some q) && decide (q.h.op = 0x14) && decide (t.blk = some b) && decide (b.backoff = false) && decide (q.gen = t.gen) && decide (t.state = .running) && decide (t.stepping = true → t.stopping = false) && decide (q.h.status = 1) && decide (b.kind ≠ .rlw) && decide (bits b.limit 7 0 ≤ b.naks)) = true ∧
  (let s : State := inb ((tl (fun t => { t with rst:=false,gen:=5,blk:=some {kind:=.rldf,rd:=3,npc:=44#32,ga:=7#64,pkt:={h:={}},limit:=0xC540#32,naks:=0,backoff:=false} }))) 1 .loc 1 ({ h := { status := 2, op := 20, ch := 1, payload := 0xFFFFFFF7#32, off := 0, sx := 3, sy := 5, splate := 9, pkey := 77, tag := 63, long := false }, ws := [], gen := 5 });
    let r : TileId := 1;
    let q : Packet := { h := { status := 2, op := 20, ch := 1, payload := 0xFFFFFFF7#32, off := 0, sx := 3, sy := 5, splate := 9, pkey := 77, tag := 63, long := false }, ws := [], gen := 5 };
    let b : Blk := {kind:=.rldf,rd:=3,npc:=44#32,ga:=7#64,pkt:={h:={}},limit:=0xC540#32,naks:=0,backoff:=false};
    let t := s.tile r.val;
    decide (t.rst = false) && decide (s.front r.val .loc 1 = some q) && decide (q.h.op = 0x14) && decide (t.blk = some b) && decide (b.backoff = false) && decide (q.gen = t.gen) && decide (t.state = .running) && decide (t.stepping = true → t.stopping = false) && decide (2 ≤ q.h.status)) = true ∧
  (let s : State := inb ((tl (fun t => { t with rst:=false,gen:=5,blk:=some {kind:=.rlw,rd:=3,npc:=44#32,ga:=7#64,pkt:={h:={}},limit:=0xC540#32,naks:=0,backoff:=false} }))) 1 .loc 1 ({ h := { status := 0, op := 20, ch := 1, payload := 0xFFFFFFF7#32, off := 0, sx := 3, sy := 5, splate := 9, pkey := 77, tag := 63, long := false }, ws := [], gen := 4 });
    let r : TileId := 1;
    let q : Packet := { h := { status := 0, op := 20, ch := 1, payload := 0xFFFFFFF7#32, off := 0, sx := 3, sy := 5, splate := 9, pkey := 77, tag := 63, long := false }, ws := [], gen := 4 };
    let t := s.tile r.val;
    decide (t.rst = false) && decide (s.front r.val .loc 1 = some q) && decide (q.h.op = 0x14) && decide (t.blk = none ∨ q.gen ≠ t.gen)) = true := by
  decide +kernel

theorem wit_TileAnswers_2 :
  (let s : State := inb ((tl (fun t => { t with rst:=false,gen:=5,blk:=some {kind:=.rlw,rd:=3,npc:=44#32,ga:=7#64,pkt:={h:={}},limit:=0xC540#32,naks:=0,backoff:=false},out:=[(62,{ch:=2,ga:=1#64}),(63,{ch:=0,ga:=9#64})],arrivals:=[],latch:=none,fence:=none }))) 1 .loc 1 ({ h := { status := 0, op := 21, ch := 1, payload := 0xFFFFFFF7#32, off := 0, sx := 3, sy := 5, splate := 9, pkey := 77, tag := 63, long := false }, ws := [], gen := 5 });
    let r : TileId := 1;
    let q : Packet := { h := { status := 0, op := 21, ch := 1, payload := 0xFFFFFFF7#32, off := 0, sx := 3, sy := 5, splate := 9, pkey := 77, tag := 63, long := false }, ws := [], gen := 5 };
    let t := s.tile r.val;
    decide (t.rst = false) && (let x := {ch:=0,ga:=9#64};
    decide (s.front r.val .loc 1 = some q) && decide (q.h.op = 0x15) && decide (q.gen = t.gen) && decide (t.out.find? (fun e => e.1 == q.h.tag) = some (q.h.tag, x)) && decide (t.arrivals = []))) = true ∧
  (let s : State := inb ((tl (fun t => { t with rst:=false,gen:=5,blk:=some {kind:=.rlw,rd:=3,npc:=44#32,ga:=7#64,pkt:={h:={}},limit:=0xC540#32,naks:=0,backoff:=false},out:=[(61,{ch:=2,ga:=1#64}),(60,{ch:=0,ga:=9#64})],arrivals:=[],latch:=none,fence:=none }))) 1 .loc 1 ({ h := { status := 0, op := 21, ch := 1, payload := 0xFFFFFFF7#32, off := 0, sx := 3, sy := 5, splate := 9, pkey := 77, tag := 63, long := false }, ws := [], gen := 5 });
    let r : TileId := 1;
    let q : Packet := { h := { status := 0, op := 21, ch := 1, payload := 0xFFFFFFF7#32, off := 0, sx := 3, sy := 5, splate := 9, pkey := 77, tag := 63, long := false }, ws := [], gen := 5 };
    let t := s.tile r.val;
    decide (t.rst = false) && decide (s.front r.val .loc 1 = some q) && decide (q.h.op = 0x15) && decide (q.gen ≠ t.gen ∨ t.arrivals = [] ∧ t.out.find? (fun e => e.1 == q.h.tag) = none)) = true ∧
  (let s : State := (tl (fun t => { t with rst:=false,blk:=some {kind:=.rldf,rd:=3,npc:=44#32,ga:=7#64,pkt:={h:={op:=7,ch:=0}},limit:=0xC540#32,naks:=3,backoff:=true} }));
    let r : TileId := 1;
    let b : Blk := {kind:=.rldf,rd:=3,npc:=44#32,ga:=7#64,pkt:={h:={op:=7,ch:=0}},limit:=0xC540#32,naks:=3,backoff:=true};
    let t := s.tile r.val;
    decide (t.rst = false) && decide (t.blk = some b) && decide (b.backoff = true) && decide (b.pkt.h.ch = 0) && decide (t.sendCh = none) && decide (s.mayEnter r.val 0 0 = true)) = true := by
  decide +kernel

end W06

namespace W08
def pr (g : Press → Press) (c : Nat := 3) : State := { busy with press := busy.press.map (fun e => if e.1 == c then (e.1, g e.2) else e) }
def fdS (g : Field → Field) (f : Nat := 9) : State := { busy with fields := busy.fields.map (fun e => if e.1 == f then (e.1, g e.2) else e) }
def rch : Packet := { h := { op := 0 } }
def PB : PBlk := { kind := .load, mn := .lw, rd := 5, npc := 0x88#64, va := 9#64, ga := 0x77#64, need := [0], pkt := { h := { op := 1, ch := 0 } } }
theorem wit_FieldRequests :
  (let s : State := inb (fdS (fun x => { x with xdrop:=3,sealDrop:=4,keyDrop:=5,hopCe:=6,hopRetry:=7,fltLog:=[9#32,8#32],burnCe:=3,burnUec:=0xFFFFFFFF,evt:=0x1FF#32,meshStat:=0xF#32 })) (originOf 9) .ctl 0 ({ h := { op := 3, ch := 0, payload := 0#32, off := 0, sx := 144, sy := 191, splate := 0x7FF, pkey := 0, srckind := true, tag := 63, long := false }, ws := [] });
    let f : FieldId := 9;
    let q : Packet := { h := { op := 3, ch := 0, payload := 0#32, off := 0, sx := 144, sy := 191, splate := 0x7FF, pkey := 0, srckind := true, tag := 63, long := false }, ws := [] };
    let c := s.fld f.val;
    let o := originOf f.val;
    decide (c.rst = false) && decide (s.front o .ctl 0 = some q) && decide (s.canInject o .ctl 1 = true) && decide (q.h.op = 0x03)) = true ∧
  (let s : State := inb (fdS (fun x => { x with xdrop:=3,sealDrop:=4,keyDrop:=5,hopCe:=6,hopRetry:=7,fltLog:=[9#32,8#32],burnCe:=3,burnUec:=0xFFFFFFFF,evt:=0x1FF#32,meshStat:=0xF#32 })) (originOf 9) .ctl 0 ({ h := { op := 10, ch := 0, payload := 0#32, off := 0, sx := 144, sy := 191, splate := 0x7FF, pkey := 0, srckind := true, tag := 63, long := false }, ws := [] });
    let f : FieldId := 9;
    let q : Packet := { h := { op := 10, ch := 0, payload := 0#32, off := 0, sx := 144, sy := 191, splate := 0x7FF, pkey := 0, srckind := true, tag := 63, long := false }, ws := [] };
    let c := s.fld f.val;
    let o := originOf f.val;
    decide (c.rst = false) && decide (s.front o .ctl 0 = some q) && decide (s.canInject o .ctl 1 = true) && decide (q.h.op = 0x0A) && decide (q.h.off / 4 ≠ 0x201) && decide (q.h.off < 0x420 ∨ 0x43C ≤ q.h.off ∨ srcParty c.topo q.h ≠ .wardenFw)) = true := by
  decide +kernel

theorem wit_FieldCounterReads :
  (let s : State := (fdS (fun x => { x with xdrop:=3,sealDrop:=4,keyDrop:=5,hopCe:=6,hopRetry:=7,fltLog:=[9#32,8#32],burnCe:=3,burnUec:=0xFFFFFFFF,evt:=0x1FF#32,meshStat:=0xF#32 }));
    let f : FieldId := 9;
    let c := s.fld f.val;
    decide (c.rst = false)) = true := by
  decide +kernel

theorem wit_GateRequests_1 :
  (let s : State := inb (pr (fun x => { x with gkeymap:=[(0,6#32),(127,0x80000000#32)],inq:=[rch] }) 0) (gateRouter 0) .gate 0 ({ h := { op := 4, ch := 0, payload := 0#32, off := 0, sx := 144, sy := 191, splate := 0x7FF, pkey := 0, srckind := true, tag := 63, long := false }, ws := [] });
    let c : ClusterId := 0;
    let q : Packet := { h := { op := 4, ch := 0, payload := 0#32, off := 0, sx := 144, sy := 191, splate := 0x7FF, pkey := 0, srckind := true, tag := 63, long := false }, ws := [] };
    let x := s.prs c.val;
    let g := gateRouter c.val;
    decide (x.rst = false) && decide (s.canInject g .gate 1 = true) && decide (s.entryShut g .gate = false) && (let ch : Chan := 0;
    decide (ch = 0 ∨ ch = 2) && decide (s.front g .gate ch.val = some q) && decide (q.h.pkey = 0 ∨ (sget 0#32 x.gkeymap (q.h.pkey / 32)).getLsbD (q.h.pkey % 32) = true))) = true ∧
  (let s : State := inb (pr (fun x => { x with gkeymap:=[(0,6#32),(127,0x80000000#32)],inq:=[rch] }) 0) (gateRouter 0) .gate 0 ({ h := { op := 1, ch := 0, payload := 0#32, off := 0, sx := 144, sy := 191, splate := 0x7FF, pkey := 3, srckind := true, tag := 63, long := false }, ws := [] });
    let c : ClusterId := 0;
    let q : Packet := { h := { op := 1, ch := 0, payload := 0#32, off := 0, sx := 144, sy := 191, splate := 0x7FF, pkey := 3, srckind := true, tag := 63, long := false }, ws := [] };
    let x := s.prs c.val;
    let g := gateRouter c.val;
    decide (x.rst = false) && decide (s.canInject g .gate 1 = true) && decide (s.entryShut g .gate = false) && (let ch : Chan := 0;
    decide (ch = 0 ∨ ch = 2) && decide (s.front g .gate ch.val = some q) && decide (q.h.pkey ≠ 0) && decide ((sget 0#32 x.gkeymap (q.h.pkey / 32)).getLsbD (q.h.pkey % 32) = false))) = true ∧
  (let s : State := (pr (fun x => { x with ways:=1,scratch:=mwrite [] 8 ((List.range 30).map (BitVec.ofNat 8)),scratchBad:=[5],inq:=[{ h := { op := 4, ch := 0, payload := 0#32, off := 0, sx := 144, sy := 191, splate := 0x7FF, pkey := 0, srckind := true, tag := 63, long := false }, ws := [] },rch] }));
    let c : ClusterId := 3;
    let q : Packet := { h := { op := 4, ch := 0, payload := 0#32, off := 0, sx := 144, sy := 191, splate := 0x7FF, pkey := 0, srckind := true, tag := 63, long := false }, ws := [] };
    let rest : List Packet := [rch];
    let x := s.prs c.val;
    let g := gateRouter c.val;
    decide (x.rst = false) && decide (s.canInject g .gate 1 = true) && decide (s.entryShut g .gate = false) && decide (x.inq = q :: rest) && decide (q.h.op = 0x04) && decide (4 * bits q.h.payload 26 0 + 4 ≤ x.ways * 0x80000) && decide (x.scratchUe (4 * bits q.h.payload 26 0) 4 = false) && decide (4 * bits q.h.payload 26 0 < 0x800000)) = true ∧
  (let s : State := (pr (fun x => { x with ways:=1,scratch:=mwrite [] 8 ((List.range 30).map (BitVec.ofNat 8)),scratchBad:=[5],inq:=[{ h := { op := 4, ch := 0, payload := 0x20000#32, off := 0, sx := 144, sy := 191, splate := 0x7FF, pkey := 0, srckind := true, tag := 63, long := false }, ws := [] },rch] }));
    let c : ClusterId := 3;
    let q : Packet := { h := { op := 4, ch := 0, payload := 0x20000#32, off := 0, sx := 144, sy := 191, splate := 0x7FF, pkey := 0, srckind := true, tag := 63, long := false }, ws := [] };
    let rest : List Packet := [rch];
    let x := s.prs c.val;
    let g := gateRouter c.val;
    decide (x.rst = false) && decide (s.canInject g .gate 1 = true) && decide (s.entryShut g .gate = false) && decide (x.inq = q :: rest) && decide (q.h.op = 0x04) && decide (x.ways * 0x80000 < 4 * bits q.h.payload 26 0 + 4) && decide (4 * bits q.h.payload 26 0 < 0x800000)) = true ∧
  (let s : State := (pr (fun x => { x with ways:=1,scratch:=mwrite [] 8 ((List.range 30).map (BitVec.ofNat 8)),scratchBad:=[5],inq:=[{ h := { op := 4, ch := 0, payload := 0x200000#32, off := 0, sx := 144, sy := 191, splate := 0x7FF, pkey := 0, srckind := true, tag := 63, long := false }, ws := [] },rch] }));
    let c : ClusterId := 3;
    let q : Packet := { h := { op := 4, ch := 0, payload := 0x200000#32, off := 0, sx := 144, sy := 191, splate := 0x7FF, pkey := 0, srckind := true, tag := 63, long := false }, ws := [] };
    let rest : List Packet := [rch];
    let x := s.prs c.val;
    let g := gateRouter c.val;
    decide (x.rst = false) && decide (s.canInject g .gate 1 = true) && decide (s.entryShut g .gate = false) && decide (x.inq = q :: rest) && decide (q.h.op = 0x04) && decide (0x800000 ≤ 4 * bits q.h.payload 26 0)) = true ∧
  (let s : State := (pr (fun x => { x with ways:=1,scratch:=mwrite [] 8 ((List.range 30).map (BitVec.ofNat 8)),scratchBad:=[5],inq:=[{ h := { op := 11, ch := 0, payload := 0#32, off := 0x800000, sx := 144, sy := 191, splate := 0x7FF, pkey := 0, srckind := true, tag := 63, long := false }, ws := [] },rch] }));
    let c : ClusterId := 3;
    let q : Packet := { h := { op := 11, ch := 0, payload := 0#32, off := 0x800000, sx := 144, sy := 191, splate := 0x7FF, pkey := 0, srckind := true, tag := 63, long := false }, ws := [] };
    let rest : List Packet := [rch];
    let x := s.prs c.val;
    let g := gateRouter c.val;
    decide (x.rst = false) && decide (s.canInject g .gate 1 = true) && decide (s.entryShut g .gate = false) && decide (x.inq = q :: rest) && decide (q.h.op = 0x0B) && decide (0x800000 ≤ q.h.off)) = true := by
  decide +kernel

theorem wit_GateRequests_2 :
  (let s : State := (pr (fun x => { x with ways:=1,scratch:=mwrite [] 8 ((List.range 30).map (BitVec.ofNat 8)),scratchBad:=[5],inq:=[{ h := { op := 11, ch := 0, payload := 0#32, off := 0, sx := 144, sy := 191, splate := 0x7FF, pkey := 0, srckind := true, tag := 63, long := false }, ws := [] },rch] }));
    let c : ClusterId := 3;
    let q : Packet := { h := { op := 11, ch := 0, payload := 0#32, off := 0, sx := 144, sy := 191, splate := 0x7FF, pkey := 0, srckind := true, tag := 63, long := false }, ws := [] };
    let rest : List Packet := [rch];
    let x := s.prs c.val;
    let g := gateRouter c.val;
    decide (x.rst = false) && decide (s.canInject g .gate 1 = true) && decide (s.entryShut g .gate = false) && decide (x.inq = q :: rest) && decide (q.h.op = 0x0B) && decide (q.h.off < 0x800000) && decide (q.h.off + 4 * q.ws.length ≤ x.ways * 0x80000)) = true := by
  decide +kernel

theorem wit_GateAnswers :
  (let s : State := inb (pr (fun x => { x with hold:=0#32,tags:=[(2,{core:=1,word:=none,ch:=0,ga:=1#64}),(63,{core:=1,word:=some 0,ch:=0,ga:=9#64})],cores:=[(1,{blk:=some PB,xregs:=[(5,1#64)],latch:=none,fence:=none,pc:=0x80#64})] })) (gateRouter 3) .gate 1 ({ h := { op := 20, ch := 1, payload := 0#32, tag := 63, status := 0 } });
    let c : ClusterId := 3;
    let q : Packet := { h := { op := 20, ch := 1, payload := 0#32, tag := 63, status := 0 } };
    let b : PBlk := PB;
    let t : GTag := {core:=1,word:=some 0,ch:=0,ga:=9#64};
    let x := s.prs c.val;
    let g := gateRouter c.val;
    decide (x.rst = false) && decide (s.front g .gate 1 = some q) && decide (q.h.op = 0x14) && decide (x.tags.find? (fun e => e.1 == q.h.tag) = some (q.h.tag, t)) && decide (t.word = some 0) && decide (t.dead = false) && decide ((s.core c.val t.core).blk = some b) && decide (q.h.status = 0) && decide (b.kind = .load) && decide (b.mn = .lw) && decide (b.pos = 0) && decide (b.need = [0]) && decide (b.got = [])) = true ∧
  (let s : State := inb (pr (fun x => { x with hold:=0#32,tags:=[(2,{core:=1,word:=none,ch:=0,ga:=1#64}),(63,{core:=1,word:=some 0,ch:=0,ga:=9#64})],cores:=[(1,{blk:=some PB,xregs:=[(5,1#64)],latch:=none,fence:=none,pc:=0x80#64})] })) (gateRouter 3) .gate 1 ({ h := { op := 20, ch := 1, payload := 0#32, tag := 63, status := 2 } });
    let c : ClusterId := 3;
    let q : Packet := { h := { op := 20, ch := 1, payload := 0#32, tag := 63, status := 2 } };
    let b : PBlk := PB;
    let t : GTag := {core:=1,word:=some 0,ch:=0,ga:=9#64};
    let x := s.prs c.val;
    let g := gateRouter c.val;
    decide (x.rst = false) && (let i := default;
    decide (s.front g .gate 1 = some q) && decide (q.h.op = 0x14) && decide (x.tags.find? (fun e => e.1 == q.h.tag) = some (q.h.tag, t)) && decide (t.word = some i) && decide (t.dead = false) && decide ((s.core c.val t.core).blk = some b) && decide (2 ≤ q.h.status))) = true ∧
  (let s : State := inb (pr (fun x => { x with hold:=0#32,tags:=[(2,{core:=1,word:=none,ch:=0,ga:=1#64}),(63,{core:=1,word:=some 0,ch:=0,ga:=9#64})],cores:=[(1,{blk:=some {PB with kind := .feLd},xregs:=[(5,1#64)],latch:=none,fence:=none,pc:=0x80#64})] })) (gateRouter 3) .gate 1 ({ h := { op := 20, ch := 1, payload := 0#32, tag := 63, status := 1 } });
    let c : ClusterId := 3;
    let q : Packet := { h := { op := 20, ch := 1, payload := 0#32, tag := 63, status := 1 } };
    let b : PBlk := {PB with kind := .feLd};
    let t : GTag := {core:=1,word:=some 0,ch:=0,ga:=9#64};
    let x := s.prs c.val;
    let g := gateRouter c.val;
    decide (x.rst = false) && decide (s.front g .gate 1 = some q) && decide (q.h.op = 0x14) && decide (x.tags.find? (fun e => e.1 == q.h.tag) = some (q.h.tag, t)) && decide (t.word = some 0) && decide (t.dead = false) && decide ((s.core c.val t.core).blk = some b) && decide (q.h.status = 1) && decide (b.kind = .feLd ∨ b.kind = .feSt) && decide (b.naks < 64)) = true ∧
  (let s : State := inb busy (gateRouter 3) .gate 1 { h := { op := 0x14, ch := 1, payload := 7#32, tag := 62 } };
    let c : ClusterId := 3;
    let q : Packet := { h := { op := 0x14, ch := 1, payload := 7#32, tag := 62 } };
    let x := s.prs c.val;
    let g := gateRouter c.val;
    decide (x.rst = false) && decide (s.front g .gate 1 = some q) && decide (q.h.op = 0x14) && decide (x.tags.find? (fun e => e.1 == q.h.tag) = none)) = true ∧
  (let s : State := inb (pr (fun x => { x with hold:=0#32,tags:=[(2,{core:=1,word:=none,ch:=0,ga:=1#64}),(63,{core:=1,word:=none,ch:=0,ga:=9#64})],cores:=[(1,{blk:=some PB,xregs:=[(5,1#64)],latch:=none,fence:=none,pc:=0x80#64})] })) (gateRouter 3) .gate 1 ({ h := { op := 21, ch := 1, payload := 0#32, tag := 63, status := 0 } });
    let c : ClusterId := 3;
    let q : Packet := { h := { op := 21, ch := 1, payload := 0#32, tag := 63, status := 0 } };
    let t : GTag := {core:=1,word:=none,ch:=0,ga:=9#64};
    let x := s.prs c.val;
    let g := gateRouter c.val;
    decide (x.rst = false) && decide (s.front g .gate 1 = some q) && decide (q.h.op = 0x15) && decide (x.tags.find? (fun e => e.1 == q.h.tag) = some (q.h.tag, t)) && decide ((s.core c.val t.core).arrivals = [])) = true ∧
  (let s : State := (pr (fun x => { x with tags:=[(0,{core:=1,word:=none,ch:=0,ga:=1#64}),(63,{core:=1,word:=none,ch:=0,ga:=1#64})],idle:=[5],cores:=[(1,{blk:=some {PB with backoff:=true,kind:=.feLd}})] }));
    let c : ClusterId := 3;
    let b : PBlk := {PB with backoff:=true,kind:=.feLd};
    let x := s.prs c.val;
    let g := gateRouter c.val;
    decide (x.rst = false) && (let k : CoreId := 1;
    let n : Nat := 1;
    let ns : List Nat := (List.range 64).filter (fun i => i>1 && i != 63 && i != 5);
    decide (x.runs k.val = true) && decide ((s.core c.val k.val).blk = some b) && decide (b.backoff = true) && decide (x.freeTags = n :: ns) && decide (s.canInject g .gate 0 = true) && decide (s.entryShut g .gate = false))) = true ∧
  (let s : State := inb busy (gateRouter 3) .gate 1 { h := { op := 0x14, ch := 1, payload := 7#32, tag := 62 } };
    let c : ClusterId := 3;
    let x := s.prs c.val;
    decide (x.rst = false)) = true := by
  decide +kernel

theorem wit_PressRegisters_1 :
  (let s : State := busy;
    let p : Party := .pressM;
    let c : ClusterId := 3;
    let v : W32 := 8#32;
    let x := s.prs c.val;
    let may := p = .wardenFw ∨ p = .pressM;
    let t := v.toNat % 32;
    decide (x.rst = false) && decide (may) && decide (8 ≤ t) && decide (t ≤ 24)) = true ∧
  (let s : State := busy;
    let c : ClusterId := 3;
    let v : W32 := 7#32;
    let x := s.prs c.val;
    let t := v.toNat % 32;
    decide (x.rst = false) && decide (t < 8 ∨ 24 < t)) = true ∧
  (let s : State := busy;
    let c : ClusterId := 3;
    let x := s.prs c.val;
    decide (x.rst = false)) = true ∧
  (let s : State := busy;
    let p : Party := .pressM;
    let c : ClusterId := 3;
    let w : W64 := 0x7FFFFFFFFFFFFFFF#64;
    let x := s.prs c.val;
    let may := p = .wardenFw ∨ p = .pressM;
    decide (x.rst = false) && decide (may) && decide (bits w 63 60 < 8)) = true ∧
  (let s : State := busy;
    let c : ClusterId := 3;
    let w : W64 := 0x8000000000000000#64;
    let x := s.prs c.val;
    decide (x.rst = false) && decide (8 ≤ bits w 63 60)) = true ∧
  (let s : State := busy;
    let p : Party := .pressM;
    let c : ClusterId := 3;
    let x := s.prs c.val;
    let may := p = .wardenFw ∨ p = .pressM;
    decide (x.rst = false) && decide (may)) = true ∧
  (let s : State := busy;
    let p : Party := .pressS;
    let c : ClusterId := 3;
    let k : CoreId := 1;
    let v : W32 := 8#32;
    let w : W64 := 0x7FFFFFFFFFFFFFFF#64;
    let n : Fin 16 := 15;
    let x := s.prs c.val;
    let may := p = .wardenFw ∨ p = .pressM;
    decide (x.rst = false) && decide (¬may) && ([Instr.prsClkWrite p c v, .prsFwinWrite p c n w, .doorbellClear p c k v, .prsIpiWrite p c v, .coreHold p c k, .coreRelease p c k]).any (fun i =>
    true)) = true ∧
  (let s : State := (pr (fun x => { x with waysNew:=some 0,l3:=[(1,{})],scratchBad:=[3,0x180000,0x17FFFF],scratch:=[(3,1#8),(0x17FFFF,2#8),(0x180000,1#8),(0x7FFFFF,3#8)] }));
    let c : ClusterId := 3;
    let x := s.prs c.val;
    decide (x.rst = false) && (let m := 0;
    decide (x.waysNew = some m) && decide (x.tags = []) && decide (x.inq = []) && (List.range 4).all (fun j => decide ((x.core j).blk = none)))) = true := by
  decide +kernel

theorem wit_PressRegisters_2 :
  (let s : State := (pr (fun x => { x with waysNew:=some 3,tags:=[(2,{core:=1,word:=none,ch:=0,ga:=1#64})] }));
    let c : ClusterId := 3;
    let x := s.prs c.val;
    decide (x.rst = false) && (let m := 3;
    decide (x.waysNew = some m) && decide (x.tags ≠ [] ∨ x.inq ≠ [] ∨ (∃ j : Fin 4, (x.core j.val).blk ≠ none)))) = true := by
  decide +kernel

theorem wit_PressCoreHold :
  (let s : State := (pr (fun x => { x with cores:=[(0,{pc:=1#64,l2:=[(1,{b:=[2#8]})]}),(1,{pc:=2#64,l2:=[(4,{b:=[2#8]})],xregs:=[(3,1#64)],blk:=some PB}),(2,{pc:=3#64})],tags:=[(2,{core:=1,word:=none,ch:=0,ga:=1#64}),(5,{core:=2,word:=none,ch:=0,ga:=1#64})],bootvec:=0x80000040#32,hold:=0xF#32,l3:=[(1,{})] }));
    let p : Party := .pressM;
    let c : ClusterId := 3;
    let k : CoreId := 0;
    let x := s.prs c.val;
    decide (x.rst = false) && decide (p = .wardenFw ∨ p = .pressM) && decide (bit x.hold k.val = true)) = true ∧
  (let s : State := (pr (fun x => { x with cores:=[(0,{pc:=1#64,l2:=[(1,{b:=[2#8]})]}),(1,{pc:=2#64,l2:=[(4,{b:=[2#8]})],xregs:=[(3,1#64)],blk:=some PB}),(2,{pc:=3#64})],tags:=[(2,{core:=1,word:=none,ch:=0,ga:=1#64}),(5,{core:=2,word:=none,ch:=0,ga:=1#64})],bootvec:=0x80000040#32,hold:=0#32,l3:=[(1,{})] }));
    let p : Party := .pressM;
    let c : ClusterId := 3;
    let k : CoreId := 0;
    let x := s.prs c.val;
    decide (x.rst = false) && decide (p = .wardenFw ∨ p = .pressM) && decide (bit x.hold k.val = false)) = true := by
  decide +kernel

theorem wit_PressInterrupts :
  (let s : State := (pr (fun x => { x with cores:=[(1,{pc:=0x44#64,lvl:=.m,ctl:=[(0x800,1#64),(0x801,0x1000#64),(0x808,0xF#64),(0x80A,2000#64)],xregs:=[(3,1#64)]})],hold:=0#32,ipi:=2#32,db:=[(1,3#32)] }));
    let c : ClusterId := 3;
    let k : CoreId := 1;
    let i : Nat := 2;
    let q := s.core c.val k.val;
    ([(false, Lvl.m, 0x800), (true, .s, 0x400)]).any (fun o =>
    decide ((s.prs c.val).runs k.val = true) && decide (q.blk = none) && decide (s.irqOf c.val k.val = some i) && decide (q.passed.testBit i = o.1))) = true ∧
  (let s : State := busy;
    let c : ClusterId := 3;
    let k : CoreId := 1;
    decide (s.irqOf c.val k.val = none)) = true := by
  decide +kernel

end W08

namespace W09

theorem wit_BarrierEntries :
  (let s : State := st1 fup;
    let p : Party := .wardenFw;
    let f : FieldId := 0;
    let i : Fin 16384 := 3;
    let v : W32 := 0x80000002#32;
    let c := s.fld f.val;
    let e := sget {} c.barNode i.val;
    decide (c.rst = false) && decide (p = .wardenFw) && decide (e.scope = 0 ∨ e.remain = e.expect) && decide (bits v 31 30 = 0 ∨ 1 ≤ bits v 13 0 ∧ bits v 13 0 ≤ 9220) && decide (bits v 31 30 = 1 → bits v 25 20 = f.val) && decide (bits v 31 30 = 3 → i.val < 0x1000)) = true ∧
  (let s : State := nd {scope:=1,expect:=4,remain:=3} 3;
    let p : Party := .wardenFw;
    let f : FieldId := 0;
    let i : Fin 16384 := 3;
    let c := s.fld f.val;
    let e := sget {} c.barNode i.val;
    decide (c.rst = false) && decide (p = .wardenFw) && decide (e.scope ≠ 0) && decide (e.remain ≠ e.expect)) = true ∧
  (let s : State := rt {fmask:=5} 3;
    let p : Party := .wardenFw;
    let f : FieldId := 0;
    let i : Fin 16384 := 3;
    let v : W32 := 0xC0000003#32;
    let c := s.fld f.val;
    let x := sget {} c.barRoot i.val;
    decide (c.rst = false) && decide (p = .wardenFw) && decide (x.armed = false) && decide (v.getLsbD 30 = true) && decide (i.val < 0x1000) && decide (v.getLsbD 31 = true → x.fmask ≠ 0#64)) = true ∧
  (let s : State := rt {armed:=true,fmask:=5,rcvd:=1,fcount:=true} 3;
    let p : Party := .wardenFw;
    let f : FieldId := 0;
    let i : Fin 16384 := 3;
    let c := s.fld f.val;
    let x := sget {} c.barRoot i.val;
    decide (c.rst = false) && decide (p = .wardenFw) && decide (x.armed = true) && decide (x.fcount = true ∨ x.pcount = true)) = true ∧
  (let s : State := nd {scope:=1,expect:=4,remain:=3} 3;
    let p : Party := .wardenFw;
    let f : FieldId := 0;
    let c := s.fld f.val;
    decide (c.rst = false) && decide (p = .wardenFw)) = true := by
  decide +kernel

theorem wit_BarrierCuts_1 :
  (let s : State := nd {scope:=2,expect:=5,remain:=3} 7 (cs 0 7);
    let p : Party := .wardenFw;
    let f : FieldId := 0;
    let v : W32 := 0x00040002#32;
    let c := s.fld f.val;
    let i := bits c.barcutSel 13 0;
    let e := sget {} c.barNode i;
    let de := bits v 29 16;
    let dr := bits v 13 0;
    let level := bits c.barcutSel 15 14;
    decide (c.rst = false) && decide (p = .wardenFw) && decide (level = 0) && decide (e.scope ≠ 0) && decide (0 < de) && decide (de < e.expect) && decide (dr ≤ de) && decide (dr < e.remain)) = true ∧
  (let s : State := nd {scope:=1,expect:=5,remain:=2} 7 (cs 0 7);
    let p : Party := .wardenFw;
    let f : FieldId := 0;
    let v : W32 := 0x00040002#32;
    let c := s.fld f.val;
    let i := bits c.barcutSel 13 0;
    let e := sget {} c.barNode i;
    let de := bits v 29 16;
    let dr := bits v 13 0;
    let level := bits c.barcutSel 15 14;
    decide (c.rst = false) && decide (p = .wardenFw) && decide (level = 0) && decide (e.scope = 1) && decide (0 < de) && decide (de < e.expect) && decide (dr ≤ de) && decide (dr = e.remain)) = true ∧
  (let s : State := st1 (cs 0 7);
    let p : Party := .wardenFw;
    let f : FieldId := 0;
    let v : W32 := 0x00010000#32;
    let c := s.fld f.val;
    let i := bits c.barcutSel 13 0;
    let e := sget {} c.barNode i;
    let de := bits v 29 16;
    let dr := bits v 13 0;
    let level := bits c.barcutSel 15 14;
    decide (c.rst = false) && decide (p = .wardenFw) && decide (level = 0) && decide (e.scope = 0 ∨ de = 0 ∨ e.expect ≤ de ∨ de < dr ∨ e.remain < dr)) = true ∧
  (let s : State := rt {armed:=true,fmask:=3,rcvd:=2,remainf:=1} 7 (cs 1 7 1);
    let p : Party := .wardenFw;
    let f : FieldId := 0;
    let v : W32 := 0#32;
    let c := s.fld f.val;
    let i := bits c.barcutSel 13 0;
    let g := bits c.barcutSel 21 16;
    let x := sget {} c.barRoot i;
    let de := bits v 29 16;
    let dr := bits v 13 0;
    let level := bits c.barcutSel 15 14;
    decide (c.rst = false) && decide (p = .wardenFw) && decide (level = 1) && decide (x.armed = true) && decide (bit x.fmask g = true) && decide (popF x.fmask ≠ 1) && decide (de = 0) && decide (dr = 0) && decide (bit x.rcvd g = true) && decide (x.remainf ≠ 0)) = true ∧
  (let s : State := rt {armed:=true,fmask:=2,rcvd:=2,remainf:=1} 7 (cs 1 7 1);
    let p : Party := .wardenFw;
    let f : FieldId := 0;
    let c := s.fld f.val;
    let i := bits c.barcutSel 13 0;
    let g := bits c.barcutSel 21 16;
    let x := sget {} c.barRoot i;
    let level := bits c.barcutSel 15 14;
    decide (c.rst = false) && decide (p = .wardenFw) && decide (level = 1) && decide (x.armed = false ∨ bit x.fmask g = false ∨ popF x.fmask = 1)) = true := by
  decide +kernel

theorem wit_BarrierCuts_2 :
  (let s : State := rt {armed:=true,fmask:=3,rcvd:=0,remainf:=2} 7 (cs 2 7 1);
    let p : Party := .wardenFw;
    let f : FieldId := 0;
    let v : W32 := 0#32;
    let c := s.fld f.val;
    let i := bits c.barcutSel 13 0;
    let g := bits c.barcutSel 21 16;
    let x := sget {} c.barRoot i;
    let de := bits v 29 16;
    let dr := bits v 13 0;
    let level := bits c.barcutSel 15 14;
    decide (c.rst = false) && decide (p = .wardenFw) && decide (level = 2) && decide (x.armed = true) && decide (bit x.fmask g = true) && decide (bit x.rcvd g = false) && decide (de = 0) && decide (dr = 0) && decide (2 ≤ x.remainf)) = true ∧
  (let s : State := rt {armed:=true,fmask:=3,rcvd:=0,remainf:=1} 7 (cs 2 7 1);
    let p : Party := .wardenFw;
    let f : FieldId := 0;
    let v : W32 := 0#32;
    let c := s.fld f.val;
    let i := bits c.barcutSel 13 0;
    let g := bits c.barcutSel 21 16;
    let x := sget {} c.barRoot i;
    let de := bits v 29 16;
    let dr := bits v 13 0;
    let level := bits c.barcutSel 15 14;
    decide (c.rst = false) && decide (p = .wardenFw) && decide (x.armed = true) && decide (bit x.fmask g = true) && decide (bit x.rcvd g = false) && decide (de = 0) && decide (dr = 0) && decide (x.remainf = 1) && decide (x.sys = false) && decide (x.epoch = false) && ([(Instr.barcutRootRemove p f v, 1, setBit x.fmask g false), (.barcutRootCredit p f v, 2, x.fmask)]).any (fun o =>
    decide (level = o.2.1) && decide (o.2.1 = 1 → popF x.fmask ≠ 1))) = true ∧
  (let s : State := st1 (cs 2 7 1);
    let p : Party := .wardenFw;
    let f : FieldId := 0;
    let c := s.fld f.val;
    let i := bits c.barcutSel 13 0;
    let g := bits c.barcutSel 21 16;
    let x := sget {} c.barRoot i;
    let level := bits c.barcutSel 15 14;
    decide (c.rst = false) && decide (p = .wardenFw) && decide (level = 2) && decide (x.armed = false ∨ bit x.rcvd g = true)) = true ∧
  (let s : State := rt {armed:=true,sysroot:=true,expectp:=3,remainp:=4} 7 (cs 3 7);
    let p : Party := .wardenFw;
    let f : FieldId := 0;
    let v : W32 := 0x00030003#32;
    let c := s.fld f.val;
    let i := bits c.barcutSel 13 0;
    let x := sget {} c.barRoot i;
    let de := bits v 29 16;
    let dr := bits v 13 0;
    let level := bits c.barcutSel 15 14;
    decide (c.rst = false) && decide (p = .wardenFw) && decide (level = 3) && decide (x.armed = true) && decide (x.sysroot = true) && decide (0 < de) && decide (de ≤ x.expectp) && decide (dr ≤ de) && decide (dr < x.remainp)) = true ∧
  (let s : State := rt {armed:=true,sysroot:=true,expectp:=3,remainp:=3} 7 (cs 3 7);
    let p : Party := .wardenFw;
    let f : FieldId := 0;
    let v : W32 := 0x00030003#32;
    let c := s.fld f.val;
    let i := bits c.barcutSel 13 0;
    let x := sget {} c.barRoot i;
    let de := bits v 29 16;
    let dr := bits v 13 0;
    let level := bits c.barcutSel 15 14;
    decide (c.rst = false) && decide (p = .wardenFw) && decide (level = 3) && decide (x.armed = true) && decide (x.sysroot = true) && decide (0 < de) && decide (de ≤ x.expectp) && decide (dr ≤ de) && decide (dr = x.remainp)) = true := by
  decide +kernel

theorem wit_BarrierCuts_3 :
  (let s : State := st1 (cs 3 7);
    let p : Party := .wardenFw;
    let f : FieldId := 0;
    let c := s.fld f.val;
    let i := bits c.barcutSel 13 0;
    let x := sget {} c.barRoot i;
    let level := bits c.barcutSel 15 14;
    decide (c.rst = false) && decide (p = .wardenFw) && decide (level = 3) && decide (x.sysroot = false)) = true := by
  decide +kernel

end W09

namespace W09B

theorem wit_BarrierNode :
  (let s : State := inb (nd {scope:=1,expect:=4,remain:=2} 7) 0 .ctl 3 (barQ 0 7 5 6);
    let f : FieldId := 0;
    let q : Packet := barQ 0 7 5 6;
    let c := s.fld f.val;
    let o := originOf f.val;
    let i := bits q.h.payload 13 0;
    let e := sget {} c.barNode i;
    decide (c.rst = false) && decide (s.front o .ctl 3 = some q) && decide (q.h.op = 0x1C) && decide (bits q.h.payload 16 14 = 0) && decide (e.scope ≠ 0) && decide (2 ≤ e.remain)) = true ∧
  (let s : State := inb (nd {scope:=1,expect:=4,remain:=1} 7) 0 .ctl 3 (barQ 0 7 5 6);
    let f : FieldId := 0;
    let q : Packet := barQ 0 7 5 6;
    let c := s.fld f.val;
    let o := originOf f.val;
    let i := bits q.h.payload 13 0;
    let e := sget {} c.barNode i;
    decide (c.rst = false) && decide (s.front o .ctl 3 = some q) && decide (q.h.op = 0x1C) && decide (bits q.h.payload 16 14 = 0) && decide (e.scope = 1) && decide (e.remain = 1)) = true ∧
  (let s : State := inb (nd {scope:=2,expect:=4,remain:=1,rootf:=9} 7) 0 .ctl 3 (barQ 0 7 5 6);
    let f : FieldId := 0;
    let q : Packet := barQ 0 7 5 6;
    let c := s.fld f.val;
    let o := originOf f.val;
    let i := bits q.h.payload 13 0;
    let e := sget {} c.barNode i;
    decide (c.rst = false) && decide (s.front o .ctl 3 = some q) && decide (q.h.op = 0x1C) && decide (bits q.h.payload 16 14 = 0) && decide (2 ≤ e.scope) && decide (e.remain = 1)) = true ∧
  (let s : State := inb (st1 fup) 0 .ctl 3 (barQ 0 7 5 6);
    let f : FieldId := 0;
    let q : Packet := barQ 0 7 5 6;
    let c := s.fld f.val;
    let o := originOf f.val;
    let i := bits q.h.payload 13 0;
    let e := sget {} c.barNode i;
    decide (c.rst = false) && decide (s.front o .ctl 3 = some q) && decide (q.h.op = 0x1C) && decide (bits q.h.payload 16 14 = 0) && decide (e.scope = 0)) = true := by
  decide +kernel

theorem wit_BarrierRoot_1 :
  (let s : State := inb (rt {armed:=true,fmask:=7,rcvd:=0,remainf:=2} 7) 0 .ctl 3 (barQ 1 7 96 0 1);
    let f : FieldId := 0;
    let q : Packet := barQ 1 7 96 0 1;
    let c := s.fld f.val;
    let o := originOf f.val;
    let i := bits q.h.payload 13 0;
    let e := sget {} c.barRoot i;
    let g := fieldAt q.h.sy q.h.sx;
    decide (c.rst = false) && decide (s.front o .ctl 3 = some q) && decide (q.h.op = 0x1C) && decide (bits q.h.payload 16 14 = 1) && decide (e.armed = true) && decide (bit e.fmask g = true) && decide (bit e.rcvd g = false) && decide (2 ≤ e.remainf)) = true ∧
  (let s : State := inb (rt {armed:=true,fmask:=7,rcvd:=5,remainf:=1,epoch:=true} 7) 0 .ctl 3 (barQ 1 7 96 0 1);
    let f : FieldId := 0;
    let q : Packet := barQ 1 7 96 0 1;
    let c := s.fld f.val;
    let o := originOf f.val;
    let i := bits q.h.payload 13 0;
    let e := sget {} c.barRoot i;
    let g := fieldAt q.h.sy q.h.sx;
    decide (c.rst = false) && decide (s.front o .ctl 3 = some q) && decide (q.h.op = 0x1C) && decide (bits q.h.payload 16 14 = 1) && decide (e.armed = true) && decide (bit e.fmask g = true) && decide (bit e.rcvd g = false) && decide (e.remainf = 1) && decide (e.sys = false) && decide (e.epoch = true)) = true ∧
  (let s : State := { (inb (rt {armed:=true,fmask:=3,rcvd:=1,remainf:=1} 7) 0 .ctl 3 (barQ 1 7 96 0 1)) with fields := [(0,{fup with barRoot := [(7,{armed:=true,fmask:=3,rcvd:=1,remainf:=1})]}),(1,fup)]};
    let f : FieldId := 0;
    let q : Packet := barQ 1 7 96 0 1;
    let c := s.fld f.val;
    let o := originOf f.val;
    let i := bits q.h.payload 13 0;
    let e := sget {} c.barRoot i;
    let g := fieldAt q.h.sy q.h.sx;
    decide (c.rst = false) && decide (s.front o .ctl 3 = some q) && decide (q.h.op = 0x1C) && decide (bits q.h.payload 16 14 = 1) && decide (e.armed = true) && decide (bit e.fmask g = true) && decide (bit e.rcvd g = false) && decide (e.remainf = 1) && decide (e.sys = false) && decide (e.epoch = false)) = true ∧
  (let s : State := inb (rt {armed:=true,fmask:=7,rcvd:=5,remainf:=1,sys:=true,epoch:=true} 7) 0 .ctl 3 (barQ 1 7 96 0 1);
    let f : FieldId := 0;
    let q : Packet := barQ 1 7 96 0 1;
    let c := s.fld f.val;
    let o := originOf f.val;
    let i := bits q.h.payload 13 0;
    let e := sget {} c.barRoot i;
    let g := fieldAt q.h.sy q.h.sx;
    decide (c.rst = false) && decide (s.front o .ctl 3 = some q) && decide (q.h.op = 0x1C) && decide (bits q.h.payload 16 14 = 1) && decide (e.armed = true) && decide (bit e.fmask g = true) && decide (bit e.rcvd g = false) && decide (e.remainf = 1) && decide (e.sys = true)) = true ∧
  (let s : State := inb (rt {armed:=true,fmask:=3,rcvd:=3,remainf:=1} 7) 0 .ctl 3 (barQ 1 7 96 0 1);
    let f : FieldId := 0;
    let q : Packet := barQ 1 7 96 0 1;
    let c := s.fld f.val;
    let o := originOf f.val;
    let i := bits q.h.payload 13 0;
    let e := sget {} c.barRoot i;
    let g := fieldAt q.h.sy q.h.sx;
    decide (c.rst = false) && decide (s.front o .ctl 3 = some q) && decide (q.h.op = 0x1C) && decide (bits q.h.payload 16 14 = 1) && decide (e.armed = false ∨ bit e.fmask g = false ∨ bit e.rcvd g = true)) = true ∧
  (let s : State := inb (rt {armed:=true,sys:=true,sysroot:=true,remainp:=2,expectp:=2} 7) 0 .ctl 3 (barQ 4 7 0 0 1);
    let f : FieldId := 0;
    let q : Packet := barQ 4 7 0 0 1;
    let c := s.fld f.val;
    let o := originOf f.val;
    let i := bits q.h.payload 13 0;
    let e := sget {} c.barRoot i;
    decide (c.rst = false) && decide (s.front o .ctl 3 = some q) && decide (q.h.op = 0x1C) && decide (bits q.h.payload 16 14 = 4) && decide (e.armed = true) && decide (e.sys = true) && decide (e.sysroot = true) && decide (2 ≤ e.remainp)) = true ∧
  (let s : State := inb (rt {armed:=true,sys:=true,sysroot:=true,remainp:=1,expectp:=2} 7) 0 .ctl 3 (barQ 4 7 0 0 1);
    let f : FieldId := 0;
    let q : Packet := barQ 4 7 0 0 1;
    let c := s.fld f.val;
    let o := originOf f.val;
    let i := bits q.h.payload 13 0;
    let e := sget {} c.barRoot i;
    decide (c.rst = false) && decide (s.front o .ctl 3 = some q) && decide (q.h.op = 0x1C) && decide (bits q.h.payload 16 14 = 4) && decide (e.armed = true) && decide (e.sys = true) && decide (e.sysroot = true) && decide (e.remainp = 1)) = true := by
  decide +kernel

theorem wit_BarrierRoot_2 :
  (let s : State := inb (rt {armed:=true,sys:=true,epoch:=true,lastf:=4} 7) 0 .ctl 3 (barQ 5 7 0 0 1);
    let f : FieldId := 0;
    let q : Packet := barQ 5 7 0 0 1;
    let c := s.fld f.val;
    let o := originOf f.val;
    let i := bits q.h.payload 13 0;
    let e := sget {} c.barRoot i;
    decide (c.rst = false) && decide (s.front o .ctl 3 = some q) && decide (q.h.op = 0x1C) && decide (bits q.h.payload 16 14 = 5) && decide (e.armed = true) && decide (e.sys = true) && decide (e.epoch = true)) = true ∧
  (let s : State := inb (rt {armed:=true,sys:=true,epoch:=false,lastf:=4} 7) 0 .ctl 3 (barQ 5 7 0 0 1);
    let f : FieldId := 0;
    let q : Packet := barQ 5 7 0 0 1;
    let c := s.fld f.val;
    let o := originOf f.val;
    let i := bits q.h.payload 13 0;
    let e := sget {} c.barRoot i;
    decide (c.rst = false) && decide (s.front o .ctl 3 = some q) && decide (q.h.op = 0x1C) && decide (bits q.h.payload 16 14 = 5) && decide (e.armed = true) && decide (e.sys = true) && decide (e.epoch = false)) = true ∧
  (let s : State := inb (rt {sys:=true} 7) 0 .ctl 3 (barQ 5 7 0 0 1);
    let f : FieldId := 0;
    let q : Packet := barQ 5 7 0 0 1;
    let c := s.fld f.val;
    let o := originOf f.val;
    let i := bits q.h.payload 13 0;
    let e := sget {} c.barRoot i;
    decide (c.rst = false) && decide (s.front o .ctl 3 = some q) && decide (q.h.op = 0x1C) && ([(Instr.pdone f, 4), (.prelease f, 5)]).any (fun k =>
    decide (bits q.h.payload 16 14 = k.2) && decide (e.armed = false))) = true := by
  decide +kernel

theorem wit_BarrierRelease :
  (let s : State := nd {scope:=2,rootf:=3} 7 {fup with relF := [{id:=7,lastf:=1,cut:=true,epoch:=false,src:=3}]};
    let x : Rel := {id:=7,lastf:=1,cut:=true,epoch:=false,src:=3};
    let f : FieldId := 0;
    let rest : List Rel := [];
    let c := s.fld f.val;
    let e := sget {} c.barNode x.id;
    decide (c.rst = false) && decide (c.relF = x :: rest) && decide (2 ≤ e.scope) && decide (e.rootf = x.src)) = true ∧
  (let s : State := nd {scope:=2,rootf:=4} 7 {fup with relF := [{id:=7,lastf:=1,cut:=true,epoch:=false,src:=3}]};
    let x : Rel := {id:=7,lastf:=1,cut:=true,epoch:=false,src:=3};
    let f : FieldId := 0;
    let rest : List Rel := [];
    let c := s.fld f.val;
    let e := sget {} c.barNode x.id;
    decide (c.rst = false) && decide (c.relF = x :: rest) && decide (e.scope < 2 ∨ e.rootf ≠ x.src)) = true ∧
  (let s : State := { st1 {fup with relLog := [{id:=7,lastf:=1,cut:=true,epoch:=false,src:=3}]} with tiles := [(0,{pend := [(2,{valid:=true,sent:=true,id:=7})]})]};
    let x : Rel := {id:=7,lastf:=1,cut:=true,epoch:=false,src:=3};
    let r : TileId := 0;
    let t := s.tile r.val;
    decide ((s.fld (fieldOf r.val)).relLog[t.relSeen]? = some x)) = true ∧
  (let s : State := { fields := [(9,{fup with relLog := [{id:=7,lastf:=1,cut:=true,epoch:=false,src:=3}]})], press := [(0,{rst:=false,cores:=[(1,{pend := [(2,{valid:=true,sent:=true,id:=7})]})]})]};
    let x : Rel := {id:=7,lastf:=1,cut:=true,epoch:=false,src:=3};
    let c : ClusterId := 0;
    decide ((s.prs c.val).rst = false) && decide ((s.fld (fieldOfCluster c.val)).relLog[(s.prs c.val).relSeen]? = some x)) = true := by
  decide +kernel

end W09B

namespace W10

theorem wit_MeshRouting_1 :
  (let topo : W32 := 0#32;
    let r : Nat := 770;
    let h : Hdr := {dx:=5,dy:=3};
    let back : RPort := .loc;
    let d := destOf topo h back;
    let x := colOf d.1;
    decide (h.route = 0) && decide (colOf r < x)) = true ∧
  (let topo : W32 := 0#32;
    let r : Nat := 770;
    let h : Hdr := {dx:=1,dy:=3};
    let back : RPort := .loc;
    let d := destOf topo h back;
    let x := colOf d.1;
    decide (h.route = 0) && decide (x < colOf r)) = true ∧
  (let topo : W32 := 0#32;
    let r : Nat := 770;
    let h : Hdr := {dx:=2,dy:=3};
    let back : RPort := .loc;
    let d := destOf topo h back;
    let y := rowOf d.1;
    let x := colOf d.1;
    decide (h.route = 0) && decide (colOf r = x) && decide (rowOf r < y)) = true ∧
  (let topo : W32 := 0#32;
    let r : Nat := 770;
    let h : Hdr := {dx:=2,dy:=0};
    let back : RPort := .loc;
    let d := destOf topo h back;
    let y := rowOf d.1;
    let x := colOf d.1;
    decide (h.route = 0) && decide (colOf r = x) && decide (y < rowOf r)) = true ∧
  (let topo : W32 := 0#32;
    let r : Nat := 770;
    let h : Hdr := {dx:=2,dy:=1};
    let back : RPort := .loc;
    let d := destOf topo h back;
    let y := rowOf d.1;
    let x := colOf d.1;
    decide (h.route = 0) && decide (colOf r = x) && decide (rowOf r = y)) = true ∧
  (let topo : W32 := 0#32;
    let r : Nat := 770;
    let h : Hdr := {dx:=95,dy:=90,route:=4};
    let back : RPort := .loc;
    let d := destOf topo h back;
    let x := colOf d.1;
    decide (h.route = 4) && decide (colOf r < stopOf x)) = true ∧
  (let topo : W32 := 0#32;
    let r : Nat := 0;
    let h : Hdr := {dx:=5,dy:=90,route:=4};
    let back : RPort := .loc;
    let d := destOf topo h back;
    let y := rowOf d.1;
    let x := colOf d.1;
    decide (h.route = 4) && decide (colOf r = stopOf x) && decide (rowOf r < stopOf y)) = true ∧
  (let topo : W32 := 0#32;
    let r : Nat := 32;
    let h : Hdr := {dx:=36,dy:=5,route:=4};
    let back : RPort := .loc;
    let d := destOf topo h back;
    let y := rowOf d.1;
    let x := colOf d.1;
    decide (h.route = 4) && decide (colOf r = stopOf x) && decide (rowOf r = stopOf y) && decide (colOf r < x)) = true := by
  decide +kernel

theorem wit_MeshRouting_2 :
  (let topo : W32 := 0#32;
    let r : Nat := 768*16+32;
    let h : Hdr := {dx:=32,dy:=16,route:=4};
    let back : RPort := .loc;
    let d := destOf topo h back;
    let y := rowOf d.1;
    let x := colOf d.1;
    decide (h.route = 4) && decide (colOf r = stopOf x) && decide (rowOf r = stopOf y) && decide (colOf r = x) && decide (rowOf r = y)) = true := by
  decide +kernel

theorem wit_RouterForward_1 :
  (let s : State := lan ({ s01 {fup with sealAct := 0x00001FC0#32+0x200#32} {fup with sealAct := 0x00001FC0#32 + 0x200#32} with mesh := {} }) ⟨95,.w,0,false⟩ [fl1 {dx:=100,dy:=0,op:=1,sx:=0,pkey:=1}];
    let l : LaneId := ⟨95,.w,0,false⟩;
    let fl : Flit := fl1 {dx:=100,dy:=0,op:=1,sx:=0,pkey:=1};
    let rest : List Flit := [];
    let r := l.r.val;
    let k := laneKey r l.port l.ch.val l.b;
    let f := fieldOf r;
    let c := s.fld f;
    decide (c.rst = false) && decide (s.mesh.lane k = fl :: rest) && decide (fl.kind = .single) && decide (shas s.mesh.sink k = false) && decide (s.wdn.epM.contains f = false) && (let out := RPort.e;
    let b := false;
    let route := 0;
    let n := 96;
    let ip := RPort.w;
    decide (l.port = .loc → entryOk c.sealAct c.topo fl.h = true) && decide (nextHop c.topo r fl.h fl.back = .link out b route) && decide (neighbour r out = some (n, ip)) && decide (s.linkDead n ip = false) && (let ok := laneKey n ip fl.h.ch b;
    decide (shas s.mesh.owner ok = false) && decide (s.laneCredit ok = true) && decide (s.granted r k ok = true)))) = true ∧
  (let s : State := lan ({ s01 {fup with sealAct := 0x00001FC0#32+0x200#32} {fup with sealAct := 0x00001FC0#32 + 0x200#32} with mesh := {} }) ⟨95,.w,0,false⟩ [fl1 {dx:=100,dy:=0,op:=1,sx:=0,pkey:=1}];
    let l : LaneId := ⟨95,.w,0,false⟩;
    let fl : Flit := fl1 {dx:=100,dy:=0,op:=1,sx:=0,pkey:=1};
    let rest : List Flit := [];
    let r := l.r.val;
    let k := laneKey r l.port l.ch.val l.b;
    let f := fieldOf r;
    let c := s.fld f;
    decide (c.rst = false) && decide (s.mesh.lane k = fl :: rest) && decide (fl.kind = .single) && decide (shas s.mesh.sink k = false) && decide (s.wdn.epM.contains f = false) && (let out := RPort.e;
    let b := false;
    let route := 0;
    let n := 96;
    let ip := RPort.w;
    decide (l.port = .loc → entryOk c.sealAct c.topo fl.h = true) && decide (nextHop c.topo r fl.h fl.back = .link out b route) && decide (neighbour r out = some (n, ip)) && decide (s.linkDead n ip = false) && (let ok := laneKey n ip fl.h.ch b;
    decide (shas s.mesh.owner ok = false) && decide (s.laneCredit ok = true) && decide (s.granted r k ok = true) && decide (l.port ≠ .loc) && decide (l.port ≠ .ctl)))) = true ∧
  (let s : State := { lan (st1 fup) ⟨0,.loc,0,false⟩ [fl1 {dx:=5,dy:=0,op:=1,sx:=0}] with mesh := { (lan (st1 fup) ⟨0,.loc,0,false⟩ [fl1 {dx:=5,dy:=0,op:=1,sx:=0}]).mesh with used := [(laneKey 1 .w 0 false, 1000)] } };
    let l : LaneId := ⟨0,.loc,0,false⟩;
    let fl : Flit := fl1 {dx:=5,dy:=0,op:=1,sx:=0};
    let rest : List Flit := [];
    let r := l.r.val;
    let k := laneKey r l.port l.ch.val l.b;
    let f := fieldOf r;
    let c := s.fld f;
    decide (c.rst = false) && decide (s.mesh.lane k = fl :: rest) && decide (fl.kind = .single) && decide (shas s.mesh.sink k = false) && decide (s.wdn.epM.contains f = false) && (let out := RPort.e;
    let b := false;
    let route := 0;
    let n := 1;
    let ip := RPort.w;
    decide (l.port = .loc → entryOk c.sealAct c.topo fl.h = true) && decide (nextHop c.topo r fl.h fl.back = .link out b route) && decide (neighbour r out = some (n, ip)) && decide (s.linkDead n ip = false) && (let ok := laneKey n ip fl.h.ch b;
    decide (shas s.mesh.owner ok = true ∨ s.laneCredit ok = false ∨ s.granted r k ok = false)))) = true ∧
  (let s : State := lan (st1 fup) ⟨5,.w,0,false⟩ [fl1 {dx:=5,dy:=0,op:=1,sx:=0}];
    let l : LaneId := ⟨5,.w,0,false⟩;
    let fl : Flit := fl1 {dx:=5,dy:=0,op:=1,sx:=0};
    let rest : List Flit := [];
    let r := l.r.val;
    let k := laneKey r l.port l.ch.val l.b;
    let f := fieldOf r;
    let c := s.fld f;
    decide (c.rst = false) && decide (s.mesh.lane k = fl :: rest) && decide (fl.kind = .single) && decide (shas s.mesh.sink k = false) && decide (s.wdn.epM.contains f = false) && (let out := RPort.loc;
    decide (l.port = .loc → entryOk c.sealAct c.topo fl.h = true) && decide (exitOk c.sealAct c.topo fl.h = true ∨ l.port = .loc ∧ out = .loc) && decide (nextHop c.topo r fl.h fl.back = .here out) && decide (out = .loc ∨ out = .ctl) && decide (takesOp out fl.h.op = true) && decide (fl.h.op ≠ 0x1C) && decide (fl.h.op ≠ 0x18) && decide (fl.h.ch ≠ 2) && decide (s.portDead r out fl.h = false) && (let ok := laneKey r out fl.h.ch true;
    decide (shas s.mesh.owner ok = false) && decide (s.granted r k ok = true)))) = true := by
  decide +kernel

theorem wit_RouterForward_2 :
  (let s : State := lan (s01 { fup with sealAct := 0x01001000#32 }) ⟨0,.loc,0,false⟩ [fl1 {dx:=100,dy:=0,op:=1,sx:=0,pkey:=2,tag:=3}];
    let l : LaneId := ⟨0,.loc,0,false⟩;
    let fl : Flit := fl1 {dx:=100,dy:=0,op:=1,sx:=0,pkey:=2,tag:=3};
    let rest : List Flit := [];
    let r := l.r.val;
    let k := laneKey r l.port l.ch.val l.b;
    let f := fieldOf r;
    let c := s.fld f;
    decide (c.rst = false) && decide (s.mesh.lane k = fl :: rest) && decide (fl.kind = .single) && decide (shas s.mesh.sink k = false) && decide (s.wdn.epM.contains f = false) && decide (l.port = .loc) && decide (entryOk c.sealAct c.topo fl.h = false) && decide (s.canInject r .loc 1 = true)) = true ∧
  (let s : State := lan (s01 { fup with sealAct := 0x01001000#32 }) ⟨1,.w,0,false⟩ [fl1 {dx:=1,dy:=0,op:=1,sx:=300,sy:=9,pkey:=2,tag:=3}];
    let l : LaneId := ⟨1,.w,0,false⟩;
    let fl : Flit := fl1 {dx:=1,dy:=0,op:=1,sx:=300,sy:=9,pkey:=2,tag:=3};
    let rest : List Flit := [];
    let r := l.r.val;
    let k := laneKey r l.port l.ch.val l.b;
    let f := fieldOf r;
    let c := s.fld f;
    decide (c.rst = false) && decide (s.mesh.lane k = fl :: rest) && decide (fl.kind = .single) && decide (shas s.mesh.sink k = false) && decide (s.wdn.epM.contains f = false) && (let out := .loc;
    decide (l.port = .loc → entryOk c.sealAct c.topo fl.h = true) && decide (nextHop c.topo r fl.h fl.back = .here out) && decide (exitOk c.sealAct c.topo fl.h = false) && decide (l.port ≠ .loc ∨ out ≠ .loc) && decide (s.canInject r .loc 1 = true))) = true ∧
  (let s : State := { lan (st1 fup) ⟨0,.loc,0,false⟩ [fl1 {dx:=5,dy:=0,op:=1,sx:=0}] with mesh := { (lan (st1 fup) ⟨0,.loc,0,false⟩ [fl1 {dx:=5,dy:=0,op:=1,sx:=0}]).mesh with failed := [(portKey 1 .w 0, true)] } };
    let l : LaneId := ⟨0,.loc,0,false⟩;
    let fl : Flit := fl1 {dx:=5,dy:=0,op:=1,sx:=0};
    let rest : List Flit := [];
    let r := l.r.val;
    let k := laneKey r l.port l.ch.val l.b;
    let f := fieldOf r;
    let c := s.fld f;
    decide (c.rst = false) && decide (s.mesh.lane k = fl :: rest) && decide (fl.kind = .single) && decide (shas s.mesh.sink k = false) && decide (s.wdn.epM.contains f = false) && (let out := RPort.e;
    let b := false;
    let route := 0;
    let n := 1;
    let ip := RPort.w;
    decide (l.port = .loc → entryOk c.sealAct c.topo fl.h = true) && decide (nextHop c.topo r fl.h fl.back = .link out b route) && decide (neighbour r out = some (n, ip)) && decide (s.linkDead n ip = true) && decide (fl.h.ch = 0 ∨ fl.h.ch = 2) && decide (s.canInject r .loc 1 = true))) = true := by
  decide +kernel

theorem wit_HopErrors :
  (let s : State := { lan (s01 fup fup) ⟨95,.w,0,false⟩ [fl1 {dx:=100,dy:=0,op:=1,sx:=0,pkey:=1}] with mesh := { (lan (s01 fup fup) ⟨95,.w,0,false⟩ [fl1 {dx:=100,dy:=0,op:=1,sx:=0,pkey:=1}]).mesh with sent := [(portKey 95 .w 0, [(laneKey 95 .w 0 false, fl1 {dx:=100,dy:=0,op:=1,sx:=0,pkey:=1})])] } };
    let l : LaneId := ⟨95,.w,0,false⟩;
    let r := l.r.val;
    let k := laneKey r l.port l.ch.val l.b;
    let dir := portKey r l.port 0;
    let f := fieldOf r;
    let c := s.fld f;
    let checked := l.port ≠ .loc ∧ l.port ≠ .ctl;
    let fls := s.mesh.lane k;
    let pre := [];
    decide (checked) && decide (c.rst = false) && decide (fls ≠ []) && decide (s.wdn.epM.contains f = false) && decide (sget [] s.mesh.sent dir = pre ++ fls.map (fun x => (k, x))) && decide (sget 0 s.mesh.ueCnt k < 2)) = true ∧
  (let s : State := { lan (s01 fup fup) ⟨95,.w,0,false⟩ [fl1 {dx:=100,dy:=0,op:=1,sx:=0,pkey:=1}] with mesh := { (lan (s01 fup fup) ⟨95,.w,0,false⟩ [fl1 {dx:=100,dy:=0,op:=1,sx:=0,pkey:=1}]).mesh with sent := [(portKey 95 .w 0, [(laneKey 95 .w 0 false, fl1 {dx:=100,dy:=0,op:=1,sx:=0,pkey:=1})])], ueCnt := [(laneKey 95 .w 0 false, 2)] } };
    let l : LaneId := ⟨95,.w,0,false⟩;
    let r := l.r.val;
    let k := laneKey r l.port l.ch.val l.b;
    let dir := portKey r l.port 0;
    let f := fieldOf r;
    let c := s.fld f;
    let checked := l.port ≠ .loc ∧ l.port ≠ .ctl;
    let fls := s.mesh.lane k;
    let pre := [];
    decide (checked) && decide (c.rst = false) && decide (fls ≠ []) && decide (s.wdn.epM.contains f = false) && decide (sget [] s.mesh.sent dir = pre ++ fls.map (fun x => (k, x))) && decide (2 ≤ sget 0 s.mesh.ueCnt k) && decide (c.linkFail.getLsbD 31 = false)) = true ∧
  (let s : State := { lan (s01 fup fup) ⟨95,.w,0,false⟩ [fl1 {dx:=100,dy:=0,op:=1,sx:=0,pkey:=1}] with mesh := { (lan (s01 fup fup) ⟨95,.w,0,false⟩ [fl1 {dx:=100,dy:=0,op:=1,sx:=0,pkey:=1}]).mesh with replay := [(portKey 95 .w 0, [(laneKey 95 .w 0 false, fl1 {dx:=100,dy:=0,op:=1,sx:=0,pkey:=1})])] } };
    let l : LaneId := ⟨95,.w,0,false⟩;
    let r := l.r.val;
    let k := laneKey r l.port l.ch.val l.b;
    let dir := portKey r l.port 0;
    let again := [fl1 {dx:=100,dy:=0,op:=1,sx:=0,pkey:=1}];
    decide (sget [] s.mesh.replay dir = again.map (fun x => (k, x)))) = true ∧
  (let s : State := { lan ({ s01 {fup with sealAct := 0x00001FC0#32+0x200#32} {fup with sealAct := 0x00001FC0#32 + 0x200#32} with mesh := {} }) ⟨95,.w,0,false⟩ [fl1 {dx:=100,dy:=0,op:=1,sx:=0,pkey:=1}] with mesh := { (lan ({ s01 {fup with sealAct := 0x00001FC0#32+0x200#32} {fup with sealAct := 0x00001FC0#32 + 0x200#32} with mesh := {} }) ⟨95,.w,0,false⟩ [fl1 {dx:=100,dy:=0,op:=1,sx:=0,pkey:=1}]).mesh with used := [(laneKey 95 .w 0 false, 2)], retn := [(laneKey 95 .w 0 false, 1)] } };
    let l : LaneId := ⟨95,.w,0,false⟩;
    let r := l.r.val;
    let k := laneKey r l.port l.ch.val l.b;
    decide (isLink l.port = true) && decide (1 ≤ sget 0 s.mesh.retn k)) = true ∧
  (let s : State := { lan ({ s01 {fup with sealAct := 0x00001FC0#32+0x200#32} {fup with sealAct := 0x00001FC0#32 + 0x200#32} with mesh := {} }) ⟨95,.w,0,false⟩ [fl1 {dx:=100,dy:=0,op:=1,sx:=0,pkey:=1}] with mesh := { (lan ({ s01 {fup with sealAct := 0x00001FC0#32+0x200#32} {fup with sealAct := 0x00001FC0#32 + 0x200#32} with mesh := {} }) ⟨95,.w,0,false⟩ [fl1 {dx:=100,dy:=0,op:=1,sx:=0,pkey:=1}]).mesh with used := [(laneKey 95 .w 0 false, 2)], retn := [(laneKey 95 .w 0 false, 1)] } };
    let l : LaneId := ⟨95,.w,0,false⟩;
    let r := l.r.val;
    let k := laneKey r l.port l.ch.val l.b;
    let checked := l.port ≠ .loc ∧ l.port ≠ .ctl;
    decide (checked) && decide (¬ (l.port = .gate ∧ l.ch.val = 3)) && decide (1 ≤ sget 0 s.mesh.retn k)) = true ∧
  (let s : State := { lan ({ s01 {fup with sealAct := 0x00001FC0#32+0x200#32} {fup with sealAct := 0x00001FC0#32 + 0x200#32} with mesh := {} }) ⟨95,.w,0,false⟩ [fl1 {dx:=100,dy:=0,op:=1,sx:=0,pkey:=1}] with mesh := { (lan ({ s01 {fup with sealAct := 0x00001FC0#32+0x200#32} {fup with sealAct := 0x00001FC0#32 + 0x200#32} with mesh := {} }) ⟨95,.w,0,false⟩ [fl1 {dx:=100,dy:=0,op:=1,sx:=0,pkey:=1}]).mesh with used := [(laneKey 0 .loc 0 false, 2)], retn := [(laneKey 0 .loc 0 false, 1)] } };
    let l : LaneId := ⟨0,.loc,0,false⟩;
    let r := l.r.val;
    let k := laneKey r l.port l.ch.val l.b;
    let dir := portKey r l.port 0;
    let checked := l.port ≠ .loc ∧ l.port ≠ .ctl;
    let ue := default;
    decide (isLink l.port = false) && decide (l.b = false) && decide (l.ch.val ≠ 3) && decide (ue = false ∨ ¬ checked) && decide (1 ≤ sget 0 s.mesh.retn k) && decide (sget false s.mesh.stopped k = false) && decide (shas s.mesh.replay dir = false)) = true := by
  decide +kernel

end W10

namespace W11

theorem wit_ClockTarget :
  (let s : State := st1 {fup with tracking:=false};
    let p : Party := .wardenFw;
    let f : FieldId := 0;
    let v : W32 := 16#32;
    let c := s.fld f.val;
    let legal := p = .wardenFw ∨ p = .pressS ∨ p = .pressM;
    decide (c.rst = false) && decide (legal) && decide (bits v 4 0 ≤ 16)) = true ∧
  (let s : State := st1 fup;
    let p : Party := .wardenFw;
    let f : FieldId := 0;
    let v : W32 := 17#32;
    let c := s.fld f.val;
    let legal := p = .wardenFw ∨ p = .pressS ∨ p = .pressM;
    decide (c.rst = false) && decide (¬ legal ∨ 16 < bits v 4 0)) = true := by
  decide +kernel

theorem wit_ClockChange :
  (let s : State := st1 {fup with tracking:=true,clkTgt:=3,op:=5,eff:=3,change:=some {goal:=3,rising:=true}};
    let f : FieldId := 0;
    let h : OpChange := {goal:=3,rising:=true};
    let c := s.fld f.val;
    decide (c.rst = false) && decide (c.change = some h)) = true := by
  decide +kernel

theorem wit_HarvestControl :
  (let s : State := st1 {fup with shWin:={cyc:=9},quiet:=3};
    let p : Party := .wardenFw;
    let f : FieldId := 0;
    let v : W32 := 0x8FF00059#32;
    let c := s.fld f.val;
    let legal := p = .wardenFw ∨ p = .pressS ∨ p = .pressM;
    let bad := 16 < bits v 11 7 ∨ bits v 6 2 < 16 ∨ 26 < bits v 6 2;
    let same := bit v 1 = bit c.shCtl 1 ∧ bits v 6 2 = bits c.shCtl 6 2;
    decide (c.rst = false) && decide (legal) && decide (¬ bad) && decide (same) && decide (bit v 0 = true)) = true ∧
  (let s : State := st1 {fup with shWin:={cyc:=9},quiet:=3};
    let p : Party := .wardenFw;
    let f : FieldId := 0;
    let v : W32 := 0x8010005B#32;
    let c := s.fld f.val;
    let legal := p = .wardenFw ∨ p = .pressS ∨ p = .pressM;
    let bad := 16 < bits v 11 7 ∨ bits v 6 2 < 16 ∨ 26 < bits v 6 2;
    let same := bit v 1 = bit c.shCtl 1 ∧ bits v 6 2 = bits c.shCtl 6 2;
    decide (c.rst = false) && decide (legal) && decide (¬ bad) && decide (¬ same) && decide (bit v 0 = true)) = true ∧
  (let s : State := st1 {fup with shWin:={cyc:=9},quiet:=3};
    let p : Party := .wardenFw;
    let f : FieldId := 0;
    let v : W32 := 0x80100058#32;
    let c := s.fld f.val;
    let legal := p = .wardenFw ∨ p = .pressS ∨ p = .pressM;
    let bad := 16 < bits v 11 7 ∨ bits v 6 2 < 16 ∨ 26 < bits v 6 2;
    decide (c.rst = false) && decide (legal) && decide (¬ bad) && decide (bit v 0 = false)) = true ∧
  (let s : State := st1 {fup with shWin:={cyc:=9},quiet:=3};
    let p : Party := .wardenFw;
    let f : FieldId := 0;
    let v : W32 := 0x801008D9#32;
    let c := s.fld f.val;
    let legal := p = .wardenFw ∨ p = .pressS ∨ p = .pressM;
    let bad := 16 < bits v 11 7 ∨ bits v 6 2 < 16 ∨ 26 < bits v 6 2;
    decide (c.rst = false) && decide (¬ legal ∨ bad)) = true ∧
  (let s : State := st1 {fup with shWin:={cyc:=9},quiet:=3};
    let p : Party := .wardenFw;
    let f : FieldId := 0;
    let v : W32 := 0xFFFFFFFF#32;
    let c := s.fld f.val;
    let legal := p = .wardenFw ∨ p = .pressS ∨ p = .pressM;
    decide (c.rst = false) && decide (legal) && decide (bits v 13 0 ≠ c.shBar)) = true ∧
  (let s : State := st1 {fup with shWin:={cyc:=9},quiet:=3};
    let p : Party := .wardenFw;
    let f : FieldId := 0;
    let v : W32 := 0xFFFFC000#32;
    let c := s.fld f.val;
    let legal := p = .wardenFw ∨ p = .pressS ∨ p = .pressM;
    decide (c.rst = false) && decide (legal) && decide (bits v 13 0 = c.shBar)) = true ∧
  (let s : State := st1 {fup with shWin:={cyc:=9},quiet:=3};
    let p : Party := .hostPcie;
    let f : FieldId := 0;
    let c := s.fld f.val;
    let legal := p = .wardenFw ∨ p = .pressS ∨ p = .pressM;
    decide (c.rst = false) && decide (¬ legal)) = true := by
  decide +kernel

theorem wit_HarvestWindow :
  (let s : State := st1 {fup with shCtl:=0x80100059#32,quiet:=0,eff:=0,shWin:={act:=0,cyc:=100,wait:=0,rel:=0,last:=0}};
    let f : FieldId := 0;
    let c := s.fld f.val;
    decide (c.rst = false)) = true := by
  decide +kernel

theorem wit_PowerInputs_1 :
  (let s : State := { st1 {fup with tracking:=true} with wdn := { ceil := [(0,4)] } };
    let f : FieldId := 0;
    let c := s.fld f.val;
    let w := s.wdn;
    decide (c.rst = false) && decide (bit w.dead f.val = false)) = true ∧
  (let s : State := st1 fup;
    let f : FieldId := 1;
    let c := s.fld f.val;
    let w := s.wdn;
    decide (c.rst = true ∨ bit w.dead f.val = true)) = true ∧
  (let s : State := busy;
    let d : DieId := 2;
    decide ((s.rim d.val).rst = false)) = true ∧
  (let s : State := busy;
    let e : ClusterId := 3;
    decide ((s.prs e.val).rst = false)) = true ∧
  (let s : State := st1 fup;
    let p : Party := .wardenFw;
    let w := s.wdn;
    let host := (p = .hostPcie ∨ p = .hostWin) ∧ w.periphUp = true ∧ w.zeroWin = false;
    decide (p = .wardenFw ∨ host)) = true ∧
  (let p : Party := .tileSelf;
    let other := p = .tileSelf ∨ p = .tileSw ∨ p = .pressS ∨ p = .pressM ∨ p = .pressU;
    decide (other)) = true ∧
  (let s : State := busy;
    let p : Party := .tileSelf;
    let w := s.wdn;
    let host := (p = .hostPcie ∨ p = .hostWin) ∧ w.periphUp = true ∧ w.zeroWin = false;
    let other := p = .tileSelf ∨ p = .tileSw ∨ p = .pressS ∨ p = .pressM ∨ p = .pressU;
    decide (other ∨ host)) = true ∧
  (let p : Party := .wardenFw;
    decide (p = .wardenFw)) = true := by
  decide +kernel

theorem wit_PowerInputs_2 :
  (let s : State := { st1 {fup with tracking:=true,down:=[.ceil,.colmap]} with wdn := { ceil := [(0,4)] } };
    let f : FieldId := 0;
    let c := s.fld f.val;
    let w := s.wdn;
    decide (c.rst = false) && decide (bit w.dead f.val = false) && decide (styNext c.down true = some .ceil)) = true := by
  decide +kernel

theorem wit_FieldRegisters :
  (let s : State := { fields := [(9,{fup with meshStat:=0xF#32,burnUea:=0xFFFFFFFF#32,evt:=0x1FF#32})] };
    let p : Party := .wardenFw;
    let f : FieldId := 9;
    let v : W32 := 0x00001FC0#32;
    let c := s.fld f.val;
    let inside := bits v 2 0 ≤ f.val / 8 ∧ f.val / 8 ≤ bits v 8 6 ∧ bits v 5 3 ≤ f.val % 8 ∧ f.val % 8 ≤ bits v 11 9;
    decide (c.rst = false) && decide (p = .wardenFw ∨ p = .pressM) && decide (bits v 23 12 ≠ 0) && decide (inside)) = true ∧
  (let s : State := { fields := [(9,{fup with meshStat:=0xF#32,burnUea:=0xFFFFFFFF#32,evt:=0x1FF#32})] };
    let p : Party := .pressS;
    let f : FieldId := 9;
    let v : W32 := 0x00001FC0#32;
    let c := s.fld f.val;
    let inside := bits v 2 0 ≤ f.val / 8 ∧ f.val / 8 ≤ bits v 8 6 ∧ bits v 5 3 ≤ f.val % 8 ∧ f.val % 8 ≤ bits v 11 9;
    decide (c.rst = false) && decide (¬ (p = .wardenFw ∨ p = .pressM) ∨ bits v 23 12 = 0 ∨ ¬ inside)) = true ∧
  (let s : State := { fields := [(9,{fup with meshStat:=0xF#32,burnUea:=0xFFFFFFFF#32,evt:=0x1FF#32})] };
    let p : Party := .wardenFw;
    let f : FieldId := 9;
    let c := s.fld f.val;
    let legal := p = .wardenFw ∨ p = .pressS ∨ p = .pressM;
    decide (c.rst = false) && decide (legal)) = true ∧
  (let s : State := { fields := [(9,{fup with meshStat:=0xF#32,burnUea:=0xFFFFFFFF#32,evt:=0x1FF#32})] };
    let p : Party := .wardenFw;
    let f : FieldId := 9;
    let v : W32 := 0x1EF#32;
    let c := s.fld f.val;
    let legal := p = .wardenFw ∨ p = .pressS ∨ p = .pressM;
    decide (c.rst = false) && decide (legal) && decide (bit v 4 = false)) = true ∧
  (let s : State := { fields := [(9,{fup with meshStat:=0xF#32,burnUea:=0xFFFFFFFF#32,evt:=0x1FF#32})] };
    let p : Party := .wardenFw;
    let f : FieldId := 9;
    let v : W32 := 0x10#32;
    let c := s.fld f.val;
    let legal := p = .wardenFw ∨ p = .pressS ∨ p = .pressM;
    decide (c.rst = false) && decide (legal) && decide (bit v 4 = true)) = true ∧
  (let s : State := { fields := [(9,{fup with meshStat:=0xF#32,burnUea:=0xFFFFFFFF#32,evt:=0x1FF#32})] };
    let p : Party := .wardenFw;
    let f : FieldId := 9;
    let v : W32 := 0x8#32;
    let c := s.fld f.val;
    let legal := p = .wardenFw ∨ p = .pressS ∨ p = .pressM;
    decide (c.rst = false) && decide (legal) && decide (4 ≤ bits v 4 1)) = true ∧
  (let s : State := { fields := [(9,{fup with meshStat:=0xF#32,burnUea:=0xFFFFFFFF#32,evt:=0x1FF#32})] };
    let p : Party := .wardenFw;
    let f : FieldId := 9;
    let v : W32 := 0x7#32;
    let c := s.fld f.val;
    let legal := p = .wardenFw ∨ p = .pressS ∨ p = .pressM;
    decide (c.rst = false) && decide (legal) && decide (bits v 4 1 < 4)) = true ∧
  (let s : State := { fields := [(9,{fup with meshStat:=0xF#32,burnUea:=0xFFFFFFFF#32,evt:=0x1FF#32})] };
    let p : Party := .hostPcie;
    let f : FieldId := 9;
    let c := s.fld f.val;
    let legal := p = .wardenFw ∨ p = .pressS ∨ p = .pressM;
    decide (c.rst = false) && decide (¬ legal)) = true := by
  decide +kernel

end W11

namespace W12

theorem wit_WideResets_1 :
  (let s : State := busy;
    let ns : Nat := 200;
    let w := s.wdn;
    decide (w.trayLow = false) && decide (200 ≤ ns) && decide (w.governs .tray = true)) = true ∧
  (let ns : Nat := 99;
    decide (ns < 100)) = true ∧
  (let s : State := busy;
    let ns : Nat := 100;
    let w := s.wdn;
    decide (w.trayLow = false) && decide (100 ≤ ns) && decide (ns < 200)) = true ∧
  (let s : State := busy;
    let w := s.wdn;
    decide (w.governs .plate = true)) = true ∧
  (let s : State := { busy with wdn := { busy.wdn with rstRef:=false } };
    let w := s.wdn;
    let p : Party := .pressS;
    decide (p ≠ .wardenFw) && decide (p = .hostPcie ∨ p = .hostWin → w.periphUp = true ∧ w.zeroWin = false) && ([Instr.plateReset p, .rstGo p]).any (fun c =>
    true)) = true ∧
  (let s : State := { busy with wdn := { busy.wdn with zeroWin:=true } };
    let w := s.wdn;
    ([Party.hostPcie, .hostWin]).any (fun p =>
    ([Instr.plateReset p, .rstGo p]).any (fun c =>
    decide (w.zeroWin = true)))) = true ∧
  (let s : State := { busy with wdn := { busy.wdn with zeroWin:=false,periphUp:=false } };
    let w := s.wdn;
    ([Party.hostPcie, .hostWin]).any (fun p =>
    ([Instr.plateReset p, .rstGo p]).any (fun c =>
    decide (w.zeroWin = false) && decide (w.periphUp = false)))) = true ∧
  (let s : State := { busy with wdn := { busy.wdn with cls:=.por,stage:=2,trayLow:=false } };
    let ns : Nat := 200;
    let w := s.wdn;
    decide (w.governs .tray = false) && decide (w.asserted = false) && decide (w.trayLow = false) && decide (200 ≤ ns)) = true := by
  decide +kernel

theorem wit_WideResets_2 :
  (let s : State := { busy with wdn := { busy.wdn with cls:=.por,stage:=2 } };
    let w := s.wdn;
    decide (w.governs .plate = false) && decide (w.asserted = false)) = true ∧
  (let s : State := busy;
    let w := s.wdn;
    decide (w.cls ≠ .por ∨ w.asserted = false)) = true ∧
  (let s : State := { busy with wdn := { busy.wdn with cls:=.por,asserted:=true } };
    let w := s.wdn;
    decide (w.cls = .por) && decide (w.asserted = true)) = true ∧
  (let s : State := busy;
    let w := s.wdn;
    decide (w.refOk = true)) = true ∧
  (let s : State := { busy with wdn := { busy.wdn with refOk:=false,cls:=.por,asserted:=true } };
    let w := s.wdn;
    decide (w.refOk = false) && decide (w.asserted = true) && decide (w.cls = .por)) = true ∧
  (let s : State := { busy with wdn := { busy.wdn with refOk:=false } };
    let w := s.wdn;
    decide (w.refOk = false) && decide (¬ (w.asserted = true ∧ w.cls = .por))) = true := by
  decide +kernel

theorem wit_ReleaseOrder_1 :
  (let s : State := {};
    let w := s.wdn;
    decide (w.cls = .por) && decide (w.asserted = true) && decide (w.zeroHold = false) && decide (w.refOk = true) && decide (s.krovas.pwr = true) && decide (w.trayLow = false)) = true ∧
  (let s : State := { busy with wdn := { busy.wdn with cls:=.por,asserted:=true,zeroHold:=false,refOk:=true,trayLow:=true }, krovas := { busy.krovas with pwr := true } };
    let w := s.wdn;
    decide (w.cls = .por) && decide (w.asserted = true) && decide (w.zeroHold = false) && decide (w.refOk = true) && decide (s.krovas.pwr = true) && decide (w.trayLow = true)) = true ∧
  (let s : State := { busy with wdn := { busy.wdn with cls:=.tray,asserted:=true,trayLow:=true,stage:=1 } };
    let w := s.wdn;
    decide (w.trayLow = true) && decide (w.cls = .tray) && decide (w.asserted = true) && decide (w.zeroHold = false)) = true ∧
  (let s : State := {};
    let w := s.wdn;
    decide (w.trayLow = false)) = true ∧
  (let s : State := { busy with wdn := { busy.wdn with cls:=.tray,asserted:=true,trayLow:=true,stage:=1 } };
    let w := s.wdn;
    decide (w.asserted = true)) = true ∧
  (let s : State := { busy with wdn := { busy.wdn with stage:=1,clkOn:=true,go:=true,wave:=0 } };
    let w := s.wdn;
    decide (w.asserted = false) && decide (w.refOk = true) && decide (w.stage = 1)) = true ∧
  (let s : State := { busy with wdn := { busy.wdn with stage:=2,clkOn:=true,go:=true,wave:=0 } };
    let w := s.wdn;
    decide (w.asserted = false) && decide (w.refOk = true) && decide (w.stage = 2)) = true ∧
  (let s : State := { busy with wdn := { busy.wdn with stage:=3,clkOn:=false,go:=true,wave:=0 } };
    let w := s.wdn;
    decide (w.asserted = false) && decide (w.refOk = true) && decide (w.stage = 3) && decide (w.clkOn = false)) = true := by
  decide +kernel

theorem wit_ReleaseOrder_2 :
  (let s : State := { busy with wdn := { busy.wdn with stage:=3,clkOn:=true } };
    let w := s.wdn;
    decide (w.asserted = false) && decide (w.refOk = true) && decide (w.stage = 3) && decide (w.clkOn = true) && decide (s.pllsDone = true)) = true ∧
  (let s : State := { fields := [(0,{lock:=true})], wdn := { asserted:=false, stage:=3, clkOn:=true } };
    let w := s.wdn;
    decide (w.asserted = false) && decide (w.refOk = true) && decide (w.stage = 3) && decide (w.clkOn = true) && decide (s.pllsDone = false)) = true ∧
  (let s : State := { busy with wdn := { busy.wdn with stage:=6,clkOn:=true,go:=true,wave:=0 } };
    let w := s.wdn;
    decide (w.asserted = false) && decide (w.refOk = true) && decide (w.stage = 6)) = true ∧
  (let s : State := { busy with wdn := { busy.wdn with stage:=7,clkOn:=true,go:=true,wave:=0 } };
    let w := s.wdn;
    decide (w.asserted = false) && decide (w.refOk = true) && decide (w.stage = 7)) = true ∧
  (let s : State := { busy with wdn := { busy.wdn with stage:=5,clkOn:=true,go:=true,wave:=0 } };
    let w := s.wdn;
    decide (w.asserted = false) && decide (w.stage = 0 ∨ 5 ≤ w.stage)) = true ∧
  (let s : State := { busy with wdn := { busy.wdn with stage:=1,clkOn:=true,go:=true,wave:=0 } };
    let w := s.wdn;
    decide (w.asserted = true ∨ (1 ≤ w.stage ∧ w.stage ≤ 4))) = true ∧
  (let s : State := { fields := [(0,{lock:=true}),(63,{lock:=true,down:=[.topo 3#32]})], rims := [(0,{topo:=0x80000005#32})], wdn := { asserted:=false, stage:=5, clkOn:=true, go:=true, wave:=0, dead := 0#64 } };
    let w := s.wdn;
    decide (w.asserted = false) && decide (w.stage = 5) && decide (w.go = true) && decide (w.wave ≤ 7) && (decide (w.wave = 0) || (waveFields (w.wave - 1)).all (fun f => decide (bit w.dead f = true ∨ (s.fld f).seqDone = true)))) = true ∧
  (let s : State := { busy with wdn := { busy.wdn with stage:=0,clkOn:=true,go:=true,wave:=0 } };
    let w := s.wdn;
    decide (w.stage ≠ 5 ∨ w.go = false)) = true := by
  decide +kernel

theorem wit_FieldBringUp_1 :
  (let s : State := { busy with fields := [(9,{fup with down := [.colmap, .rstF, .colmap]})] };
    let f : FieldId := 9;
    let c := s.fld f.val;
    decide (c.rst = false) && decide (styNext c.down false = some .colmap)) = true ∧
  (let s : State := { busy with fields := [(9,{fup with down := [.topo 0x80000007#32, .rstF, .colmap]})] };
    let f : FieldId := 9;
    let t : W32 := 0x80000007#32;
    let c := s.fld f.val;
    decide (styNext c.down false = some (.topo t))) = true ∧
  (let s : State := { busy with wdn := { busy.wdn with reg:=0xFFFF#64 }, fields := [(9,{fup with lock:=false,src:=false})] };
    let f : FieldId := 9;
    let w := s.wdn;
    let c := s.fld f.val;
    decide (w.clkOn = true) && decide (c.lock = false) && decide (c.src = false) && decide (bit w.reg f.val = true)) = true ∧
  (let s : State := { busy with wdn := { busy.wdn with cmd:=some (.field 9),asserted:=false }, fields := [(9,{lock:=true})] };
    let f : FieldId := 9;
    let w := s.wdn;
    let c := s.fld f.val;
    decide (w.asserted = false) && decide (bit w.dead f.val = false) && decide (c.rst = true) && decide (w.cmd = some (.field f.val)) && decide (StyCmd.rstF ∉ c.down)) = true ∧
  (let s : State := { busy with fields := [(9,{fup with subwave:=0,tracking:=false,lock:=true,op:=3})] };
    let f : FieldId := 9;
    let w := s.wdn;
    let c := s.fld f.val;
    decide (w.asserted = false) && decide (bit w.dead f.val = false) && decide (c.rst = false) && decide (c.seqDone = true) && decide (c.src = false) && decide (c.subwave < 3)) = true ∧
  (let s : State := { busy with fields := [(9,{fup with subwave:=3,tracking:=false,lock:=true,op:=3,eff:=2})] };
    let f : FieldId := 9;
    let w := s.wdn;
    let c := s.fld f.val;
    decide (w.asserted = false) && decide (bit w.dead f.val = false) && decide (c.rst = false) && decide (c.seqDone = true) && decide (c.src = false) && decide (c.subwave = 3)) = true ∧
  (let s : State := { busy with fields := [(9,{fup with subwave:=0,tracking:=false})] };
    let f : FieldId := 9;
    let w := s.wdn;
    let c := s.fld f.val;
    decide (w.asserted = false) && decide (bit w.dead f.val = false) && decide (c.rst = false) && decide (c.seqDone = true) && decide (c.src = false) && decide (c.subwave ≤ 3)) = true ∧
  (let s : State := { busy with rims := [] };
    let w := s.wdn;
    decide (w.clkOn = true) && (let d : DieId := 2;
    decide ((s.rim d.val).pllDown = false))) = true := by
  decide +kernel

theorem wit_FieldBringUp_2 :
  (let s : State := { busy with rims := [] };
    let w := s.wdn;
    decide (w.clkOn = true) && (let d : DieId := 2;
    decide ((s.rim d.val).pll = false) && decide ((s.rim d.val).pllDown = false))) = true ∧
  (let s : State := { busy with press := [] };
    let w := s.wdn;
    decide (w.clkOn = true) && (let k : ClusterId := 2;
    decide ((s.prs k.val).pllDown = false))) = true ∧
  (let s : State := { busy with press := [] };
    let w := s.wdn;
    decide (w.clkOn = true) && (let k : ClusterId := 2;
    decide ((s.prs k.val).pll = false) && decide ((s.prs k.val).pllDown = false))) = true := by
  decide +kernel

theorem wit_FieldAndTileResets_1 :
  (let s : State := busy;
    let p : Party := .wardenFw;
    let v : W32 := 9#32;
    let w := s.wdn;
    let legal := p = .wardenFw ∨ p = .pressM;
    let g := bits v 5 0;
    decide (legal) && decide (w.cmd = none) && decide (w.asserted = false) && decide (w.stage = 0) && decide (bit w.dead g = false)) = true ∧
  (let s : State := busy;
    let p : Party := .wardenFw;
    let v : W32 := 0xBFEFF#32;
    let w := s.wdn;
    let legal := p = .wardenFw ∨ p = .pressM;
    let y := bits v 19 10;
    let x := bits v 9 0;
    decide (legal) && decide (w.cmd = none) && decide (w.asserted = false) && decide (w.stage = 0) && decide (y < 768) && decide (x < 768) && decide (bit w.dead (fieldAt y x) = false)) = true ∧
  (let s : State := { busy with wdn := { busy.wdn with cmd:=some (.tile 3) } };
    let p : Party := .wardenFw;
    let w := s.wdn;
    let legal := p = .wardenFw ∨ p = .pressM;
    decide (legal) && decide (w.cmd ≠ none ∨ w.asserted = true ∨ w.stage ≠ 0)) = true ∧
  (let s : State := { busy with wdn := { busy.wdn with dead:=0x200#64 } };
    let p : Party := .wardenFw;
    let v : W32 := 9#32;
    let w := s.wdn;
    let legal := p = .wardenFw ∨ p = .pressM;
    let g := bits v 5 0;
    decide (legal) && decide (bit w.dead g = true)) = true ∧
  (let p : Party := .wardenFw;
    let v : W32 := 0x300#32;
    let legal := p = .wardenFw ∨ p = .pressM;
    let y := bits v 19 10;
    let x := bits v 9 0;
    decide (legal) && decide (768 ≤ y ∨ 768 ≤ x)) = true ∧
  (let s : State := { busy with wdn := { busy.wdn with rstRef:=false } };
    let w := s.wdn;
    let q : Party := .pressS;
    decide (q ≠ .wardenFw) && decide (q ≠ .pressM) && decide (q = .hostPcie ∨ q = .hostWin → w.periphUp = true ∧ w.zeroWin = false)) = true ∧
  (let s : State := { busy with fields := [(1,{fup with down:=[.rstF,.colmap],barNode:=[(1,{scope:=1})],fltLog:=[3#32],clkCeil:=4,clkTgt:=2,barRoot:=[(1,{armed:=true})]}),(0,fup)] };
    let f : FieldId := 1;
    let c := s.fld f.val;
    decide (styNext c.down true = some .rstF)) = true ∧
  (let s : State := { busy with wdn := {busy.wdn with cmd := some (.tile 1)}, fields := [(1,fup),(0,{fup with down:=[.rstT 0 1,.colmap]})] };
    let f : FieldId := 0;
    let c := s.fld f.val;
    let row : Nat := 0;
    let col : Nat := 1;
    decide (row < 96) && decide (col < 96) && decide (styNext c.down true = some (.rstT row col))) = true := by
  decide +kernel

theorem wit_FieldAndTileResets_2 :
  (let s : State := { busy with wdn := { busy.wdn with cmd:=some (.field 9) } };
    let f : FieldId := 9;
    let w := s.wdn;
    let c := s.fld f.val;
    decide (w.cmd = some (.field f.val)) && decide (c.rst = false) && decide (c.seqDone = true) && decide (c.src = true ∨ c.subwave = 4)) = true := by
  decide +kernel

theorem wit_DeadFields :
  (let s : State := { busy with wdn := { busy.wdn with reg:=0xFFFF#64 }, fields := [(9,{})] };
    let f : FieldId := 9;
    let w := s.wdn;
    decide (bit w.dead f.val = false) && decide (bit w.reg f.val = true)) = true ∧
  (let s : State := { busy with wdn := { busy.wdn with reg:=0xFFFF#64 }, fields := [(9,{down:=[.rstF]})] };
    let f : FieldId := 9;
    let w := s.wdn;
    let c := s.fld f.val;
    decide (bit w.dead f.val = false) && decide (StyCmd.rstF ∈ c.down)) = true ∧
  (let s : State := { busy with wdn := { busy.wdn with cmd:=some (.field 9) }, fields := [(9,{fup with seqDone:=false})] };
    let f : FieldId := 9;
    let w := s.wdn;
    let c := s.fld f.val;
    decide (bit w.dead f.val = false) && decide (c.rst = false) && decide (c.seqDone = false)) = true ∧
  (let s : State := { busy with wdn := { busy.wdn with cmd:=some (.field 9) }, fields := [(9,fup)] };
    let f : FieldId := 9;
    let v : W32 := 0x200#32;
    let hi : Bool := false;
    let w := s.wdn;
    decide (bit w.dead f.val = false) && decide (f.val / 32 = (if hi then 1 else 0)) && decide (v = BitVec.ofNat 32 (2 ^ (f.val % 32)))) = true ∧
  (let s : State := { busy with wdn := { busy.wdn with rstRef:=false } };
    let v : W32 := 0x12345678#32;
    let hi : Bool := true;
    let w := s.wdn;
    let p : Party := .pressS;
    decide (p ≠ .wardenFw) && decide (p = .hostPcie ∨ p = .hostWin → w.periphUp = true ∧ w.zeroWin = false) && ([Instr.wdnFldDeadWrite p hi v, .wdnFldUnavWrite p hi v]).any (fun i =>
    true)) = true ∧
  (let s : State := { busy with wdn := { busy.wdn with cmd:=none }, fields := [(9,{})] };
    let f : FieldId := 9;
    let w := s.wdn;
    decide (bit w.reg f.val = false)) = true := by
  decide +kernel

theorem wit_ResetRegisters :
  (let s : State := busy;
    let p : Party := .wardenFw;
    let n : Fin 9 := 0;
    let v : W32 := 0x000FFFFF#32;
    let w := s.wdn;
    let host := (p = .hostPcie ∨ p = .hostWin) ∧ w.periphUp = true ∧ w.zeroWin = false;
    decide (p = .wardenFw ∨ host) && decide (gapMin n.val ≤ bits v 19 0)) = true ∧
  (let s : State := busy;
    let p : Party := .wardenFw;
    let n : Fin 9 := 0;
    let v : W32 := 0#32;
    let w := s.wdn;
    let host := (p = .hostPcie ∨ p = .hostWin) ∧ w.periphUp = true ∧ w.zeroWin = false;
    decide (p = .wardenFw ∨ host) && decide (bits v 19 0 < gapMin n.val)) = true ∧
  (let s : State := busy;
    let p : Party := .wardenFw;
    let k : Fin 16 := 3;
    let w := s.wdn;
    let host := (p = .hostPcie ∨ p = .hostWin) ∧ w.periphUp = true ∧ w.zeroWin = false;
    decide (p = .wardenFw ∨ (4 ≤ k.val ∧ (p = .pressM ∨ host)))) = true ∧
  (let s : State := busy;
    let p : Party := .pressM;
    let k : Fin 16 := 3;
    let w := s.wdn;
    let host := (p = .hostPcie ∨ p = .hostWin) ∧ w.periphUp = true ∧ w.zeroWin = false;
    decide (k.val < 4) && decide (p = .pressM ∨ p = .pressS ∨ p = .pressU ∨ host)) = true ∧
  (let s : State := busy;
    let p : Party := .wardenFw;
    let o : Nat := 0;
    let w := s.wdn;
    let host := (p = .hostPcie ∨ p = .hostWin) ∧ w.periphUp = true ∧ w.zeroWin = false;
    decide (p = .wardenFw ∨ p = .pressM ∨ host) && decide (o % 8 = 0) && decide (o < 0x10000)) = true ∧
  (let p : Party := .pressS;
    let n : Fin 9 := default;
    let k : Fin 16 := default;
    let o : Nat := 3;
    let v : W32 := 0x12345678#32;
    let d : W64 := 0x123456789#64;
    let tile := p = .tileSelf ∨ p = .tileSw;
    decide (tile ∨ p = .pressS ∨ p = .pressU) && ([Instr.wdnRstGapWrite p n v, .wdnKeepWrite p (0x400 + 8 * k.val) d, .wdnKeepWrite p (0x200000 + o % 0x10000) d, .wdnRstCauseWrite p v]).any (fun i =>
    true)) = true ∧
  (let s : State := busy;
    let p : Party := .wardenFw;
    let w := s.wdn;
    let host := (p = .hostPcie ∨ p = .hostWin) ∧ w.periphUp = true ∧ w.zeroWin = false;
    decide (p = .wardenFw ∨ p = .pressM ∨ host)) = true ∧
  (let s : State := { busy with wdn := { busy.wdn with zeroWin:=true } };
    let p : Party := .hostPcie;
    let n : Fin 9 := 0;
    let k : Fin 16 := default;
    let v : W32 := 0x000FFFFF#32;
    let d : W64 := 0x123456789#64;
    let w := s.wdn;
    decide (p = .hostPcie ∨ p = .hostWin) && decide (w.zeroWin = true) && ([Instr.wdnRstGapWrite p n v, .wdnKeepWrite p (0x400 + 8 * k.val) d, .wdnRstCauseWrite p v]).any (fun i =>
    true)) = true := by
  decide +kernel

end W12

namespace W13
def tp : W32 := 0x80670005#32
def pt : RimPort := { pcfg := 0x1#32, st := 2, seq := 7, exp := 9, peer := some (2054, 3), txFree := [(0, 4096)], tx := [[1#8]] }
def re (k : Nat) : RepEnt := { seq := k, frame := [BitVec.ofNat 8 k, 2#8], ps := [] }
def rimS (d : Nat) (x : Rim) : State := { busy with fields := (List.range 64).map (fun i => (i, { fup with topo := tp })), rims := [(d, x)] }
def xx : Rim := { rst := false, pll := true, topo := tp, keymap := [(0, 2#32)], nbr := some 6, keydrop := 3, undeliv := 4, ports := [(2, pt), (3, pt), (13, { pt with pcfg := 3#32 })], stat := 0x10#32 }
def df (seq ch : Nat) (q : Packet) : Bytes := withCrc (dataHdr false seq ch false q.bytes.length false 0 ++ q.bytes)
def dg (seq ch : Nat) (q : Packet) : DataFrame := { bulk := false, seq := seq, ack := none, ch := ch, rl := false, enc := false, ksel := 0, hdr := dataHdr false seq ch false q.bytes.length false 0, text := q.bytes, tag := [] }
def qq (op ch key : Nat) (dp : Nat := 5) (sp : Nat := 6) : Packet := { h := { op := op, ch := ch, dplate := dp, splate := sp, dx := 0, dy := 17, sx := 3, sy := 300, pkey := key, tag := 9, payload := 0x12345678#32 } }
theorem wit_RimReceive_1 :
  (let s : State := rimS 1 xx;
    let d : DieId := 1;
    let n : PortId := 2;
    let b : Bytes := [];
    let x := s.rim d.val;
    let p := x.port n.val;
    decide (x.rst = false) && decide (bit p.pcfg 0 = true) && decide (p.st = 2) && decide (parseData b = none)) = true ∧
  (let s : State := rimS 1 { xx with ports := [(2, { pt with pcfg := 5#32 })] };
    let d : DieId := 1;
    let n : PortId := 2;
    let b : Bytes := df 9 0 (qq 1 0 1);
    let g : DataFrame := dg 9 0 (qq 1 0 1);
    let x := s.rim d.val;
    let p := x.port n.val;
    decide (x.rst = false) && decide (bit p.pcfg 0 = true) && decide (p.st = 2) && decide (parseData b = some g) && decide (g.enc ≠ p.enc ∨ (g.bulk = true ∧ (p.host = false ∨ g.ch ≠ 0)))) = true ∧
  (let s : State := rimS 1 xx;
    let d : DieId := 1;
    let n : PortId := 2;
    let b : Bytes := df 9 3 (qq 0x1D 3 1);
    let g : DataFrame := dg 9 3 (qq 0x1D 3 1);
    let q : Packet := qq 0x1D 3 1;
    let x := s.rim d.val;
    let p := x.port n.val;
    let key := (sget 0#32 x.keymap (q.h.pkey / 32)).getLsbD (q.h.pkey % 32);
    decide (x.rst = false) && decide (bit p.pcfg 0 = true) && decide (p.st = 2) && decide (parseData b = some g) && decide (g.enc = false) && decide (p.enc = false) && decide (g.ack = none) && decide (g.bulk = false) && decide (g.seq = p.exp) && decide (g.packets g.text = [q]) && decide (p.host = false) && decide (isOwn x.topo q.h.dplate = true) && decide (x.rx = []) && decide (x.ans = []) && decide (q.h.ch = g.ch) && decide (q.h.op = 0x1D) && decide (key = true) && decide (x.mgmt = [])) = true ∧
  (let s : State := rimS 0 xx;
    let d : DieId := 0;
    let n : PortId := 2;
    let b : Bytes := df 9 0 (qq 1 0 1 5);
    let g : DataFrame := dg 9 0 (qq 1 0 1 5);
    let q : Packet := qq 1 0 1 5;
    let x := s.rim d.val;
    let p := x.port n.val;
    let r := bridgeRouter d.val (bridgeNo d.val q.h.dy q.h.dx);
    let key := (sget 0#32 x.keymap (q.h.pkey / 32)).getLsbD (q.h.pkey % 32);
    decide (x.rst = false) && decide (bit p.pcfg 0 = true) && decide (p.st = 2) && decide (parseData b = some g) && decide (g.enc = false) && decide (p.enc = false) && decide (g.ack = none) && decide (g.bulk = false) && decide (g.seq = p.exp) && decide (g.packets g.text = [q]) && decide (p.host = false) && decide (isOwn x.topo q.h.dplate = true) && decide (x.rx = []) && decide (x.ans = []) && decide (q.h.ch = g.ch) && decide (q.h.op ≠ 0x1D) && decide (key = true) && decide (s.entryShut r .bridge = false) && decide (s.canInject r .bridge q.h.ch = true)) = true ∧
  (let s : State := { rimS 1 xx with mesh := { used := (List.range 48).map (fun k => (laneKey (bridgeRouter 1 k) .bridge 1 false, 1000)) } };
    let d : DieId := 1;
    let n : PortId := 2;
    let b : Bytes := df 9 1 (qq 20 1 1);
    let g : DataFrame := dg 9 1 (qq 20 1 1);
    let q : Packet := qq 20 1 1;
    let x := s.rim d.val;
    let p := x.port n.val;
    let r := bridgeRouter d.val (bridgeNo d.val q.h.dy q.h.dx);
    let key := (sget 0#32 x.keymap (q.h.pkey / 32)).getLsbD (q.h.pkey % 32);
    decide (x.rst = false) && decide (bit p.pcfg 0 = true) && decide (p.st = 2) && decide (parseData b = some g) && decide (g.enc = false) && decide (p.enc = false) && decide (g.ack = none) && decide (g.bulk = false) && decide (g.seq = p.exp) && decide (g.packets g.text = [q]) && decide (p.host = false) && decide (isOwn x.topo q.h.dplate = true) && decide (x.rx = []) && decide (x.ans = []) && decide (q.h.ch = g.ch) && decide (q.h.op ≠ 0x1D) && decide (key = true) && decide (s.canInject r .bridge q.h.ch = false)) = true ∧
  (let s : State := rimS 1 xx;
    let d : DieId := 1;
    let n : PortId := 2;
    let b : Bytes := df 9 1 (qq 20 1 2);
    let g : DataFrame := dg 9 1 (qq 20 1 2);
    let q : Packet := qq 20 1 2;
    let x := s.rim d.val;
    let p := x.port n.val;
    let key := (sget 0#32 x.keymap (q.h.pkey / 32)).getLsbD (q.h.pkey % 32);
    decide (x.rst = false) && decide (bit p.pcfg 0 = true) && decide (p.st = 2) && decide (parseData b = some g) && decide (g.enc = false) && decide (p.enc = false) && decide (g.ack = none) && decide (g.bulk = false) && decide (g.seq = p.exp) && decide (g.packets g.text = [q]) && decide (p.host = false) && decide (isOwn x.topo q.h.dplate = true) && decide (x.rx = []) && decide (x.ans = []) && decide (q.h.ch = g.ch) && decide (key = false) && decide (q.h.ch = 1 ∨ q.h.ch = 3)) = true := by
  decide +kernel

theorem wit_RimReceive_2 :
  (let s : State := rimS 1 xx;
    let d : DieId := 1;
    let n : PortId := 2;
    let b : Bytes := df 8 0 (qq 1 0 1);
    let g : DataFrame := dg 8 0 (qq 1 0 1);
    let x := s.rim d.val;
    let p := x.port n.val;
    decide (x.rst = false) && decide (bit p.pcfg 0 = true) && decide (p.st = 2) && decide (parseData b = some g) && decide (g.enc = false) && decide (p.enc = false) && decide (g.ack = none) && decide (g.bulk = false) && decide (g.seq ≠ p.exp) && decide (32768 ≤ (g.seq + 65536 - p.exp) % 65536)) = true ∧
  (let s : State := rimS 1 xx;
    let d : DieId := 1;
    let n : PortId := 2;
    let b : Bytes := df 10 0 (qq 1 0 1);
    let g : DataFrame := dg 10 0 (qq 1 0 1);
    let x := s.rim d.val;
    let p := x.port n.val;
    let recent := ∃ t, p.nakFor = some (p.exp, t) ∧ s.time.toNat < t + 150;
    decide (x.rst = false) && decide (bit p.pcfg 0 = true) && decide (p.st = 2) && decide (parseData b = some g) && decide (g.enc = false) && decide (p.enc = false) && decide (g.ack = none) && decide (g.bulk = false) && decide (g.seq ≠ p.exp) && decide ((g.seq + 65536 - p.exp) % 65536 < 32768) && decide (p.nakFor = none)) = true ∧
  (let s : State := rimS 1 { xx with ports := [(2, { pt with nakFor := some (9, busy.time.toNat) })] };
    let d : DieId := 1;
    let n : PortId := 2;
    let b : Bytes := df 10 0 (qq 1 0 1);
    let g : DataFrame := dg 10 0 (qq 1 0 1);
    let x := s.rim d.val;
    let p := x.port n.val;
    let recent := ∃ t, p.nakFor = some (p.exp, t) ∧ s.time.toNat < t + 150;
    decide (x.rst = false) && decide (bit p.pcfg 0 = true) && decide (p.st = 2) && decide (parseData b = some g) && decide (g.enc = false) && decide (p.enc = false) && decide (g.ack = none) && decide (g.bulk = false) && decide (g.seq ≠ p.exp) && decide ((g.seq + 65536 - p.exp) % 65536 < 32768) && decide (p.nakFor = some (p.exp, s.time.toNat))) = true := by
  decide +kernel

theorem wit_RimReplay_1 :
  (let s : State := rimS 1 { xx with ports := [(2, { pt with rep:=[re 3,re 4,re 5],count:=2 }), (5, pt)] };
    let d : DieId := 1;
    let n : PortId := 2;
    let b : Bytes := ctlFrame 8 3 0 0 0;
    let a : Nat := 3;
    let x := s.rim d.val;
    let p := x.port n.val;
    decide (x.rst = false) && decide (bit p.pcfg 0 = true) && decide (p.st = 2) && decide (parseAck b = some a) && decide (x.moved = []) && decide (p.q = []) && decide (∃ e ∈ p.rep, covers a e.seq = true)) = true ∧
  (let s : State := rimS 1 { xx with ports := [(2, { pt with rep:=[re 3,re 4,re 5],count:=2 }), (5, pt)] };
    let d : DieId := 1;
    let n : PortId := 2;
    let b : Bytes := ctlFrame 8 2 0 0 0;
    let a : Nat := 2;
    let x := s.rim d.val;
    let p := x.port n.val;
    decide (x.rst = false) && decide (bit p.pcfg 0 = true) && decide (p.st = 2) && decide (parseAck b = some a) && decide (x.moved = []) && decide (p.q = []) && decide (∀ e ∈ p.rep, covers a e.seq = false)) = true ∧
  (let s : State := rimS 1 { xx with ports := [(2, { pt with rep:=[re 3,re 4,re 5],count:=2 }), (5, pt)] };
    let d : DieId := 1;
    let n : PortId := 2;
    let b : Bytes := ctlFrame 9 3 0 0 0;
    let a : Nat := 3;
    let x := s.rim d.val;
    let p := x.port n.val;
    decide (x.rst = false) && decide (bit p.pcfg 0 = true) && decide (p.st = 2) && decide (parseNak b = some a) && (let l := [re 3,re 4,re 5];
    decide (l = p.rep.filter (fun f => !covers ((a + 65535) % 65536) f.seq)) && decide (l ≠ []))) = true ∧
  (let s : State := rimS 1 { xx with ports := [(2, { pt with rep:=[re 3,re 4,re 5],count:=2 }), (5, pt)] };
    let d : DieId := 1;
    let n : PortId := 2;
    let b : Bytes := ctlFrame 9 6 0 0 0;
    let a : Nat := 6;
    let x := s.rim d.val;
    let p := x.port n.val;
    decide (x.rst = false) && decide (bit p.pcfg 0 = true) && decide (p.st = 2) && decide (parseNak b = some a) && (let l := [];
    decide (l = p.rep.filter (fun f => !covers ((a + 65535) % 65536) f.seq)) && decide (l = []))) = true ∧
  (let s : State := rimS 1 { xx with ports := [(2, { pt with rep:=[re 3,re 4,re 5],count:=2 }), (5, pt)] };
    let d : DieId := 1;
    let n : PortId := 2;
    let b : Bytes := ctlFrame 0xA 1 2 3 (4+65536*b2n true);
    let x := s.rim d.val;
    let p := x.port n.val;
    decide (x.rst = false) && decide (bit p.pcfg 0 = true) && decide (p.st = 2) && (let counts := [1,2,3,4];
    let rl := true;
    decide (parseCredit b = some (counts, rl)) && decide (p.q = []))) = true ∧
  (let s : State := rimS 1 { xx with ports := [(2, { pt with count:=9 }), (5, pt)] };
    let d : DieId := 1;
    let n : PortId := 2;
    let x := s.rim d.val;
    let p := x.port n.val;
    decide (x.rst = false) && decide (bit p.pcfg 0 = true) && decide (p.st = 2) && decide (x.rx = []) && decide (x.ans = [])) = true ∧
  (let s : State := rimS 1 { xx with ports := [(2, { pt with rep:=[re 3,re 4,re 5],count:=0 }), (5, pt)] };
    let d : DieId := 1;
    let n : PortId := 2;
    let x := s.rim d.val;
    let p := x.port n.val;
    decide (x.rst = false) && decide (bit p.pcfg 0 = true) && decide (p.st = 2) && decide (p.rep ≠ []) && decide (p.count < 8)) = true ∧
  (let s : State := rimS 1 { xx with ports := [(2, { pt with count:=9 }), (5, pt)] };
    let d : DieId := 1;
    let n : PortId := 2;
    let x := s.rim d.val;
    let p := x.port n.val;
    decide (x.rst = false) && decide (bit p.pcfg 0 = true) && decide (p.st = 2) && decide (p.rep = [])) = true := by
  decide +kernel

theorem wit_RimReplay_2 :
  (let s : State := rimS 1 { xx with ports := [(2, { pt with rep:=[re 3,re 4,re 5],count:=8 }), (5, pt)] };
    let d : DieId := 1;
    let n : PortId := 2;
    let x := s.rim d.val;
    let p := x.port n.val;
    decide (x.rst = false) && decide (bit p.pcfg 0 = true) && decide (p.st = 2) && decide (p.rep ≠ []) && decide (8 ≤ p.count)) = true ∧
  (let s : State := rimS 1 { xx with ports := [(2, { pt with rep:=[re 3,re 4,re 5],count:=2 }), (5, pt)] };
    let d : DieId := 1;
    let n : PortId := 2;
    let b : Bytes := [];
    let x := s.rim d.val;
    let p := x.port n.val;
    decide (x.rst = false) && decide (bit p.pcfg 0 = true) && decide (p.st = 2) && decide (parseAck b = none)) = true ∧
  (let s : State := rimS 1 { xx with ports := [(2, { pt with rep:=[re 3,re 4,re 5],count:=2 }), (5, pt)] };
    let d : DieId := 1;
    let n : PortId := 2;
    let b : Bytes := [];
    let x := s.rim d.val;
    let p := x.port n.val;
    decide (x.rst = false) && decide (bit p.pcfg 0 = true) && decide (p.st = 2) && decide (parseNak b = none)) = true ∧
  (let s : State := rimS 1 { xx with ports := [(2, { pt with rep:=[re 3,re 4,re 5],count:=2 }), (5, pt)] };
    let d : DieId := 1;
    let n : PortId := 2;
    let b : Bytes := [];
    let x := s.rim d.val;
    let p := x.port n.val;
    decide (x.rst = false) && decide (bit p.pcfg 0 = true) && decide (p.st = 2) && decide (parseCredit b = none)) = true ∧
  (let s : State := rimS 1 { xx with ports := [(2, { pt with rep:=[re 3,re 4,re 5],count:=2 }), (5, pt)] };
    let d : DieId := 1;
    let n : PortId := 2;
    let b : Bytes := [];
    let x := s.rim d.val;
    let p := x.port n.val;
    decide (x.rst = false) && decide (bit p.pcfg 0 = true) && decide (p.st = 2) && decide (parseLinkId b = none)) = true ∧
  (let s : State := rimS 1 { xx with ports := [(2, { pt with rep:=[re 3,re 4,re 5],count:=2 }), (5, pt)] };
    let d : DieId := 1;
    let n : PortId := 2;
    let b : Bytes := [];
    let x := s.rim d.val;
    let p := x.port n.val;
    decide (x.rst = false) && decide (bit p.pcfg 0 = true) && decide (p.st = 2) && decide (parseFoReq b = none)) = true ∧
  (let s : State := rimS 1 { xx with ports := [(2, { pt with rep:=[re 3,re 4,re 5],count:=2 }), (5, pt)] };
    let d : DieId := 1;
    let n : PortId := 2;
    let b : Bytes := [];
    let x := s.rim d.val;
    let p := x.port n.val;
    decide (x.rst = false) && decide (bit p.pcfg 0 = true) && decide (p.st = 2) && decide (parseFoRsp b = none)) = true := by
  decide +kernel

theorem wit_RimTraining :
  (let s : State := rimS 1 { xx with ports := [(2, { pt with st:=1,train:=.fresh,peer:=none }), (5, pt)] };
    let d : DieId := 1;
    let n : PortId := 2;
    let b : Bytes := ctlFrame 0xB 6 0 9 0;
    let i : Nat := 6;
    let j : Nat := 0;
    let c : Nat := 9;
    let t : Nat := 0;
    let x := s.rim d.val;
    let p := x.port n.val;
    decide (x.rst = false) && decide (bit p.pcfg 0 = true) && decide (p.st = 1) && decide (parseLinkId b = some (i, j, c, t)) && decide (x.mismatch d.val n.val i j t = true)) = true ∧
  (let s : State := rimS 1 { xx with ports := [(2, { pt with st:=1,train:=.fresh,peer:=none }), (5, pt)] };
    let d : DieId := 1;
    let n : PortId := 2;
    let b : Bytes := ctlFrame 0xB 3072 3 9 103;
    let i : Nat := 3072;
    let j : Nat := 3;
    let c : Nat := 9;
    let t : Nat := 103;
    let x := s.rim d.val;
    let p := x.port n.val;
    decide (x.rst = false) && decide (bit p.pcfg 0 = true) && decide (p.st = 1) && decide (parseLinkId b = some (i, j, c, t)) && decide (x.mismatch d.val n.val i j t = false) && decide (p.train = .fresh ∨ p.peer = some (i % 4096, j % 16))) = true ∧
  (let s : State := rimS 1 { xx with ports := [(2, { pt with st:=1,train:=.keep,peer:=some (3078,3) }), (5, pt)] };
    let d : DieId := 1;
    let n : PortId := 2;
    let b : Bytes := ctlFrame 0xB 3078 2 9 103;
    let i : Nat := 3078;
    let j : Nat := 2;
    let c : Nat := 9;
    let t : Nat := 103;
    let x := s.rim d.val;
    let p := x.port n.val;
    decide (x.rst = false) && decide (bit p.pcfg 0 = true) && decide (p.st = 1) && decide (parseLinkId b = some (i, j, c, t)) && decide (x.mismatch d.val n.val i j t = false) && decide (p.train = .keep) && decide (p.peer ≠ some (i % 4096, j % 16))) = true ∧
  (let s : State := rimS 1 { xx with ports := [(2, { pt with st:=1,train:=.fresh,peer:=none }), (5, pt)] };
    let d : DieId := 1;
    let n : PortId := 2;
    let x := s.rim d.val;
    let p := x.port n.val;
    decide (x.rst = false) && decide (bit p.pcfg 0 = true) && decide (p.st = 1) && decide (x.loss ≠ .noSignal)) = true ∧
  (let s : State := rimS 1 { xx with ports := [(2, { pt with st:=1 }), (5, pt)], loss := .noSignal };
    let d : DieId := 1;
    let n : PortId := 2;
    let x := s.rim d.val;
    let p := x.port n.val;
    decide (x.rst = false) && decide (bit p.pcfg 0 = true) && decide (p.st = 1) && decide (x.loss = .noSignal)) = true ∧
  (let s : State := rimS 1 { xx with ports := [(2, { pt with st:=1,train:=.fresh,peer:=none }), (5, pt)] };
    let d : DieId := 1;
    let n : PortId := 2;
    let i : Nat := 0;
    let x := s.rim d.val;
    let p := x.port n.val;
    decide (x.rst = false) && decide (bit p.pcfg 0 = true) && decide (p.st = 1) && decide (p.host = false) && decide (i = i / 1024 % 4 * 1024)) = true := by
  decide +kernel

theorem wit_RimFailover :
  (let s : State := rimS 1 { xx with ports := [(2,pt),(0,{pt with peer := some (9,1), got := true, exp := 0})] };
    let d : DieId := 1;
    let n : PortId := 2;
    let b : Bytes := ctlFrame 0xC 1 0 0 0;
    let m : Nat := 1;
    let x := s.rim d.val;
    let p := x.port n.val;
    decide (x.rst = false) && decide (bit p.pcfg 0 = true) && (let k := 0;
    decide (p.st = 2) && decide (parseFoReq b = some m) && decide (k < 16) && decide (((x.port k).peer.map (·.2)) = some m) && decide (∀ j, j < k → ((x.port j).peer.map (·.2)) ≠ some m))) = true ∧
  (let s : State := rimS 1 { xx with fo := [{ port := 3, run := true, buckets := [3], frames := [re 3, re 4] }] };
    let d : DieId := 1;
    let n : PortId := 2;
    let b : Bytes := ctlFrame 0xD 3 4 1 0;
    let m : Nat := 3;
    let e : Failover := { port := 3, run := true, buckets := [3], frames := [re 3, re 4] };
    let x := s.rim d.val;
    let p := x.port n.val;
    decide (x.rst = false) && decide (bit p.pcfg 0 = true) && (let a := 4;
    decide (p.st = 2) && decide (parseFoRsp b = some (m, some a)) && decide (x.fo = [e]) && decide (e.run = true) && decide (e.port = m) && decide (x.held = []) && decide (∀ f ∈ e.frames, covers a f.seq = true))) = true ∧
  (let s : State := rimS 1 { xx with fo := [{ port := 3, run := false, buckets := [3], frames := [re 3, re 4] }] };
    let d : DieId := 1;
    let n : PortId := 2;
    let b : Bytes := ctlFrame 0xD 3 4 1 0;
    let m : Nat := 3;
    let e : Failover := { port := 3, run := false, buckets := [3], frames := [re 3, re 4] };
    let x := s.rim d.val;
    let p := x.port n.val;
    decide (x.rst = false) && decide (bit p.pcfg 0 = true) && (let a := some 4;
    decide (p.st = 2) && decide (parseFoRsp b = some (m, a)) && decide (x.fo = [e]) && decide (e.run = false ∨ e.port ≠ m))) = true ∧
  (let s : State := rimS 1 { xx with fo := [{ port := 3, run := true, buckets := [3], frames := [re 3, re 4] }] };
    let d : DieId := 1;
    let n : PortId := 2;
    let e : Failover := { port := 3, run := true, buckets := [3], frames := [re 3, re 4] };
    let x := s.rim d.val;
    let p := x.port n.val;
    decide (x.rst = false) && decide (bit p.pcfg 0 = true) && (let k := 2;
    let more := [3];
    decide (x.fo = [e]) && decide (e.run = true) && decide (x.upPorts = k :: more))) = true ∧
  (let s : State := rimS 1 { xx with ports := [(2,pt),(0,{pt with peer := some (9,1), got := true, exp := 0})] };
    let d : DieId := 1;
    let n : PortId := 2;
    let x := s.rim d.val;
    let p := x.port n.val;
    decide (x.rst = false) && decide (bit p.pcfg 0 = true) && decide (x.fo = [])) = true := by
  decide +kernel

theorem wit_RimSignal :
  (let s : State := rimS 1 xx;
    let d : DieId := 1;
    let n : PortId := 2;
    let x := s.rim d.val;
    decide (x.rst = false) && decide (x.loss ≠ .ok ∨ x.upPorts = [] ∨ (∃ k ∈ x.upPorts, k ≠ n.val ∧ (x.port k).sig = true))) = true ∧
  (let s : State := rimS 1 {xx with ports:=[(2,pt),(4,{pt with st:=3}),(5,{pt with st:=1})]};
    let d : DieId := 1;
    let n : PortId := 2;
    let x := s.rim d.val;
    decide (x.rst = false) && decide (x.loss = .ok) && decide (x.upPorts ≠ []) && decide (∀ k ∈ x.upPorts, k = n.val ∨ (x.port k).sig = false)) = true ∧
  (let s : State := rimS 1 xx;
    let d : DieId := 1;
    let x := s.rim d.val;
    decide (x.rst = false)) = true ∧
  (let s : State := rimS 1 {xx with loss:=.noSignal, held := [{p:=qq 1 0 1 6}]};
    let d : DieId := 1;
    let x := s.rim d.val;
    decide (x.rst = false) && decide (x.loss = .noSignal ∨ x.loss = .training)) = true ∧
  (let s : State := rimS 1 {xx with loss:=.ok};
    let d : DieId := 1;
    let x := s.rim d.val;
    decide (x.rst = false) && decide (x.loss = .ok ∨ x.loss = .broken)) = true := by
  decide +kernel

theorem wit_RimBridge_1 :
  (let s : State := inb (rimS 1 {xx with ans := [(bridgeRouter 1 0, qq 1 1 2 6 5)]}) (bridgeRouter 1 0) .bridge 0 (qq 1 0 2 6 5);
    let d : DieId := 1;
    let k : Fin 48 := 0;
    let ch : Chan := 0;
    let q : Packet := qq 1 0 2 6 5;
    let x := s.rim d.val;
    let r := bridgeRouter d.val k.val;
    decide (x.rst = false) && decide (s.front r .bridge ch.val = some q) && decide (bridgeDie (s.fld (fieldOf r)).topo q.h = d.val) && decide (validOp q.h.op = true) && decide (q.h.dplate < 0x400) && decide (isOwn x.topo q.h.dplate = false) && decide (x.ans.any (·.1 == r) = true)) = true ∧
  (let s : State := inb (rimS 1 {xx with bkt := (List.range 8).map (fun i => (i, 0x22222222#32))}) (bridgeRouter 1 0) .bridge 0 (qq 1 0 1 6 5);
    let d : DieId := 1;
    let k : Fin 48 := 0;
    let ch : Chan := 0;
    let q : Packet := qq 1 0 1 6 5;
    let nbr : Nat := 6;
    let x := s.rim d.val;
    let r := bridgeRouter d.val k.val;
    let key := (sget 0#32 x.keymap (q.h.pkey / 32)).getLsbD (q.h.pkey % 32);
    let n := x.bktPort (bucketOf q.h);
    decide (x.rst = false) && decide (s.front r .bridge ch.val = some q) && decide (bridgeDie (s.fld (fieldOf r)).topo q.h = d.val) && decide (validOp q.h.op = true) && decide (q.h.dplate < 0x400) && decide (isOwn x.topo q.h.dplate = false) && decide (x.ans.any (·.1 == r) = false) && decide (bit x.topo 31 = true) && decide (key = true) && decide (onTorus x.topo q.h.dplate = true) && decide (x.loss = .ok) && decide (x.nbr = some nbr) && decide (absent x.topo d.val nbr q.h.dplate = false) && decide (x.blocked (bucketOf q.h) n = false)) = true ∧
  (let s : State := inb (rimS 1 {xx with bkt := (List.range 8).map (fun i => (i, 0x22222222#32)), fo := [{port:=2,run:=true,buckets:=[],frames:=[]}]}) (bridgeRouter 1 0) .bridge 0 (qq 1 0 1 6 5);
    let d : DieId := 1;
    let k : Fin 48 := 0;
    let ch : Chan := 0;
    let q : Packet := qq 1 0 1 6 5;
    let nbr : Nat := 6;
    let x := s.rim d.val;
    let r := bridgeRouter d.val k.val;
    let key := (sget 0#32 x.keymap (q.h.pkey / 32)).getLsbD (q.h.pkey % 32);
    let n := x.bktPort (bucketOf q.h);
    decide (x.rst = false) && decide (s.front r .bridge ch.val = some q) && decide (bridgeDie (s.fld (fieldOf r)).topo q.h = d.val) && decide (validOp q.h.op = true) && decide (q.h.dplate < 0x400) && decide (isOwn x.topo q.h.dplate = false) && decide (x.ans.any (·.1 == r) = false) && decide (bit x.topo 31 = true) && decide (key = true) && decide (onTorus x.topo q.h.dplate = true) && decide (x.loss = .ok) && decide (x.nbr = some nbr) && decide (absent x.topo d.val nbr q.h.dplate = false) && decide (x.blocked (bucketOf q.h) n = true)) = true ∧
  (let s : State := inb (rimS 1 {xx with bkt := (List.range 8).map (fun i => (i, 0x22222222#32))}) (bridgeRouter 1 0) .bridge 1 (qq 20 1 2 6 5);
    let d : DieId := 1;
    let k : Fin 48 := 0;
    let ch : Chan := 1;
    let q : Packet := qq 20 1 2 6 5;
    let x := s.rim d.val;
    let r := bridgeRouter d.val k.val;
    let key := (sget 0#32 x.keymap (q.h.pkey / 32)).getLsbD (q.h.pkey % 32);
    decide (x.rst = false) && decide (s.front r .bridge ch.val = some q) && decide (bridgeDie (s.fld (fieldOf r)).topo q.h = d.val) && decide (validOp q.h.op = true) && decide (q.h.dplate < 0x400) && decide (isOwn x.topo q.h.dplate = false) && decide (x.ans.any (·.1 == r) = false) && decide (bit x.topo 31 = true) && decide (key = false) && decide (q.h.ch = 1 ∨ q.h.ch = 3)) = true ∧
  (let s : State := inb (rimS 1 {xx with bkt := (List.range 8).map (fun i => (i, 0x22222222#32))}) (bridgeRouter 1 0) .bridge 0 (qq 1 0 2 6 5);
    let d : DieId := 1;
    let k : Fin 48 := 0;
    let ch : Chan := 0;
    let q : Packet := qq 1 0 2 6 5;
    let x := s.rim d.val;
    let r := bridgeRouter d.val k.val;
    let key := (sget 0#32 x.keymap (q.h.pkey / 32)).getLsbD (q.h.pkey % 32);
    decide (x.rst = false) && decide (s.front r .bridge ch.val = some q) && decide (bridgeDie (s.fld (fieldOf r)).topo q.h = d.val) && decide (validOp q.h.op = true) && decide (q.h.dplate < 0x400) && decide (isOwn x.topo q.h.dplate = false) && decide (x.ans.any (·.1 == r) = false) && decide (bit x.topo 31 = true) && decide (key = false) && decide (q.h.ch = 0) && decide (isOwn x.topo q.h.splate = true) && decide (s.entryShut r .bridge = false) && decide (s.canInject r .bridge 1 = true)) = true ∧
  (let s : State := inb { rimS 1 xx with mesh := { used := [(laneKey (bridgeRouter 1 0) .bridge 1 false, 1000)] } } (bridgeRouter 1 0) .bridge 0 (qq 1 0 2 6 5);
    let d : DieId := 1;
    let k : Fin 48 := 0;
    let ch : Chan := 0;
    let q : Packet := qq 1 0 2 6 5;
    let x := s.rim d.val;
    let r := bridgeRouter d.val k.val;
    let key := (sget 0#32 x.keymap (q.h.pkey / 32)).getLsbD (q.h.pkey % 32);
    decide (x.rst = false) && decide (s.front r .bridge ch.val = some q) && decide (bridgeDie (s.fld (fieldOf r)).topo q.h = d.val) && decide (validOp q.h.op = true) && decide (q.h.dplate < 0x400) && decide (isOwn x.topo q.h.dplate = false) && decide (x.ans.any (·.1 == r) = false) && decide (bit x.topo 31 = true) && decide (key = false) && decide (q.h.ch = 0) && decide (isOwn x.topo q.h.splate = true) && decide (s.canInject r .bridge 1 = false)) = true := by
  decide +kernel

theorem wit_RimBridge_2 :
  (let s : State := inb { rimS 0 {xx with topo:=0#32} with fields := (List.range 64).map (fun i => (i, { fup with topo := 0#32 })) } (bridgeRouter 0 3) .bridge 1 (qq 0x14 1 1 6 5);
    let d : DieId := 0;
    let k : Fin 48 := 3;
    let ch : Chan := 1;
    let q : Packet := qq 0x14 1 1 6 5;
    let x := s.rim d.val;
    let r := bridgeRouter d.val k.val;
    decide (x.rst = false) && decide (s.front r .bridge ch.val = some q) && decide (bridgeDie (s.fld (fieldOf r)).topo q.h = d.val) && decide (validOp q.h.op = true) && decide (q.h.dplate < 0x400) && decide (isOwn x.topo q.h.dplate = false) && decide (x.ans.any (·.1 == r) = false) && decide (bit x.topo 31 = false) && decide (q.h.ch = 1 ∨ q.h.ch = 3)) = true := by
  decide +kernel

theorem wit_RimRegisters_1 :
  (let s : State := rimS 1 xx;
    let p : Party := .hostPcie;
    let d : DieId := 1;
    let n : PortId := 2;
    let v : W32 := 0x80670005#32;
    let x := s.rim d.val;
    decide (x.rst = false) && decide (p ≠ .wardenFw) && ([Instr.rimxTopoWrite p d v, .portEnable p d n v, .portDisable p d n v, .kselSwitch p d n v]).any (fun i =>
    true)) = true ∧
  (let s : State := rimS 1 xx;
    let d : DieId := 1;
    let x := s.rim d.val;
    decide (x.rst = false) && decide (bit x.topo 31 = true)) = true ∧
  (let s : State := rimS 1 {xx with topo:=0#32};
    let d : DieId := 1;
    let v : W32 := 0x80670005#32;
    let x := s.rim d.val;
    decide (x.rst = false) && decide (bit x.topo 31 = false) && decide (onTorus v (bits v 9 0) = true) && decide (d.val ≠ 0)) = true ∧
  (let s : State := { rimS 0 {xx with topo:=0#32} with wdn := { busy.wdn with dead := 0x30#64, cmd := some (.field 9) }, fields := (List.range 64).map (fun i => (i, { fup with rst := i % 3 == 0, seqDone := i % 2 == 0, down := [.colmap] })) };
    let d : DieId := 0;
    let v : W32 := 0x80670005#32;
    let x := s.rim d.val;
    decide (x.rst = false) && decide (bit x.topo 31 = false) && decide (onTorus v (bits v 9 0) = true) && decide (d.val = 0)) = true ∧
  (let s : State := rimS 1 {xx with ports:=[(2,{pt with pcfg:=0#32,st:=0})]};
    let d : DieId := 1;
    let n : PortId := 2;
    let v : W32 := 1#32;
    let x := s.rim d.val;
    let c := x.port n.val;
    let w := setBit v 0 true &&& 0xFFFFFC0F#32;
    decide (x.rst = false) && decide (bit c.pcfg 0 = false) && decide (x.pcfgBad d.val n.val w = false) && decide (x.loss ≠ .broken)) = true ∧
  (let s : State := rimS 1 {xx with ports:=[(2,{pt with pcfg:=0#32,st:=0})]};
    let d : DieId := 1;
    let n : PortId := 2;
    let v : W32 := 2#32;
    let x := s.rim d.val;
    let c := x.port n.val;
    decide (x.rst = false) && decide (bit c.pcfg 0 = false) && decide (bit v 1 = true) && decide (n.val < 12)) = true ∧
  (let s : State := rimS 1 { xx with ports := [(2, { pt with pcfg:=0xD#32,st:=3 }), (5, pt)] };
    let d : DieId := 1;
    let n : PortId := 2;
    let x := s.rim d.val;
    let c := x.port n.val;
    decide (x.rst = false) && decide (bit c.pcfg 0 = true) && decide (c.pcfg &&& 0xFFFFFC0F#32 = c.pcfg) && decide (bit c.pcfg 1 = false)) = true ∧
  (let s : State := rimS 1 { xx with ports := [(2, { pt with pcfg:=0xD#32,st:=3 }), (5, pt)] };
    let d : DieId := 1;
    let n : PortId := 2;
    let x := s.rim d.val;
    let c := x.port n.val;
    decide (x.rst = false) && decide (bit c.pcfg 0 = true) && decide (c.pcfg &&& 0xFFFFFC0F#32 = c.pcfg) && decide (bit c.pcfg 1 = false) && decide (c.st = 3)) = true := by
  decide +kernel

theorem wit_RimRegisters_2 :
  (let s : State := rimS 1 xx;
    let d : DieId := 1;
    let n : PortId := 2;
    let v : W32 := 3#32;
    let x := s.rim d.val;
    let c := x.port n.val;
    decide (x.rst = false) && decide (bit c.pcfg 0 = true) && decide (c.pcfg &&& 0xFFFFFC0F#32 = c.pcfg) && decide (bit c.pcfg 1 = false) && decide (v &&& 0xFFFFFC0F#32 ≠ setBit c.pcfg 0 false) && decide (v &&& 0xFFFFFC0F#32 ≠ setBit c.pcfg 3 (!bit c.pcfg 3))) = true ∧
  (let s : State := rimS 1 xx;
    let p : Party := .wardenFw;
    let d : DieId := 1;
    let x := s.rim d.val;
    decide (x.rst = false) && decide (p = .wardenFw ∨ p = .pressS ∨ p = .pressM ∨ p = .hostWin)) = true ∧
  (let s : State := rimS 1 xx;
    let p : Party := .tileSw;
    let d : DieId := 1;
    let n : PortId := 2;
    let x := s.rim d.val;
    decide (x.rst = false) && decide (p = .tileSelf ∨ p = .tileSw ∨ p = .pressU ∨ p = .hostPcie) && ([Instr.rimxKeydropRead p d, .rimxUndelivRead p d, .rimxPerrRead p d n, .rimxPretrRead p d n]).any (fun i =>
    true)) = true := by
  decide +kernel

end W13

namespace W14
def tp : W32 := 0x80000005#32
def tp8 : W32 := 0x80670005#32
def bw (g : Warden → Warden) : State := { busy with wdn := g busy.wdn }
def bf (k : Nat) (c : Field) (g : Warden → Warden := id) : State := { busy with fields := (k, c) :: busy.fields.filter (·.1 != k), wdn := g busy.wdn }
def qk (op ch : Nat) (pl : W32) (x y key : Nat) (k : Bool := true) (off : Nat := 0) (sel : Nat := 0) (ws : List W32 := [7#32]) : Packet := { h := { op := op, ch := ch, payload := pl, sx := x, sy := y, pkey := key, srckind := k, splate := 0x7FF, tag := 5, off := off, sel := sel }, ws := ws }
def stq (f : Nat) (ch : Nat) (q : Packet) (s : State := busy) : State := inb s (originOf f) .ctl ch q
def ba (wr : Bool) (off size : Nat) (d : List W32 := []) : BusAccess := { wr := wr, off := off, size := size, data := d }
theorem wit_ManagementCores_1 :
  (let s : State := (bw (fun w => { w with booted:=false }));
    let w := s.wdn;
    decide (w.coresUp = true) && decide (w.lstep = false)) = true ∧
  (let s : State := (bw (fun w => { w with lstep:=true }));
    let w := s.wdn;
    decide (w.coresUp = false ∨ w.lstep = true)) = true ∧
  (let s : State := (bw (fun w => { w with booted:=false,bootSel:=some 1 }));
    let n : Nat := 1;
    let w := s.wdn;
    decide (w.coresUp = true) && decide (w.lstep = false) && decide (w.booted = false) && (let img := default;
    decide ((w.bootFrom = false ∧ w.bootSel = some n ∧ img = sget [] w.imgs (8 * n)) ∨ (w.bootFrom = true ∧ bit w.hdb 0 = true ∧ img = mread w.sram 0x400000 (256 + min (leNat (mread w.sram 0x400008 4)) 0xFFF00))) && decide (s.island.st = .operational) && decide (s.island.busy = none) && (let r := (({busy.island with chal:=none}:Island).verify 0 []).1;
    let i := (({busy.island with chal:=none}:Island).verify 0 []).2;
    decide (({ s.island with chal := none } : Island).verify 0 img = (r, i)) && decide (r ≠ 0)))) = true ∧
  (let s : State := { bw (fun w => { w with booted:=false,bootSel:=some 1 }) with island := { busy.island with st := .softErr } };
    let n : Nat := 1;
    let w := s.wdn;
    decide (w.coresUp = true) && decide (w.lstep = false) && decide (w.booted = false) && (let img : Bytes := [];
    decide ((w.bootFrom = false ∧ w.bootSel = some n ∧ img = sget [] w.imgs (8 * n)) ∨ (w.bootFrom = true ∧ bit w.hdb 0 = true ∧ img = mread w.sram 0x400000 (256 + min (leNat (mread w.sram 0x400008 4)) 0xFFF00))) && decide (s.island.st = .softErr ∨ s.island.st = .hardErr))) = true ∧
  (let s : State := { bw (fun w => { w with booted:=false,bootSel:=some 1 }) with island := { busy.island with st := .selftest } };
    let n : Nat := 1;
    let w := s.wdn;
    decide (w.coresUp = true) && decide (w.lstep = false) && decide (w.booted = false) && (let img : Bytes := [];
    decide ((w.bootFrom = false ∧ w.bootSel = some n ∧ img = sget [] w.imgs (8 * n)) ∨ (w.bootFrom = true ∧ bit w.hdb 0 = true ∧ img = mread w.sram 0x400000 (256 + min (leNat (mread w.sram 0x400008 4)) 0xFFF00))) && decide (s.island.st ≠ .operational ∨ s.island.busy ≠ none) && decide (s.island.st ≠ .softErr) && decide (s.island.st ≠ .hardErr))) = true ∧
  (let s : State := (bw (fun w => { w with booted:=false }));
    let w := s.wdn;
    decide (w.coresUp = true) && decide (w.lstep = false) && decide (w.booted = false) && decide (w.bootFrom = false) && decide (w.bootSel = none)) = true ∧
  (let s : State := (bw (fun w => { w with booted:=false,bootFrom:=true,hdb:=2#32 }));
    let w := s.wdn;
    decide (w.coresUp = true) && decide (w.lstep = false) && decide (w.booted = false) && decide (w.bootFrom = true) && decide (bit w.hdb 0 = false)) = true ∧
  (let s : State := busy;
    let b : Bytes := [1#8];
    let w := s.wdn;
    decide (w.periphUp = true) && decide (w.refOk = true) && decide (b.length = 1)) = true := by
  decide +kernel

theorem wit_ManagementCores_2 :
  (let s : State := (bw (fun w => { w with lstep:=true }));
    let b : Bytes := [1#8, 2#8];
    let w := s.wdn;
    decide (w.periphUp = false ∨ w.refOk = false ∨ b.length ≠ 1)) = true ∧
  (let s : State := (bw (fun w => { w with booted:=false }));
    let w := s.wdn;
    decide (w.coresUp = true) && decide (w.bootSel = none)) = true ∧
  (let s : State := (bw (fun w => { w with booted:=false,bootSel:=some 1 }));
    let n : Nat := 1;
    let w := s.wdn;
    decide (w.coresUp = true) && decide (w.bootSel = some n)) = true := by
  decide +kernel

theorem wit_HostRegisters_1 :
  (let s : State := busy;
    let p : Party := .hostPcie;
    let w := s.wdn;
    let host := (p = .hostPcie ∨ p = .hostWin) ∧ w.periphUp = true ∧ w.zeroWin = false;
    decide (host ∨ p = .pressM)) = true ∧
  (let p : Party := .wardenFw;
    let inside := p = .tileSelf ∨ p = .tileSw ∨ p = .pressU ∨ p = .pressS ∨ p = .pressM;
    decide (p = .wardenFw ∨ (inside ∧ p ≠ .pressM))) = true ∧
  (let s : State := busy;
    let p : Party := .wardenFw;
    let v : W32 := 0x12345678#32;
    let w := s.wdn;
    let stores := v.getLsbD 1 = true ∧ bit w.hdb 1 = true ∧ w.logLost = true;
    decide (p = .wardenFw) && decide (¬ stores)) = true ∧
  (let s : State := (bw (fun w => { w with hdb:=2#32,logA:=(List.range 256).map (fun k => (k, .bad)),logB:=(List.range 256).map (fun k => (k, .bad)) }));
    let p : Party := .wardenFw;
    let v : W32 := 2#32;
    let w := s.wdn;
    let stores := v.getLsbD 1 = true ∧ bit w.hdb 1 = true ∧ w.logLost = true;
    decide (p = .wardenFw) && decide (stores)) = true ∧
  (let s : State := busy;
    let p : Party := .wardenFw;
    let v : W32 := 0x12345678#32;
    let w := s.wdn;
    decide (p = .wardenFw) && decide (w.msixMasked (bits v 4 0) = false)) = true ∧
  (let s : State := (bw (fun w => { w with msixTab:=mwrite32 [] 28 1#32 }));
    let p : Party := .wardenFw;
    let v : W32 := 1#32;
    let w := s.wdn;
    decide (p = .wardenFw) && decide (w.msixMasked (bits v 4 0) = true)) = true ∧
  (let s : State := busy;
    let p : Party := .hostPcie;
    let w := s.wdn;
    let host := (p = .hostPcie ∨ p = .hostWin) ∧ w.periphUp = true ∧ w.zeroWin = false;
    let inside := p = .tileSelf ∨ p = .tileSw ∨ p = .pressU ∨ p = .pressS ∨ p = .pressM;
    decide (host ∨ inside)) = true ∧
  (let s : State := busy;
    let p : Party := .hostPcie;
    let a : W64 := 0x7FFFFFFFFFFFFFFF#64;
    let w := s.wdn;
    let host := (p = .hostPcie ∨ p = .hostWin) ∧ w.periphUp = true ∧ w.zeroWin = false;
    decide (p = .wardenFw ∨ host) && decide (bits a 63 60 < 8)) = true := by
  decide +kernel

theorem wit_HostRegisters_2 :
  (let s : State := busy;
    let p : Party := .hostPcie;
    let a : W64 := 0x7FFFFFFFFFFFFFFF#64;
    let w := s.wdn;
    let host := (p = .hostPcie ∨ p = .hostWin) ∧ w.periphUp = true ∧ w.zeroWin = false;
    decide (p = .wardenFw ∨ host) && decide (bits a 11 0 ≠ 0)) = true ∧
  (let s : State := busy;
    let p : Party := .hostPcie;
    let a : W64 := 0x8000000000000000#64;
    let w := s.wdn;
    let host := (p = .hostPcie ∨ p = .hostWin) ∧ w.periphUp = true ∧ w.zeroWin = false;
    let inside := p = .tileSelf ∨ p = .tileSw ∨ p = .pressU ∨ p = .pressS ∨ p = .pressM;
    decide (inside ∨ ((p = .wardenFw ∨ host) ∧ 8 ≤ bits a 63 60))) = true ∧
  (let s : State := busy;
    let p : Party := .hostPcie;
    let a : W64 := 0x8000000000000000#64;
    let w := s.wdn;
    let host := (p = .hostPcie ∨ p = .hostWin) ∧ w.periphUp = true ∧ w.zeroWin = false;
    let inside := p = .tileSelf ∨ p = .tileSw ∨ p = .pressU ∨ p = .pressS ∨ p = .pressM;
    decide (inside ∨ ((p = .wardenFw ∨ host) ∧ bits a 11 0 = 0))) = true := by
  decide +kernel

theorem wit_HostBar :
  (let s : State := busy;
    let a : BusAccess := ba false 0 4;
    let w := s.wdn;
    decide (a.size = 4) && decide (a.off % 4 = 0) && decide (w.periphUp = true) && decide (w.zeroWin = false) && decide (a.wr = false) && decide (wdnListed a.off = true) && decide (w.eccAt a.off = .good)) = true ∧
  (let s : State := busy;
    let a : BusAccess := ba false 0x3000 4;
    let w := s.wdn;
    decide (a.size = 4) && decide (a.off % 4 = 0) && decide (w.periphUp = true) && decide (w.zeroWin = false) && decide (a.wr = false) && decide (wdnListed a.off = false)) = true ∧
  (let s : State := (bw (fun w => { w with bad:=[(0x80000,.ue)] }));
    let a : BusAccess := ba false 0x400000 4;
    let w := s.wdn;
    decide (a.size = 4) && decide (a.off % 4 = 0) && decide (w.periphUp = true) && decide (w.zeroWin = false) && decide (a.wr = false) && decide (0x400000 ≤ a.off) && decide (a.off < 0x500000) && decide (w.eccAt a.off = .ue)) = true ∧
  (let s : State := busy;
    let a : BusAccess := ba true 0x400000 4 [0x01020304#32];
    let w := s.wdn;
    decide (a.size = 4) && decide (a.off % 4 = 0) && decide (w.periphUp = true) && decide (w.zeroWin = false) && decide (a.wr = true) && decide (0x400000 ≤ a.off) && decide (a.off + 4 ≤ 0x500000) && decide (a.data ≠ [])) = true ∧
  (let s : State := (bw (fun w => { w with hdb:=0#32 }));
    let a : BusAccess := ba true 0x500 4 [1#32];
    let w := s.wdn;
    decide (a.size = 4) && decide (a.off % 4 = 0) && decide (w.periphUp = true) && decide (w.zeroWin = false) && decide (a.wr = true) && decide (a.off = 0x500) && decide (a.data = [0x00000001#32])) = true := by
  decide +kernel

theorem wit_HostBarInReset :
  (let s : State := (bw (fun w => { w with zeroWin:=true }));
    decide (s.wdn.zeroWin = true)) = true ∧
  (let s : State := (bw (fun w => { w with periphUp:=false,cls:=.zero }));
    decide (s.wdn.zeroWin = false) && decide (s.wdn.periphUp = false)) = true := by
  decide +kernel

theorem wit_HostWindows_1 :
  (let s : State := (bw (fun w => { w with hwin:=[(3,(0xFFE000000000000#64))],hwkey:=[(3,0x1ABC#32)],req:=[] }));
    let n : Fin 16 := 3;
    let f : FieldId := 0;
    let a : BusAccess := ba false 0x40 4;
    let t : Nat := 0;
    let ts : List Nat := (List.range 63).map (·+1);
    let w := s.wdn;
    let ga := sget 0#64 w.hwin n.val ||| BitVec.ofNat 64 (a.off % 2 ^ 24);
    let g := gaOf ga;
    let c := s.fld f.val;
    let key := bits (sget 0#32 w.hwkey n.val) 11 0;
    decide (w.periphUp = true) && decide (g.space = 0 ∨ g.space = 6) && decide (key ≠ 0) && decide (isOwn (s.rim 0).topo g.plate = true) && decide (fieldAt g.y g.x = f.val) && decide (({ g with space := 0 } : Ga).bad 4 = false) && decide (g.off % 4 = 0) && decide (a.wr = false) && decide (a.size = 4) && decide (shas w.hostRd n.val = false) && decide (bit w.dead f.val = false) && decide (c.rst = false) && decide (styPlain c.down < 6) && decide (w.freeReqs f.val = t :: ts)) = true ∧
  (let s : State := (bw (fun w => { w with hwin:=[(3,(0xFFE000000000000#64))],hwkey:=[(3,0x1ABC#32)],req:=[],dead:=1#64 }));
    let n : Fin 16 := 3;
    let f : FieldId := 0;
    let a : BusAccess := ba false 0x40 4;
    let w := s.wdn;
    let ga := sget 0#64 w.hwin n.val ||| BitVec.ofNat 64 (a.off % 2 ^ 24);
    let g := gaOf ga;
    let key := bits (sget 0#32 w.hwkey n.val) 11 0;
    decide (w.periphUp = true) && decide (g.space = 0) && decide (key ≠ 0) && decide (isOwn (s.rim 0).topo g.plate = true) && decide (fieldAt g.y g.x = f.val) && decide (g.bad 4 = false) && decide (g.off % 4 = 0) && decide (a.wr = false) && decide (a.size = 4) && decide (shas w.hostRd n.val = false) && decide (bit w.dead f.val = true)) = true ∧
  (let s : State := (bw (fun w => { w with hwin:=[(3,(0xFFE000000000000#64))],hwkey:=[],req:=[] }));
    let n : Fin 16 := 3;
    let a : BusAccess := ba false 0x40 4;
    let w := s.wdn;
    let ga := sget 0#64 w.hwin n.val ||| BitVec.ofNat 64 (a.off % 2 ^ 24);
    let g := gaOf ga;
    let key := bits (sget 0#32 w.hwkey n.val) 11 0;
    decide (w.periphUp = true) && decide (g.space = 0 ∨ g.space = 6) && decide (key = 0) && decide (shas w.hostRd n.val = false)) = true ∧
  (let s : State := bf 0 {fup with down := [.mesh (qk 1 0 9#32 0 0 0 (ws := [])), .mesh (qk 1 0 0#32 0 0 0)]};
    let f : FieldId := 0;
    let q : Packet := qk 1 0 9#32 0 0 0 (ws := []);
    let w := s.wdn;
    let c := s.fld f.val;
    let o := originOf f.val;
    decide (c.rst = false) && decide (bit w.dead f.val = false) && decide (styNext c.down false = some (.mesh q)) && decide (s.canInject o .ctl q.h.ch = true)) = true ∧
  (let s : State := { bf 0 {fup with down := [.mesh (qk 1 0 9#32 0 0 0)]} with mesh := { stopped := [(laneKey (originOf 0) .ctl 0 false,true)] } };
    let f : FieldId := 0;
    let q : Packet := qk 1 0 9#32 0 0 0;
    let w := s.wdn;
    let c := s.fld f.val;
    let o := originOf f.val;
    decide (c.rst = false) && decide (bit w.dead f.val = false) && decide (styNext c.down false = some (.mesh q)) && decide (s.canInject o .ctl q.h.ch = false)) = true ∧
  (let s : State := stq 0 1 ({ qk 0x14 1 9#32 0 0 0 with h := { (qk 0x14 1 9#32 0 0 0).h with status := 0 } }) (bw (fun w => {w with req:=[(64*0+4,{win:=none,rd:=false}),(64*0+5,{win:=none,rd:=true,word:=0,words:=1}),(64*0+6,{win:=some 3,rd:=true})], hostRd := []}));
    let f : FieldId := 0;
    let q : Packet := { qk 0x14 1 9#32 0 0 0 with h := { (qk 0x14 1 9#32 0 0 0).h with status := 0 } };
    let w := s.wdn;
    let c := s.fld f.val;
    let o := originOf f.val;
    let k := 64*0+5;
    let e := {win:=none,rd:=true,word:=0,words:=1};
    decide (c.rst = false) && decide (bit w.dead f.val = false) && decide (s.front o .ctl 1 = some q) && decide (w.req.find? (fun e => e.1 == 64 * f.val + q.h.tag) = some (k, e)) && decide (e.win = none)) = true ∧
  (let s : State := stq 0 1 ({ qk 0x14 1 9#32 0 0 0 with h := { (qk 0x14 1 9#32 0 0 0).h with status := 0 } }) (bw (fun w => {w with req:=[(64*0+4,{win:=none,rd:=false}),(64*0+5,{win:=some 3,rd:=true,word:=0,words:=1}),(64*0+6,{win:=some 3,rd:=true})], hostRd := []}));
    let f : FieldId := 0;
    let q : Packet := { qk 0x14 1 9#32 0 0 0 with h := { (qk 0x14 1 9#32 0 0 0).h with status := 0 } };
    let w := s.wdn;
    let c := s.fld f.val;
    let o := originOf f.val;
    let k := 64*0+5;
    let e := {win:=some 3,rd:=true,word:=0,words:=1};
    decide (c.rst = false) && decide (bit w.dead f.val = false) && decide (s.front o .ctl 1 = some q) && decide (w.req.find? (fun e => e.1 == 64 * f.val + q.h.tag) = some (k, e)) && (let m := 3;
    decide (e.win = some m) && decide (e.rd = true) && decide (q.h.status = 0) && decide (sget { words := 1 } w.hostRd m = { words := 1 }))) = true := by
  decide +kernel

theorem wit_HostWindows_2 :
  (let s : State := stq 0 1 ({ qk 0x14 1 9#32 0 0 0 with h := { (qk 0x14 1 9#32 0 0 0).h with status := 5 } }) (bw (fun w => {w with req:=[(64*0+4,{win:=none,rd:=false}),(64*0+5,{win:=some 3,rd:=true,word:=0,words:=1}),(64*0+6,{win:=some 3,rd:=true})], hostRd := []}));
    let f : FieldId := 0;
    let q : Packet := { qk 0x14 1 9#32 0 0 0 with h := { (qk 0x14 1 9#32 0 0 0).h with status := 5 } };
    let w := s.wdn;
    let c := s.fld f.val;
    let o := originOf f.val;
    let k := 64*0+5;
    let e := {win:=some 3,rd:=true,word:=0,words:=1};
    decide (c.rst = false) && decide (bit w.dead f.val = false) && decide (s.front o .ctl 1 = some q) && decide (w.req.find? (fun e => e.1 == 64 * f.val + q.h.tag) = some (k, e)) && (let m := 3;
    decide (e.win = some m) && decide (e.rd = true) && decide (q.h.status ≠ 0))) = true ∧
  (let s : State := (bw (fun w => { w with hostRd:=[(3,{words:=2})],req:=[(4,{win:=some 3,rd:=true}),(5,{win:=some 4,rd:=true})] }));
    let n : Fin 16 := 3;
    let w := s.wdn;
    decide (shas w.hostRd n.val = true)) = true ∧
  (let s : State := (bw (fun w => { w with hwin:=[(3,(0xFFE000000000000#64))],hwkey:=[(3,0x1ABC#32)],req:=[] }));
    let n : Fin 16 := 3;
    let w := s.wdn;
    decide (shas w.hostRd n.val = false)) = true ∧
  (let s : State := busy;
    let n : Fin 16 := 3;
    let f : FieldId := 0;
    let a : BusAccess := ba false 0x40 4;
    let w := s.wdn;
    let ga := sget 0#64 w.hwin n.val ||| BitVec.ofNat 64 (a.off % 2 ^ 24);
    let r : FwReq := {wr:=false,kind:=.plain,ga:=(0xFFE000000018000#64),size:=4,data:=[]};
    decide (w.fwRuns = true) && decide (meshField (s.rim 0).topo (gaOf r.ga) = f.val) && decide ((gaOf r.ga).bad (if r.kind = .queue then 4 else r.size) = true)) = true := by
  decide +kernel

theorem wit_StylusLink_1 :
  (let s : State := bf 9 {fup with topo:=tp,down:=[.topo 1#32]};
    let f : FieldId := 9;
    let w := s.wdn;
    let c := s.fld f.val;
    decide (c.rst = false) && decide (bit w.dead f.val = false) && decide (styPlain c.down ≠ 0)) = true ∧
  (let s : State := bf 9 {fup with topo:=tp,up:=[.event 3],evt:=7#32};
    let f : FieldId := 9;
    let a : BusAccess := ba false 0x100 4;
    let w := s.wdn;
    let c := s.fld f.val;
    decide (c.rst = false) && decide (bit w.dead f.val = false) && decide (styPlain c.down = 0) && decide (a.wr = false)) = true ∧
  (let s : State := bf 9 {fup with topo:=tp,up:=[.event 3],evt:=7#32};
    let f : FieldId := 9;
    let a : BusAccess := ba true 0x0 4 [0xFFFFFFFF#32];
    let w := s.wdn;
    let c := s.fld f.val;
    decide (c.rst = false) && decide (bit w.dead f.val = false) && decide (styPlain c.down = 0) && decide (a.wr = true) && decide (a.off / 4 ≠ 0x201) && decide (a.off < 0x420 ∨ 0x43C ≤ a.off)) = true ∧
  (let s : State := bf 9 {fup with topo:=tp,up:=[.event 3],evt:=7#32};
    let f : FieldId := 9;
    let k : Nat := 3;
    let rest : List StyCmd := [];
    let w := s.wdn;
    let c := s.fld f.val;
    decide (c.rst = false) && decide (bit w.dead f.val = false) && decide (c.up = .event k :: rest)) = true ∧
  (let s : State := bf 9 {fup with topo:=tp,up:=[.event 3],evt:=7#32};
    let f : FieldId := 9;
    let c := s.fld f.val;
    decide (c.rst = false) && decide (s.styTurn f.val = false) && ([Instr.rdWdn f, .wrWdn f, .rdRim f, .wrRim f]).any (fun i =>
    true)) = true ∧
  (let s : State := stq 9 0 (qk 6 0 0x0#32 144 191 0 true 0 0) (bf 9 fup (fun w => {w with styUp:=0x200#64}));
    let f : FieldId := 9;
    let q : Packet := qk 6 0 0x0#32 144 191 0 true 0 0;
    let w := s.wdn;
    let c := s.fld f.val;
    let o := originOf f.val;
    let who := srcParty c.topo q.h;
    let off := 4 * bits q.h.payload 26 0;
    decide (c.rst = false) && decide (s.styTurn f.val = true) && decide (s.front o .ctl 0 = some q) && decide (q.h.op = 0x06) && decide (tileParty who = false) && decide (wdnListed off = true) && decide (w.eccAt off = .good)) = true ∧
  (let s : State := stq 9 0 (qk 6 0 0x0#32 144 191 0 false 0 0) (bf 9 fup (fun w => {w with styUp:=0x200#64}));
    let f : FieldId := 9;
    let q : Packet := qk 6 0 0x0#32 144 191 0 false 0 0;
    let c := s.fld f.val;
    let o := originOf f.val;
    let who := srcParty c.topo q.h;
    let off := 4 * bits q.h.payload 26 0;
    decide (c.rst = false) && decide (s.styTurn f.val = true) && decide (s.front o .ctl 0 = some q) && decide (q.h.op = 0x06) && decide (tileParty who = true) && decide (wdnListed off = true)) = true ∧
  (let s : State := stq 9 0 (qk 6 0 0xC00#32 144 191 0 true 0 0) (bf 9 fup (fun w => {w with styUp:=0x200#64}));
    let f : FieldId := 9;
    let q : Packet := qk 6 0 0xC00#32 144 191 0 true 0 0;
    let c := s.fld f.val;
    let o := originOf f.val;
    let off := 4 * bits q.h.payload 26 0;
    decide (c.rst = false) && decide (s.styTurn f.val = true) && decide (s.front o .ctl 0 = some q) && decide (q.h.op = 0x06) && decide (wdnListed off = false)) = true := by
  decide +kernel

theorem wit_StylusLink_2 :
  (let s : State := stq 9 0 (qk 13 0 0#32 144 191 0 false 0x1000 0) (bf 9 fup (fun w => {w with styUp:=0x200#64}));
    let f : FieldId := 9;
    let q : Packet := qk 13 0 0#32 144 191 0 false 0x1000 0;
    let c := s.fld f.val;
    let o := originOf f.val;
    let who := srcParty c.topo q.h;
    decide (c.rst = false) && decide (s.styTurn f.val = true) && decide (s.front o .ctl 0 = some q) && decide (q.h.op = 0x0D) && decide (tileParty who = true) && decide (0x1000 ≤ q.h.off) && decide (q.h.off < 0x2000)) = true ∧
  (let s : State := stq 9 0 (qk 13 0 0#32 144 191 0 false 0x300 0) (bf 9 fup (fun w => {w with styUp:=0x200#64}));
    let f : FieldId := 9;
    let q : Packet := qk 13 0 0#32 144 191 0 false 0x300 0;
    let c := s.fld f.val;
    let o := originOf f.val;
    let who := srcParty c.topo q.h;
    decide (c.rst = false) && decide (s.styTurn f.val = true) && decide (s.front o .ctl 0 = some q) && decide (q.h.op = 0x0D) && decide (tileParty who = true) && decide (q.h.off / 4 * 4 = 0x300 ∨ q.h.off / 4 * 4 = 0x30C ∨ q.h.off / 4 * 4 = 0x308)) = true ∧
  (let s : State := stq 9 0 (qk 13 0 0#32 144 191 0 true 1280 0) (bf 9 fup (fun w => {w with styUp:=0x200#64}));
    let f : FieldId := 9;
    let q : Packet := qk 13 0 0#32 144 191 0 true 1280 0;
    let c := s.fld f.val;
    let o := originOf f.val;
    let who := srcParty c.topo q.h;
    decide (c.rst = false) && decide (s.styTurn f.val = true) && decide (s.front o .ctl 0 = some q) && decide (q.h.op = 0x0D) && decide (who = .pressM) && decide (q.h.off / 4 * 4 = 0x500)) = true ∧
  (let s : State := stq 9 0 (qk 5 0 0x0#32 144 191 0 true 0 0) (bf 9 fup (fun w => {w with styUp:=0x200#64}));
    let f : FieldId := 9;
    let q : Packet := qk 5 0 0x0#32 144 191 0 true 0 0;
    let c := s.fld f.val;
    let o := originOf f.val;
    let who := srcParty c.topo q.h;
    let die := bits q.h.payload 28 27;
    decide (c.rst = false) && decide (s.styTurn f.val = true) && decide (s.front o .ctl 0 = some q) && decide (q.h.op = 0x05) && decide ((s.rim die).rst = false) && decide (who = .pressS ∨ who = .pressM ∨ who = .wardenFw ∨ who = .hostWin)) = true ∧
  (let s : State := stq 9 0 (qk 12 0 0#32 0 96 0 true 64 0) (bf 9 fup (fun w => {w with styUp:=0x200#64}));
    let f : FieldId := 9;
    let q : Packet := qk 12 0 0#32 0 96 0 true 64 0;
    let c := s.fld f.val;
    let o := originOf f.val;
    let who := srcParty c.topo q.h;
    decide (c.rst = false) && decide (s.styTurn f.val = true) && decide (s.front o .ctl 0 = some q) && decide (q.h.op = 0x0C) && decide ((s.rim q.h.sel).rst = false) && decide (who = .wardenFw) && (let i := 0;
    decide (i < 8) && decide (q.h.off = 0x40 + 4 * i))) = true ∧
  (let s : State := stq 9 0 (qk 12 0 0#32 144 191 0 true 0 0) (bf 9 fup (fun w => {w with styUp:=0x200#64}));
    let f : FieldId := 9;
    let q : Packet := qk 12 0 0#32 144 191 0 true 0 0;
    let c := s.fld f.val;
    let o := originOf f.val;
    let who := srcParty c.topo q.h;
    decide (c.rst = false) && decide (s.styTurn f.val = true) && decide (s.front o .ctl 0 = some q) && decide (q.h.op = 0x0C) && decide ((s.rim q.h.sel).rst = false) && decide (who ≠ .wardenFw) && decide (q.h.off / 4 * 4 = 0)) = true ∧
  (let s : State := stq 9 0 (qk 5 0 0#32 144 191 0 true 0 0) (bf 9 fup (fun w => {w with styUp:=0x200#64}));
    let f : FieldId := 9;
    let q : Packet := qk 5 0 0#32 144 191 0 true 0 0;
    let c := s.fld f.val;
    let o := originOf f.val;
    decide (c.rst = false) && decide (s.styTurn f.val = true) && decide (s.front o .ctl 0 = some q) && ([(0x05, Instr.rdRim f), (0x06, .rdWdn f), (0x0C, .wrRim f), (0x0D, .wrWdn f)]).any (fun i =>
    decide (q.h.op = i.1))) = true := by
  decide +kernel

theorem wit_WardenTransfers_1 :
  (let s : State := busy;
    let w := s.wdn;
    let hw := w.periphUp = true ∧ w.refOk = true;
    decide (hw)) = true ∧
  (let s : State := {};
    let w := s.wdn;
    let hw := w.periphUp = true ∧ w.refOk = true;
    decide (¬ hw)) = true ∧
  (let s : State := busy;
    let w := s.wdn;
    let fw := w.fwRuns = true;
    decide (fw) && decide (w.mgmtIn = [])) = true ∧
  (let s : State := (bw (fun w => { w with mgmtIn:=[(6, natLe 4 0x04030201),(7,[9#8])] }));
    let y : Nat × Bytes := (6, natLe 4 0x04030201);
    let ys : List (Nat × Bytes) := [(7,[9#8])];
    let w := s.wdn;
    let fw := w.fwRuns = true;
    decide (fw) && decide (w.mgmtIn = y :: ys) && decide (bits ((toWords (y.2.length / 4) y.2).getD 0 0#32) 15 0 ≠ 0x0101)) = true ∧
  (let s : State := (bw (fun w => { w with mgmtIn:=[(6, natLe 4 0x0101 ++ natLe 4 7 ++ natLe 4 1),(7,[9#8])] }));
    let y : Nat × Bytes := (6, natLe 4 0x0101 ++ natLe 4 7 ++ natLe 4 1);
    let ys : List (Nat × Bytes) := [(7,[9#8])];
    let w := s.wdn;
    let fw := w.fwRuns = true;
    decide (fw) && decide (w.mgmtIn = y :: ys) && (let h : W32 := 0x0101#32;
    let t : W32 := 7#32;
    let c : W32 := 1#32;
    decide (toWords (y.2.length / 4) y.2 = [h, t, c]) && decide (bits h 15 0 = 0x0101) && decide (bits c 15 8 = 0) && ([(1, Instr.hello y.1 t), (2, .bypassIn (.plate y.1) t (BitVec.ofNat 4 (bits c 31 16))), (3, .bypassOut (.plate y.1) t (BitVec.ofNat 4 (bits c 31 16))), (5, .powerOff y.1 t), (6, .telemSub y.1 t (BitVec.ofNat 16 (bits c 31 16)))]).any (fun i =>
    decide (bits c 7 0 = i.1) && decide (i.1 = 2 ∨ i.1 = 3 → bits c 31 16 < 16)))) = true ∧
  (let s : State := (bw (fun w => { w with mgmtIn:=[(6, natLe 4 0x0101 ++ natLe 4 7 ++ natLe 4 4 ++ natLe 4 5 ++ natLe 4 6),(7,[9#8])] }));
    let y : Nat × Bytes := (6, natLe 4 0x0101 ++ natLe 4 7 ++ natLe 4 4 ++ natLe 4 5 ++ natLe 4 6);
    let ys : List (Nat × Bytes) := [(7,[9#8])];
    let w := s.wdn;
    let fw := w.fwRuns = true;
    decide (fw) && decide (w.mgmtIn = y :: ys) && (let h : W32 := 0x0101#32;
    let t : W32 := 7#32;
    let c : W32 := 4#32;
    let a : W32 := 5#32;
    let b : W32 := 6#32;
    decide (toWords (y.2.length / 4) y.2 = [h, t, c, a, b]) && decide (bits h 15 0 = 0x0101) && decide (bits c 15 0 = 4))) = true ∧
  (let s : State := busy;
    let w := s.wdn;
    let fw := w.fwRuns = true;
    decide (fw)) = true ∧
  (let s : State := busy;
    let b : Bytes := natLe 4 0x80670005 ++ natLe 4 6;
    let w := s.wdn;
    let fw := w.fwRuns = true;
    decide (fw) && decide (b.length = 8)) = true := by
  decide +kernel

theorem wit_WardenTransfers_2 :
  (let s : State := (bw (fun w => { w with imgs:=[(3,[1#8,2#8,3#8]),(12,[5#8])],chk:=(3,1) }));
    let b : Bytes := [0,0] ++ natLe 4 0 ++ natLe 2 0 ++ (List.range 0).map (fun i => BitVec.ofNat 8 (i+1));
    let w := s.wdn;
    let fw := w.fwRuns = true;
    decide (fw) && (let ty := 0;
    let slot := 0;
    let n := 0;
    decide (leNat (b.take 1) = ty) && decide (leNat ((b.drop 1).take 1) = slot) && decide (leNat ((b.drop 6).take 2) = n) && decide (b.length = 8 + n) && decide (n ≤ 256) && decide (ty ≤ 4) && decide (slot ≤ 1))) = true ∧
  (let s : State := (bw (fun w => { w with imgs:=[] }));
    let b : Bytes := [0];
    let w := s.wdn;
    let fw := w.fwRuns = true;
    decide (fw) && decide (b.length = 1) && decide (leNat b ≤ 1) && decide (s.island.st = .operational)) = true ∧
  (let s : State := busy;
    let b : Bytes := natLe 2 0 ++ List.replicate 0 3#8;
    let w := s.wdn;
    let fw := w.fwRuns = true;
    decide (fw) && (let n := 0;
    decide (leNat (b.take 2) = n) && decide (b.length = 2 + n) && decide (n ≤ 1024) && decide (w.topoRec = none) && decide (s.krovas.frameOut = []))) = true ∧
  (let s : State := busy;
    let b : Bytes := [];
    let w := s.wdn;
    let fw := w.fwRuns = true;
    decide (fw) && decide (b.length ≠ 2 + leNat (b.take 2)) && decide (s.krovas.frameOut = [])) = true ∧
  (let s : State := (bw (fun w => { w with lstep:=true }));
    let b : Bytes := [];
    let w := s.wdn;
    let fw := w.fwRuns = true;
    ([Instr.mgmtRd, .i3cTopo b, .stageWr b, .stageChk b, .mgmtWr b]).any (fun i =>
    decide (¬ fw))) = true ∧
  (let s : State := (bw (fun w => { w with lstep:=true }));
    let w := s.wdn;
    let fw := w.fwRuns = true;
    decide (¬ fw)) = true ∧
  (let s : State := { busy with rims := [(2,{mgmt:=[{qk 0x1D 3 0#32 0 0 0 (ws := [0x100#32, 4#32]) with h := {(qk 0x1D 3 0#32 0 0 0).h with long := true} },qk 1 0 0#32 0 0 0]})] };
    let d : DieId := 2;
    let q : Packet := {qk 0x1D 3 0#32 0 0 0 (ws := [0x100#32, 4#32]) with h := {(qk 0x1D 3 0#32 0 0 0).h with long := true} };
    let more : List Packet := [qk 1 0 0#32 0 0 0];
    let w := s.wdn;
    let fw := w.fwRuns = true;
    decide (fw) && decide ((s.rim d.val).mgmt = q :: more) && decide (q.h.long = true) && decide (0x100 ≤ bits (q.ws.getD 0 0#32) 15 0) && decide (bits (q.ws.getD 0 0#32) 15 0 ≤ 0x1FF)) = true ∧
  (let s : State := { busy with rims := [(2,{mgmt:=[qk 0x1D 3 0#32 0 0 0 (ws := [0x100#32, 4#32]),qk 1 0 0#32 0 0 0]})] };
    let d : DieId := 2;
    let q : Packet := qk 0x1D 3 0#32 0 0 0 (ws := [0x100#32, 4#32]);
    let more : List Packet := [qk 1 0 0#32 0 0 0];
    let w := s.wdn;
    let fw := w.fwRuns = true;
    decide (fw) && decide ((s.rim d.val).mgmt = q :: more) && decide (q.h.long = false ∨ bits (q.ws.getD 0 0#32) 15 0 < 0x100 ∨ 0x1FF < bits (q.ws.getD 0 0#32) 15 0)) = true := by
  decide +kernel

theorem wit_ManagementFrames :
  (let s : State := { bw (fun w => {w with topoRec := some (0x80670005#32,6), nack := true}) with rims := (List.range 4).map (fun d => (d, { rst := false, pll := true, topo := tp8, keymap:=[(0,6#32)],keydrop:=0 })) };
    let b : Bytes := natLe 2 1 ++ (List.range 1).map (fun i => BitVec.ofNat 8 (i+3));
    let t : W32 := 0x80670005#32;
    let plate : Nat := 6;
    let w := s.wdn;
    let d := chooseDie (s.rim 0).topo plate;
    let x := s.rim d;
    decide (w.fwRuns = true) && decide (w.topoRec = some (t, plate) ∧ s.krovas.frameOut = []) && decide (1 ≤ leNat (b.take 2)) && decide (leNat (b.take 2) ≤ 128) && decide (b.length = 2 + leNat (b.take 2)) && decide (isOwn (s.rim 0).topo plate = false) && decide ((sget 0#32 x.keymap 0).getLsbD 0 = false)) = true ∧
  (let s : State := { bw (fun w => {w with topoRec := some (0x80670005#32,6), nack := true}) with rims := (List.range 4).map (fun d => (d, { rst := false, pll := true, topo := tp8, keymap:=[(0,7#32)],loss:=.noSignal,held:=[] })) };
    let b : Bytes := natLe 2 1 ++ (List.range 1).map (fun i => BitVec.ofNat 8 (i+3));
    let t : W32 := 0x80670005#32;
    let plate : Nat := 6;
    let w := s.wdn;
    let d := chooseDie (s.rim 0).topo plate;
    let x := s.rim d;
    decide (w.fwRuns = true) && decide (w.topoRec = some (t, plate) ∧ s.krovas.frameOut = []) && decide (1 ≤ leNat (b.take 2)) && decide (leNat (b.take 2) ≤ 128) && decide (b.length = 2 + leNat (b.take 2)) && decide (isOwn (s.rim 0).topo plate = false) && decide ((sget 0#32 x.keymap 0).getLsbD 0 = true) && decide (x.rst = false) && decide (bit x.topo 31 = true) && decide (onTorus x.topo plate = true) && decide (x.loss = .noSignal)) = true := by
  decide +kernel

end W14

namespace W15
def isl (g : Island → Island) (h : Warden → Warden := id) : State := { busy with island := g busy.island, wdn := h busy.wdn }
def ib (l : List (Nat × Nat)) : Mem := l.foldl (fun m e => mwrite m e.1 [BitVec.ofNat 8 e.2]) ([] : Mem)
theorem wit_IslandCommands_1 :
  (let s : State := busy;
    let p : Party := .pressS;
    let ok : Bool := true;
    let w := s.wdn;
    let ops := [(0x01, Instr.selftest p ok), (0x02, .getid p), (0x03, .verify p), (0x04, .islandExtend p), (0x05, .quote p), (0x06, .islandImport p), (0x07, .forget p), (0x08, .loadkey p), (0x09, .random p), (0x0A, .challenge p), (0x0B, .setOwner p), (0x0C, .zeroize p), (0x0D, .unlock p), (0x0E, .revoke p), (0x0F, .svnraise p)];
    decide (p ≠ .wardenFw) && decide (p = .hostPcie ∨ p = .hostWin → w.periphUp = true ∧ w.zeroWin = false) && (ops).any (fun c =>
    true)) = true ∧
  (let s : State := (isl (fun i => { i with st:=.selftest,chal:=some [] }) );
    let p : Party := .wardenFw;
    let ok : Bool := true;
    let i := s.island;
    let w := s.wdn;
    let on := w.supply = true ∧ w.asserted = false;
    let ops := [(0x01, Instr.selftest p ok), (0x02, .getid p), (0x03, .verify p), (0x04, .islandExtend p), (0x05, .quote p), (0x06, .islandImport p), (0x07, .forget p), (0x08, .loadkey p), (0x09, .random p), (0x0A, .challenge p), (0x0B, .setOwner p), (0x0C, .zeroize p), (0x0D, .unlock p), (0x0E, .revoke p), (0x0F, .svnraise p)];
    decide (p = .wardenFw) && decide (on) && decide (i.busy = none) && decide (i.st ≠ .operational) && decide (i.st ≠ .softErr) && (ops).any (fun c =>
    true)) = true ∧
  (let s : State := (isl (fun i => { i with st:=.softErr }) );
    let p : Party := .wardenFw;
    let ok : Bool := true;
    let i := s.island;
    let w := s.wdn;
    let on := w.supply = true ∧ w.asserted = false;
    let ops := [(0x01, Instr.selftest p ok), (0x02, .getid p), (0x03, .verify p), (0x04, .islandExtend p), (0x05, .quote p), (0x06, .islandImport p), (0x07, .forget p), (0x08, .loadkey p), (0x09, .random p), (0x0A, .challenge p), (0x0B, .setOwner p), (0x0C, .zeroize p), (0x0D, .unlock p), (0x0E, .revoke p), (0x0F, .svnraise p)];
    decide (p = .wardenFw) && decide (on) && decide (i.busy = none) && decide (i.st = .softErr) && (ops).any (fun c =>
    decide (c.1 ≠ 0x01) && decide (c.1 ≠ 0x0A))) = true ∧
  (let s : State := (isl (fun i => { i with owner:=some [1#8],chal:=none }) );
    let p : Party := .wardenFw;
    let ok : Bool := true;
    let i := s.island;
    let w := s.wdn;
    let on := w.supply = true ∧ w.asserted = false;
    let ops := [(0x01, Instr.selftest p ok), (0x02, .getid p), (0x03, .verify p), (0x04, .islandExtend p), (0x05, .quote p), (0x06, .islandImport p), (0x07, .forget p), (0x08, .loadkey p), (0x09, .random p), (0x0A, .challenge p), (0x0B, .setOwner p), (0x0C, .zeroize p), (0x0D, .unlock p), (0x0E, .revoke p), (0x0F, .svnraise p)];
    decide (p = .wardenFw) && decide (on) && decide (i.busy = none) && decide (i.st = .operational) && decide (i.owner.isSome = true) && decide (i.chal = none) && (ops).any (fun c =>
    decide (0x0B ≤ c.1))) = true ∧
  (let s : State := busy;
    let p : Party := .wardenFw;
    let ok : Bool := true;
    let ga : W64 := 0x5FFE000000002004#64;
    let i := s.island;
    let w := s.wdn;
    let g := gaOf ga;
    let on := w.supply = true ∧ w.asserted = false;
    let ops := [(0x01, Instr.selftest p ok), (0x02, .getid p), (0x03, .verify p), (0x04, .islandExtend p), (0x05, .quote p), (0x06, .islandImport p), (0x07, .forget p), (0x08, .loadkey p), (0x09, .random p), (0x0A, .challenge p), (0x0B, .setOwner p), (0x0C, .zeroize p), (0x0D, .unlock p), (0x0E, .revoke p), (0x0F, .svnraise p)];
    decide (p = .wardenFw) && decide (on) && decide (i.busy = none) && decide (g.space = 5) && decide (g.bad 4 = false) && decide (isOwn s.topoNow g.plate = true) && decide (g.off = 0x2004) && (ops).any (fun c =>
    true)) = true ∧
  (let p : Party := .wardenFw;
    let ok : Bool := true;
    let ch : Option Bytes := none;
    let s : State := (isl (fun i => { i with busy:=some { op:=0x33, ch:=none } }) );
    let i := s.island;
    let w := s.wdn;
    let on := w.supply = true ∧ w.asserted = false;
    let ops := [(0x01, Instr.selftest p ok), (0x02, .getid p), (0x03, .verify p), (0x04, .islandExtend p), (0x05, .quote p), (0x06, .islandImport p), (0x07, .forget p), (0x08, .loadkey p), (0x09, .random p), (0x0A, .challenge p), (0x0B, .setOwner p), (0x0C, .zeroize p), (0x0D, .unlock p), (0x0E, .revoke p), (0x0F, .svnraise p)];
    decide (p = .wardenFw) && decide (on) && (ops).any (fun c =>
    let op := 0x33;
    decide (i.busy = some { op := op, ch := ch }) && decide (op ≠ c.1))) = true ∧
  (let p : Party := .wardenFw;
    let ok : Bool := true;
    let ch : Option Bytes := none;
    let s : State := (isl (fun i => { i with st:=.selftest,busy:=some { op:=0x01, ch:=none } }) );
    let i := s.island;
    let w := s.wdn;
    let on := w.supply = true ∧ w.asserted = false;
    let ops := [(0x01, Instr.selftest p ok), (0x02, .getid p), (0x03, .verify p), (0x04, .islandExtend p), (0x05, .quote p), (0x06, .islandImport p), (0x07, .forget p), (0x08, .loadkey p), (0x09, .random p), (0x0A, .challenge p), (0x0B, .setOwner p), (0x0C, .zeroize p), (0x0D, .unlock p), (0x0E, .revoke p), (0x0F, .svnraise p)];
    decide (p = .wardenFw) && decide (on) && (ops).any (fun c =>
    let op := 0x01;
    decide (i.busy = some { op := op, ch := ch }) && decide (op = c.1) && decide (i.st ≠ .operational) && decide (i.st ≠ .softErr))) = true := by
  decide +kernel

theorem wit_IslandCommands_2 :
  (let s : State := (isl (fun i => { i with st:=.operational }) (fun w => { w with asserted:=true }));
    let p : Party := .wardenFw;
    let ok : Bool := true;
    let w := s.wdn;
    let on := w.supply = true ∧ w.asserted = false;
    let ops := [(0x01, Instr.selftest p ok), (0x02, .getid p), (0x03, .verify p), (0x04, .islandExtend p), (0x05, .quote p), (0x06, .islandImport p), (0x07, .forget p), (0x08, .loadkey p), (0x09, .random p), (0x0A, .challenge p), (0x0B, .setOwner p), (0x0C, .zeroize p), (0x0D, .unlock p), (0x0E, .revoke p), (0x0F, .svnraise p)];
    decide (p = .wardenFw) && decide (¬ on) && (ops).any (fun c =>
    true)) = true := by
  decide +kernel

theorem wit_IslandIdentity :
  (let s : State := (isl (fun i => { i with buf:=ib [(0,5)] }) );
    let i := s.island;
    decide (s.wdn.supply = true) && decide (s.wdn.asserted = false) && decide (i.st = .operational) && decide (i.busy = none)) = true ∧
  (let s : State := (isl (fun i => { i with buf:=ib [(0,0)] }) );
    let i := s.island;
    let ty := leNat (mread i.buf 0 1);
    let img := mread s.wdn.sram (leNat (mread i.buf 1 4)) (leNat (mread i.buf 5 4));
    let r := verifyImage i.revoked (sget 0 i.minSvn ty) img;
    decide (s.wdn.supply = true) && decide (s.wdn.asserted = false) && decide (i.st = .operational) && decide (i.busy = none) && decide (leNat (mread i.buf 5 4) ≤ 0x1000100) && decide (ty ≤ 4) && decide (r ≠ 0)) = true ∧
  (let s : State := (isl (fun i => { i with buf:=ib [(0,5)] }) );
    let i := s.island;
    let ty := leNat (mread i.buf 0 1);
    decide (s.wdn.supply = true) && decide (s.wdn.asserted = false) && decide (i.st = .operational) && decide (i.busy = none) && decide (0x1000100 < leNat (mread i.buf 5 4) ∨ 4 < ty)) = true ∧
  (let s : State := (isl (fun i => { i with buf:=ib [(0,5),(1,7),(48,9)] }) );
    let i := s.island;
    let ty := leNat (mread i.buf 0 1);
    decide (s.wdn.supply = true) && decide (s.wdn.asserted = false) && decide (i.st = .operational) && decide (i.busy = none) && decide (ty = 5 ∨ ty = 7)) = true ∧
  (let s : State := (isl (fun i => { i with buf:=ib [(0,0)] }) );
    let i := s.island;
    let ty := leNat (mread i.buf 0 1);
    decide (s.wdn.supply = true) && decide (s.wdn.asserted = false) && decide (i.st = .operational) && decide (i.busy = none) && decide (ty ≠ 5) && decide (ty ≠ 7)) = true ∧
  (let s : State := (isl (fun i => { i with buf:=ib [(0,1),(32,4)],qcount:=0 }) );
    let i := s.island;
    let ty := leNat (mread i.buf 0 1);
    decide (s.wdn.supply = true) && decide (s.wdn.asserted = false) && decide (i.st = .operational) && decide (i.busy = none) && decide (ty ≠ 0)) = true ∧
  (let s : State := busy;
    let i := s.island;
    let ty := leNat (mread i.buf 0 1);
    decide (s.wdn.supply = true) && decide (s.wdn.asserted = false) && decide (i.st = .operational) && decide (i.busy = none) && decide (ty = 0)) = true := by
  decide +kernel

theorem wit_IslandKeys_1 :
  (let s : State := (isl (fun i => { i with dbg:=true }) );
    let i := s.island;
    decide (s.wdn.supply = true) && decide (s.wdn.asserted = false) && decide (i.st = .operational) && decide (i.busy = none) && decide (i.dbg = true)) = true ∧
  (let s : State := (isl (fun i => { i with buf:=ib [(0,65)] }) );
    let i := s.island;
    let n := leNat (mread i.buf 0 1);
    decide (s.wdn.supply = true) && decide (s.wdn.asserted = false) && decide (i.st = .operational) && decide (i.busy = none) && decide (i.dbg = false) && decide (64 < n)) = true ∧
  (let s : State := { (isl (fun i => { i with buf:=ib [(0,0),(1,1),(2,1),(3,0),(8,5)],slots := [(0, { key := [1#8], k := 0 }),(3,{key:=[2#8],k:=5})],gens:=[(1,4),(33,7)] }) ) with rims := (List.range 4).map (fun d => (d, { rst := false, topo := 0x80670005#32, ports := [(2,{pcfg:=3#32 + 5#32 <<< 10}),(1,{pcfg:=1#32}),(15,{pcfg:=8#32})] })) };
    let i := s.island;
    let n := leNat (mread i.buf 0 1);
    decide (s.wdn.supply = true) && decide (s.wdn.asserted = false) && decide (i.st = .operational) && decide (i.busy = none) && decide (i.dbg = false) && decide (n = 0) && decide (importKey i.dikGen (mread i.buf 3 97) (mread i.buf 100 40) = none)) = true ∧
  (let s : State := (isl (fun i => { i with dbg:=true }) );
    let i := s.island;
    let n := leNat (mread i.buf 0 1);
    decide (s.wdn.supply = true) && decide (s.wdn.asserted = false) && decide (i.st = .operational) && decide (i.busy = none) && decide (n ≤ 64)) = true ∧
  (let s : State := (isl (fun i => { i with buf:=ib [(0,65)] }) );
    let i := s.island;
    let n := leNat (mread i.buf 0 1);
    decide (s.wdn.supply = true) && decide (s.wdn.asserted = false) && decide (i.st = .operational) && decide (i.busy = none) && decide (64 < n)) = true ∧
  (let s : State := { (isl (fun i => { i with buf:=ib [(0,0),(1,1),(2,1),(3,0),(8,5)],slots := [(0, { key := [1#8], k := 0 }),(3,{key:=[2#8],k:=5})],gens:=[(1,4),(33,7)] }) ) with rims := (List.range 4).map (fun d => (d, { rst := false, topo := 0x80670005#32, ports := [(2,{pcfg:=3#32 + 5#32 <<< 10}),(1,{pcfg:=1#32}),(15,{pcfg:=8#32})] })) };
    let i := s.island;
    let n := leNat (mread i.buf 0 1);
    let port := leNat (mread i.buf 1 1);
    let ks := leNat (mread i.buf 2 1);
    let gen := leNat (mread i.buf 8 4);
    let x := s.rim n;
    decide (s.wdn.supply = true) && decide (s.wdn.asserted = false) && decide (i.st = .operational) && decide (i.busy = none) && decide (i.loadCheck x.topo (x.port port) n port ks (leNat (mread i.buf 3 1)) gen = 0)) = true ∧
  (let s : State := { (isl (fun i => { i with buf:=ib [(0,0),(1,1),(2,0),(8,5)],slots := [(0, { key := [1#8], k := 0 }),(3,{key:=[2#8],k:=5})],gens:=[(1,4),(33,7)] }) ) with rims := (List.range 4).map (fun d => (d, { rst := false, topo := 0x80670005#32, ports := [(2,{pcfg:=3#32 + 5#32 <<< 10}),(1,{pcfg:=1#32}),(15,{pcfg:=8#32})] })) };
    let i := s.island;
    let n := leNat (mread i.buf 0 1);
    let port := leNat (mread i.buf 1 1);
    let ks := leNat (mread i.buf 2 1);
    let gen := leNat (mread i.buf 8 4);
    let x := s.rim n;
    decide (s.wdn.supply = true) && decide (s.wdn.asserted = false) && decide (i.st = .operational) && decide (i.busy = none) && (let r := 7;
    decide (i.loadCheck x.topo (x.port port) n port ks (leNat (mread i.buf 3 1)) gen = r) && decide (r ≠ 0))) = true ∧
  (let s : State := { (isl (fun i => { i with buf:=ib [(0,0),(1,1)],slots := [(0, { key := [1#8], k := 0 }),(3,{key:=[2#8],k:=5})],gens:=[(1,4),(33,7)] }) ) with rims := (List.range 4).map (fun d => (d, { rst := false, topo := 0x80670005#32, ports := [(2,{pcfg:=3#32 + 5#32 <<< 10}),(1,{pcfg:=1#32}),(15,{pcfg:=8#32})] })) };
    let i := s.island;
    let n := leNat (mread i.buf 0 1);
    let port := leNat (mread i.buf 1 1);
    let ks := leNat (mread i.buf 2 1);
    let x := s.rim n;
    decide (s.wdn.supply = true) && decide (s.wdn.asserted = false) && decide (i.st = .operational) && decide (i.busy = none) && decide ((x.port port).en = true) && decide ((x.port port).ksel = ks) && decide (i.dbg = false) && decide (bit x.topo 31 = true) && decide (n ≤ 3) && decide (port ≤ 15) && decide (ks ≤ 1) && decide (leNat (mread i.buf 3 1) = 0) && decide ((x.port port).host = false) && decide (shas i.slots 0 = true)) = true := by
  decide +kernel

theorem wit_IslandKeys_2 :
  (let s : State := (isl (fun i => { i with buf:=ib [(0,1)],drawn:=4 }) );
    let i := s.island;
    let m := leNat (mread i.buf 0 2);
    decide (s.wdn.supply = true) && decide (s.wdn.asserted = false) && decide (i.st = .operational) && decide (i.busy = none) && decide (1 ≤ m) && decide (m ≤ 256)) = true ∧
  (let s : State := busy;
    let i := s.island;
    let m := leNat (mread i.buf 0 2);
    decide (s.wdn.supply = true) && decide (s.wdn.asserted = false) && decide (i.st = .operational) && decide (i.busy = none) && decide (m = 0 ∨ 256 < m)) = true ∧
  (let s : State := (isl (fun i => { i with dbg:=true }) );
    let i := s.island;
    decide (s.wdn.supply = true) && decide (s.wdn.asserted = false) && decide (i.st = .operational) && decide (i.busy = none)) = true := by
  decide +kernel

theorem wit_IslandOfficer_1 :
  (let s : State := (isl (fun i => { i with owner:=none }) );
    let i := s.island;
    decide (i.owner = none)) = true ∧
  (let s : State := (isl (fun i => { i with buf:=ib [(193,4),(289,5)],owner:=none }) );
    let i := s.island;
    let w := s.wdn;
    let good := fun (op n : Nat) => i.officer i.chal (mread i.buf 0 97) (mread i.buf 97 96) op (mread i.buf 193 n) = true;
    let on := w.supply = true ∧ w.asserted = false ∧ i.st = .operational ∧ i.busy = none;
    decide (on) && decide (good 0x0B 97)) = true ∧
  (let s : State := (isl (fun i => { i with buf:=ib [(193,0)],owner:=none,revoked:=[] }) );
    let i := s.island;
    let w := s.wdn;
    let good := fun (op n : Nat) => i.officer i.chal (mread i.buf 0 97) (mread i.buf 97 96) op (mread i.buf 193 n) = true;
    let a := leNat (mread i.buf 193 1);
    let on := w.supply = true ∧ w.asserted = false ∧ i.st = .operational ∧ i.busy = none;
    decide (on) && decide (good 0x0E 1) && decide (a ≤ 3) && decide (i.revoked.contains a = false) && decide (i.revoked.length < 3)) = true ∧
  (let s : State := (isl (fun i => { i with buf:=ib [(193,4)],owner:=none }) );
    let i := s.island;
    let w := s.wdn;
    let good := fun (op n : Nat) => i.officer i.chal (mread i.buf 0 97) (mread i.buf 97 96) op (mread i.buf 193 n) = true;
    let a := leNat (mread i.buf 193 1);
    let on := w.supply = true ∧ w.asserted = false ∧ i.st = .operational ∧ i.busy = none;
    decide (on) && decide (good 0x0E 1) && decide (3 < a)) = true ∧
  (let s : State := (isl (fun i => { i with buf:=ib [(193,0),(194,1)],owner:=none,minSvn:=[(1,3)] }) );
    let i := s.island;
    let w := s.wdn;
    let good := fun (op n : Nat) => i.officer i.chal (mread i.buf 0 97) (mread i.buf 97 96) op (mread i.buf 193 n) = true;
    let a := leNat (mread i.buf 193 1);
    let v := leNat (mread i.buf 194 1);
    let on := w.supply = true ∧ w.asserted = false ∧ i.st = .operational ∧ i.busy = none;
    decide (on) && decide (good 0x0F 2) && decide (a ≤ 4) && decide (sget 0 i.minSvn a < v) && decide (v ≤ 32)) = true ∧
  (let s : State := (isl (fun i => { i with buf:=ib [(193,5),(194,1)],owner:=none,minSvn:=[(1,3)] }) );
    let i := s.island;
    let w := s.wdn;
    let good := fun (op n : Nat) => i.officer i.chal (mread i.buf 0 97) (mread i.buf 97 96) op (mread i.buf 193 n) = true;
    let a := leNat (mread i.buf 193 1);
    let v := leNat (mread i.buf 194 1);
    let on := w.supply = true ∧ w.asserted = false ∧ i.st = .operational ∧ i.busy = none;
    decide (on) && decide (good 0x0F 2) && decide (4 < a ∨ v ≤ sget 0 i.minSvn a ∨ 32 < v)) = true ∧
  (let s : State := (isl (fun i => { i with owner:=none }) );
    let i := s.island;
    let w := s.wdn;
    let good := fun (op n : Nat) => i.officer i.chal (mread i.buf 0 97) (mread i.buf 97 96) op (mread i.buf 193 n) = true;
    let on := w.supply = true ∧ w.asserted = false ∧ i.st = .operational ∧ i.busy = none;
    decide (on) && decide (w.governs .zero = true) && decide (good 0x0C 0)) = true ∧
  (let s : State := (isl (fun i => { i with owner:=none }) );
    let i := s.island;
    let w := s.wdn;
    let good := fun (op n : Nat) => i.officer i.chal (mread i.buf 0 97) (mread i.buf 97 96) op (mread i.buf 193 n) = true;
    let on := w.supply = true ∧ w.asserted = false ∧ i.st = .operational ∧ i.busy = none;
    decide (on) && decide (w.governs .zero = true) && decide (good 0x0D 0)) = true := by
  decide +kernel

theorem wit_IslandOfficer_2 :
  (let s : State := (isl (fun i => { i with owner:=none }) );
    let b : Bytes := List.replicate 193 0#8;
    let i := s.island;
    let w := s.wdn;
    let on := w.supply = true ∧ w.asserted = false ∧ i.st = .operational ∧ i.busy = none;
    decide (on) && decide (w.governs .zero = true) && decide (b.length = 193) && decide (i.officer i.chal (b.take 97) (b.drop 97) 0x0D [] = true)) = true ∧
  (let s : State := (isl (fun i => { i with owner:=some [1#8] }) );
    let b : Bytes := List.replicate 193 0#8;
    let i := s.island;
    let w := s.wdn;
    let on := w.supply = true ∧ w.asserted = false ∧ i.st = .operational ∧ i.busy = none;
    decide (on) && decide (w.governs .zero = true) && decide (b.length = 193) && decide (i.officer i.chal (b.take 97) (b.drop 97) 0x0D [] = false)) = true ∧
  (let b : Bytes := [];
    decide (b.length ≠ 193)) = true ∧
  (let s : State := (isl (fun i => { i with st:=.operational,tamper:=0,owner:=none }) );
    let i := s.island;
    let w := s.wdn;
    decide (w.supply = true) && decide (i.st ≠ .zeroizing) && decide (w.governs .zero = true)) = true ∧
  (let s : State := (isl (fun i => { i with st:=.zeroizing,tamper:=0 }) );
    let i := s.island;
    let w := s.wdn;
    decide (w.supply = true) && decide (i.st = .zeroizing)) = true ∧
  (let s : State := (isl (fun i => { i with st:=.operational }) (fun w => { w with supply:=false }));
    let w := s.wdn;
    decide (w.supply = false)) = true := by
  decide +kernel

theorem wit_IslandTests_1 :
  (let s : State := (isl (fun i => { i with st:=.selftest,hasDik:=true,dikGen:=0,unlock:=true }) );
    let i := s.island;
    let w := s.wdn;
    let on := w.supply = true ∧ w.asserted = false;
    decide (on) && decide (i.st = .selftest) && decide (i.lidLatch = false) && decide (i.hardAfter = false) && decide (i.imageOk w.islandImage = true) && decide (i.hasDik = true)) = true ∧
  (let s : State := (isl (fun i => { i with st:=.selftest,hasDik:=false,dikGen:=0,unlock:=true,dbg:=true }) );
    let i := s.island;
    let w := s.wdn;
    let on := w.supply = true ∧ w.asserted = false;
    decide (on) && decide (i.st = .selftest) && decide (i.lidLatch = false) && decide (i.hardAfter = false) && decide (i.imageOk w.islandImage = true) && decide (i.hasDik = false) && decide (i.dikGen < 63)) = true ∧
  (let s : State := (isl (fun i => { i with st:=.selftest,hasDik:=false,dikGen:=63,unlock:=true }) );
    let i := s.island;
    let w := s.wdn;
    let on := w.supply = true ∧ w.asserted = false;
    decide (on) && decide (i.st = .selftest) && decide (i.lidLatch = false) && decide (i.hardAfter = false) && decide (i.imageOk w.islandImage = true) && decide (i.hasDik = false) && decide (i.dikGen = 63)) = true ∧
  (let s : State := (isl (fun i => { i with st:=.selftest,hardAfter:=true }) );
    let i := s.island;
    let w := s.wdn;
    let on := w.supply = true ∧ w.asserted = false;
    decide (on) && decide (i.st = .selftest) && decide (i.lidLatch = false) && decide (i.imageOk w.islandImage = false ∨ i.hardAfter = true)) = true ∧
  (let s : State := (isl (fun i => { i with st:=.selftest,hasDik:=true,dikGen:=0,unlock:=true }) );
    let i := s.island;
    let w := s.wdn;
    let on := w.supply = true ∧ w.asserted = false;
    decide (on) && decide (i.st = .selftest) && decide (i.lidLatch = false)) = true ∧
  (let s : State := (isl (fun i => { i with st:=.selftest }) (fun w => { w with asserted:=true }));
    let i := s.island;
    let w := s.wdn;
    let on := w.supply = true ∧ w.asserted = false;
    decide (i.st = .selftest) && decide (¬ on)) = true ∧
  (let s : State := busy;
    let i := s.island;
    let w := s.wdn;
    let on := w.supply = true ∧ w.asserted = false;
    decide (on) && decide (i.st = .operational) && decide (i.busy = none)) = true ∧
  (let s : State := (isl (fun i => { i with busy:=some { op:=0x01, ch:=none } }) );
    let i := s.island;
    let w := s.wdn;
    let on := w.supply = true ∧ w.asserted = false;
    decide (on) && decide (i.st = .operational) && (let b := { op:=0x01, ch:=none };
    decide (i.busy = some b))) = true := by
  decide +kernel

theorem wit_IslandTests_2 :
  (let s : State := (isl (fun i => { i with st:=.softErr,chal:=some [] }) );
    let i := s.island;
    let w := s.wdn;
    let on := w.supply = true ∧ w.asserted = false;
    decide (on) && decide (i.st = .softErr) && decide (i.busy = none)) = true ∧
  (let s : State := (isl (fun i => { i with st:=.zeroizing,hasDik:=false,dikGen:=0,unlock:=true }) (fun w => { w with asserted:=true,cls:=.zero,stage:=1,refOk:=true,supply:=true }));
    let i := s.island;
    decide (i.st = .zeroizing)) = true ∧
  (let s : State := (isl (fun i => { i with st:=.zeroizing,hasDik:=false }) (fun w => { w with asserted:=true,cls:=.zero,stage:=1,refOk:=true,supply:=true,zeroHold:=true }));
    let i := s.island;
    let w := s.wdn;
    decide (i.st = .zeroizing) && decide (w.zeroHold = true) && decide (w.supply = true) && decide (w.sourceOn = false)) = true := by
  decide +kernel

end W15

namespace W16
def prf (g : Proof → Proof) (h : Warden → Warden := id) : State := { busy with proof := g busy.proof, wdn := h busy.wdn }
def gaw (space plate y x off : Nat) : W64 := BitVec.ofNat 64 (space * 2^60 + plate * 2^49 + y * 2^39 + x * 2^29 + off)
theorem wit_ProofCommits_1 :
  (let s : State := busy;
    let p : Party := .wardenFw;
    let o : Nat := 0;
    let v : W32 := 0xFFFFFFCF#32;
    let x := s.proof;
    let legal := p = .wardenFw ∨ p = .pressS ∨ p = .pressM ∨ (p = .hostPcie ∨ p = .hostWin) ∧ s.wdn.periphUp = true ∧ s.wdn.zeroWin = false;
    decide (legal) && decide (o < 0x100) && decide (prfMask (o / 4) ≠ 0#32) && decide (x.pending = false) && decide (prfBad (o / 4) v = false) && decide (o / 4 ≠ 18)) = true ∧
  (let s : State := busy;
    let p : Party := .hostWin;
    let o : Nat := 0;
    let v : W32 := 0x50#32;
    let x := s.proof;
    let legal := p = .wardenFw ∨ p = .pressS ∨ p = .pressM ∨ (p = .hostPcie ∨ p = .hostWin) ∧ s.wdn.periphUp = true ∧ s.wdn.zeroWin = false;
    decide (legal) && decide (o < 0x100) && decide (prfMask (o / 4) ≠ 0#32) && decide (x.pending = false) && decide (prfBad (o / 4) v = true)) = true ∧
  (let s : State := (prf (fun x => { x with pending:=true }) );
    let p : Party := .hostWin;
    let o : Nat := 0;
    let x := s.proof;
    let legal := p = .wardenFw ∨ p = .pressS ∨ p = .pressM ∨ (p = .hostPcie ∨ p = .hostWin) ∧ s.wdn.periphUp = true ∧ s.wdn.zeroWin = false;
    decide (legal) && decide (o < 0x100) && decide (prfMask (o / 4) ≠ 0#32) && decide (x.pending = true)) = true ∧
  (let s : State := (prf (fun x => { x with shadow:=[(0,0x11#32),(1,0x3FF000#32),(2,0x00210080#32),(3,0x80#32)] }) );
    let p : Party := .hostWin;
    let x := s.proof;
    let legal := p = .wardenFw ∨ p = .pressS ∨ p = .pressM ∨ (p = .hostPcie ∨ p = .hostWin) ∧ s.wdn.periphUp = true ∧ s.wdn.zeroWin = false;
    decide (legal) && decide (x.pending = false) && decide (goBad x.shadow = true)) = true ∧
  (let s : State := (prf (fun x => { x with ctl:=1#32,shadow:=[(2,0x00100010#32),(3,16#32),(16,1#32)] }) );
    let p : Party := .hostWin;
    let x := s.proof;
    let legal := p = .wardenFw ∨ p = .pressS ∨ p = .pressM ∨ (p = .hostPcie ∨ p = .hostWin) ∧ s.wdn.periphUp = true ∧ s.wdn.zeroWin = false;
    decide (legal) && decide (x.pending = false) && decide (goBad x.shadow = false) && decide (bit x.ctl 0 = true)) = true ∧
  (let s : State := (prf (fun x => { x with ctl:=0#32 }) );
    let p : Party := .hostWin;
    let x := s.proof;
    let legal := p = .wardenFw ∨ p = .pressS ∨ p = .pressM ∨ (p = .hostPcie ∨ p = .hostWin) ∧ s.wdn.periphUp = true ∧ s.wdn.zeroWin = false;
    decide (legal) && decide (x.pending = false) && decide (goBad x.shadow = false) && decide (bit x.ctl 0 = false) && decide (x.req = false)) = true ∧
  (let s : State := (prf (fun x => { x with pending:=true }) );
    let p : Party := .hostWin;
    let x := s.proof;
    let legal := p = .wardenFw ∨ p = .pressS ∨ p = .pressM ∨ (p = .hostPcie ∨ p = .hostWin) ∧ s.wdn.periphUp = true ∧ s.wdn.zeroWin = false;
    decide (legal) && decide (x.pending = true)) = true ∧
  (let s : State := (prf (fun x => { x with ctl:=1#32,pending:=true,frame:=0xFFFFFFFF#32,active:=[(0,2#32),(1,0x7000#32)],shadow:=[(2,0x00100010#32),(3,16#32),(16,1#32)] }) );
    let go : Bool := true;
    let x := s.proof;
    let seen := x.pending = true ∧ (go = true ∨ x.goOld = true);
    decide (bit x.ctl 0 = true) && decide (seen) && decide (x.req = false)) = true := by
  decide +kernel

theorem wit_ProofCommits_2 :
  (let s : State := (prf (fun x => { x with ctl:=1#32,pending:=true,req:=true,shadow:=[(0,0#32)],active:=[(0,2#32)] }) );
    let go : Bool := true;
    let x := s.proof;
    let act := if bit (blk x.active 0) 1 then sput x.shadow 1 (blk x.active 1) else x.shadow;
    let seen := x.pending = true ∧ (go = true ∨ x.goOld = true);
    decide (bit x.ctl 0 = true) && decide (seen) && decide (x.req = true) && decide (bit (blk act 0) 1 = false)) = true ∧
  (let s : State := (prf (fun x => { x with ctl:=1#32,frame:=0xFFFFFFFF#32,pending:=true,req:=true,active:=[(0,2#32),(1,4#32)],shadow:=[(0,3#32)],flipBase:=1023,fencePix:=3,fid:=3 }) );
    let go : Bool := true;
    let fence : Bool := false;
    let x := s.proof;
    let act := if bit (blk x.active 0) 1 then sput x.shadow 1 (blk x.active 1) else x.shadow;
    let y := { x with frame := x.frame + 1#32, vblank := true, goOld := true, fenceOld := true, fencePix := if fence || x.fenceOld then x.fence else x.fencePix };
    let seen := x.pending = true ∧ (go = true ∨ x.goOld = true);
    let due := decide ((y.fencePix + 65536 - x.fid) % 65536 < 32768);
    decide (bit x.ctl 0 = true) && decide (seen) && decide (x.req = true) && decide (bit (blk act 0) 1 = true) && decide (due = true)) = true ∧
  (let s : State := (prf (fun x => { x with ctl:=1#32,frame:=0xFFFFFFFF#32,pending:=true,req:=true,goOld:=true,active:=[(0,2#32),(1,4#32)],shadow:=[(0,3#32)],flipBase:=1023,fencePix:=3,fid:=4 }) );
    let go : Bool := false;
    let fence : Bool := false;
    let x := s.proof;
    let act := if bit (blk x.active 0) 1 then sput x.shadow 1 (blk x.active 1) else x.shadow;
    let y := { x with frame := x.frame + 1#32, vblank := true, goOld := true, fenceOld := true, fencePix := if fence || x.fenceOld then x.fence else x.fencePix };
    let seen := x.pending = true ∧ (go = true ∨ x.goOld = true);
    let due := decide ((y.fencePix + 65536 - x.fid) % 65536 < 32768);
    decide (bit x.ctl 0 = true) && decide (seen) && decide (x.req = true) && decide (bit (blk act 0) 1 = true) && decide (due = false)) = true ∧
  (let go : Bool := false;
    let fence : Bool := false;
    let s : State := (prf (fun x => { x with ctl:=1#32,frame:=0xFFFFFFFF#32,pending:=true,req:=true,active:=[(0,2#32),(1,4#32)],flipBase:=1023,fencePix:=9,fence:=3,fenceOld:=true,fid:=3 }) );
    let x := s.proof;
    let y := { x with frame := x.frame + 1#32, vblank := true, goOld := true, fenceOld := true, fencePix := if fence || x.fenceOld then x.fence else x.fencePix };
    let seen := x.pending = true ∧ (go = true ∨ x.goOld = true);
    let due := decide ((y.fencePix + 65536 - x.fid) % 65536 < 32768);
    decide (bit x.ctl 0 = true) && decide (¬ seen) && decide (x.req = true) && decide (bit (blk x.active 0) 1 = true) && decide (due = true)) = true ∧
  (let s : State := (prf (fun x => { x with ctl:=1#32,frame:=0xFFFFFFFF#32,pending:=true,active:=[(0,2#32)] }) );
    let go : Bool := false;
    let fence : Bool := true;
    let x := s.proof;
    let y := { x with frame := x.frame + 1#32, vblank := true, goOld := true, fenceOld := true, fencePix := if fence || x.fenceOld then x.fence else x.fencePix };
    let seen := x.pending = true ∧ (go = true ∨ x.goOld = true);
    let due := decide ((y.fencePix + 65536 - x.fid) % 65536 < 32768);
    decide (bit x.ctl 0 = true) && decide (¬ seen) && decide (x.req = false ∨ bit (blk x.active 0) 1 = false ∨ due = false)) = true ∧
  (let s : State := (prf (fun x => { x with ctl:=0#32 }) );
    let x := s.proof;
    decide (bit x.ctl 0 = false)) = true ∧
  (let s : State := (prf (fun x => { x with ctl:=1#32,active:=[(2,0x03FF03FF#32),(3,8#32)] }) );
    let p : Party := .wardenFw;
    let v : W32 := 0xFC000009#32;
    let x := s.proof;
    let legal := p = .wardenFw ∨ p = .pressS ∨ p = .pressM ∨ (p = .hostPcie ∨ p = .hostWin) ∧ s.wdn.periphUp = true ∧ s.wdn.zeroWin = false;
    decide (legal) && decide (mapEnd x.active (bits v 25 16 * 4096) ≤ 0x400000) && decide (bit x.ctl 0 = true)) = true ∧
  (let s : State := (prf (fun x => { x with active:=[(2,0x140002#32),(3,0x400#32)] }) );
    let p : Party := .wardenFw;
    let v : W32 := 0x03FD0000#32;
    let x := s.proof;
    let legal := p = .wardenFw ∨ p = .pressS ∨ p = .pressM ∨ (p = .hostPcie ∨ p = .hostWin) ∧ s.wdn.periphUp = true ∧ s.wdn.zeroWin = false;
    decide (legal) && decide (0x400000 < mapEnd x.active (bits v 25 16 * 4096))) = true := by
  decide +kernel

theorem wit_ProofCommits_3 :
  (let s : State := (prf (fun x => { x with ctl:=1#32,active:=[(2,0x03FF03FF#32),(3,8#32)] }) );
    let p : Party := .wardenFw;
    let x := s.proof;
    let legal := p = .wardenFw ∨ p = .pressS ∨ p = .pressM ∨ (p = .hostPcie ∨ p = .hostWin) ∧ s.wdn.periphUp = true ∧ s.wdn.zeroWin = false;
    decide (legal) && decide (bit x.ctl 0 = true)) = true ∧
  (let p : Party := .pressU;
    let o : Nat := 0;
    let v : W32 := 0xFFFFFF9F#32;
    decide (p = .pressU) && ([Instr.prfCommitGo p, .prfMapFlipWrite p v, .prfFenceSigWrite p v, .prfShadowWrite p (o % 256) v]).any (fun i =>
    true)) = true ∧
  (let p : Party := .tileSelf;
    let o : Nat := 0;
    let v : W32 := 0xFFFFFF9F#32;
    decide (p = .tileSelf ∨ p = .tileSw) && ([Instr.prfCommitGo p, .prfMapFlipWrite p v, .prfFenceSigWrite p v, .prfShadowWrite p o v]).any (fun i =>
    true)) = true := by
  decide +kernel

theorem wit_ProofOutput_1 :
  (let s : State := (prf (fun x => { x with pclk:=25000,htim0:=0x02A00280#32,vtim0:=0x01E301E0#32,htim1:=0x02900281#32,vtim1:=0x01E201E1#32,lock:=true }) );
    let p : Party := .wardenFw;
    let v : W32 := 5#32;
    let x := s.proof;
    let legal := p = .wardenFw ∨ p = .pressS ∨ p = .pressM ∨ (p = .hostPcie ∨ p = .hostWin) ∧ s.wdn.periphUp = true ∧ s.wdn.zeroWin = false;
    let c := setBit v 0 true &&& 0x737#32;
    decide (legal) && decide (bits v 2 1 ≠ 3) && decide (bits v 10 8 ≤ 4) && decide (x.timingOk c = true)) = true ∧
  (let s : State := (prf (fun x => { x with pclk:=25000,htim0:=0x02A00280#32,vtim0:=0x01E301E0#32,htim1:=0x02900281#32,vtim1:=0x01E201E1#32,lock:=false }) );
    let p : Party := .wardenFw;
    let v : W32 := 0x5#32;
    let x := s.proof;
    let legal := p = .wardenFw ∨ p = .pressS ∨ p = .pressM ∨ (p = .hostPcie ∨ p = .hostWin) ∧ s.wdn.periphUp = true ∧ s.wdn.zeroWin = false;
    let c := setBit v 0 true &&& 0x737#32;
    decide (legal) && decide (bits v 2 1 ≠ 3) && decide (bits v 10 8 ≤ 4) && decide (x.timingOk c = false)) = true ∧
  (let s : State := (prf (fun x => { x with pclk:=25000,htim0:=0x02A00280#32,vtim0:=0x01E301E0#32,htim1:=0x02900281#32,vtim1:=0x01E201E1#32,lock:=true,ctl:=1#32,vblank:=true,fence:=4 }) );
    let p : Party := .pressS;
    let v : W32 := 4#32;
    let x := s.proof;
    let legal := p = .wardenFw ∨ p = .pressS ∨ p = .pressM ∨ (p = .hostPcie ∨ p = .hostWin) ∧ s.wdn.periphUp = true ∧ s.wdn.zeroWin = false;
    decide (legal) && decide (bits v 2 1 ≠ 3) && decide (bits v 10 8 ≤ 4) && decide (x.pending = false) && decide (x.req = false)) = true ∧
  (let s : State := (prf (fun x => { x with ctl:=0#32,lock:=true }) );
    let p : Party := .wardenFw;
    let x := s.proof;
    let legal := p = .wardenFw ∨ p = .pressS ∨ p = .pressM ∨ (p = .hostPcie ∨ p = .hostWin) ∧ s.wdn.periphUp = true ∧ s.wdn.zeroWin = false;
    decide (legal) && decide (bit x.ctl 0 = false)) = true ∧
  (let s : State := (prf (fun x => { x with ctl:=1#32 }) );
    let p : Party := .wardenFw;
    let x := s.proof;
    let legal := p = .wardenFw ∨ p = .pressS ∨ p = .pressM ∨ (p = .hostPcie ∨ p = .hostWin) ∧ s.wdn.periphUp = true ∧ s.wdn.zeroWin = false;
    decide (legal) && decide (bit x.ctl 0 = true)) = true ∧
  (let s : State := (prf (fun x => { x with locking:=true }) );
    let x := s.proof;
    decide (x.locking = true)) = true ∧
  (let s : State := busy;
    let x := s.proof;
    decide (x.locking = false)) = true ∧
  (let s : State := busy;
    let level : Bool := true;
    let x := s.proof;
    decide (x.hpd ≠ level)) = true := by
  decide +kernel

theorem wit_ProofOutput_2 :
  (let s : State := busy;
    let level : Bool := false;
    let x := s.proof;
    decide (x.hpd = level)) = true ∧
  (let s : State := (prf (fun x => { x with ctl:=0#32,lock:=true }) );
    let p : Party := .wardenFw;
    let legal := p = .wardenFw ∨ p = .pressS ∨ p = .pressM ∨ (p = .hostPcie ∨ p = .hostWin) ∧ s.wdn.periphUp = true ∧ s.wdn.zeroWin = false;
    decide (legal)) = true ∧
  (let s : State := (prf (fun x => { x with auxTimeout:=true }) );
    let p : Party := .wardenFw;
    let v : W32 := 0x80000003#32;
    let x := s.proof;
    let legal := p = .wardenFw ∨ p = .pressS ∨ p = .pressM ∨ (p = .hostPcie ∨ p = .hostWin) ∧ s.wdn.periphUp = true ∧ s.wdn.zeroWin = false;
    decide (legal) && decide (x.auxBusy = false) && decide (bit v 31 = true)) = true ∧
  (let s : State := (prf (fun x => { x with ctl:=0#32,lock:=true }) );
    let p : Party := .wardenFw;
    let v : W32 := 0x12345678#32;
    let x := s.proof;
    let legal := p = .wardenFw ∨ p = .pressS ∨ p = .pressM ∨ (p = .hostPcie ∨ p = .hostWin) ∧ s.wdn.periphUp = true ∧ s.wdn.zeroWin = false;
    decide (legal) && decide (x.auxBusy = false) && decide (bit v 31 = false)) = true ∧
  (let s : State := (prf (fun x => { x with auxBusy:=true }) );
    let p : Party := .pressS;
    let x := s.proof;
    let legal := p = .wardenFw ∨ p = .pressS ∨ p = .pressM ∨ (p = .hostPcie ∨ p = .hostWin) ∧ s.wdn.periphUp = true ∧ s.wdn.zeroWin = false;
    decide (legal) && decide (x.auxBusy = true)) = true ∧
  (let s : State := (prf (fun x => { x with auxBusy:=true }) );
    let x := s.proof;
    decide (x.auxBusy = true)) = true ∧
  (let s : State := (prf (fun x => { x with auxTimeout:=true }) );
    let x := s.proof;
    decide (x.auxBusy = false)) = true ∧
  (let p : Party := .pressU;
    let v : W32 := 0x5#32;
    let e : BitVec 8 := 0xFF#8;
    let bank : Bool := true;
    decide (p = .pressU) && ([Instr.proofEnable p v, .proofDisable p v, .prfPclkWrite p v, .prfPalWrite p bank e v, .auxRequest p v]).any (fun i =>
    true)) = true := by
  decide +kernel

theorem wit_ProofLines :
  (let s : State := (prf (fun x => { x with ctl:=0x101#32,vtim0:=0x20#32,active:=[] }));
    let y : Nat := 0;
    let x := s.proof;
    decide (bit x.ctl 0 = true) && decide (s.wdn.bad = []) && decide (y < bits x.vtim0 12 0) && decide (bits x.ctl 10 8 ≠ 0)) = true ∧
  (let s : State := (prf (fun x => { x with ctl:=1#32,htim0:=0x28#32,vtim0:=0x20#32,bg:=0xFF010203#32,pal:=[(5,0xAA050607#32),(261,0x11#32),(0,3#32)],active:=[] }) (fun w => { w with sram:=(mwrite [] 0x805000 ((List.range 200).map (fun i => BitVec.ofNat 8 (i%7)))) }));
    let y : Nat := 0;
    let x := s.proof;
    decide (bit x.ctl 0 = true) && decide (s.wdn.bad = []) && decide (y < bits x.vtim0 12 0) && decide (bits x.ctl 10 8 = 0)) = true ∧
  (let s : State := (prf (fun x => { x with ctl:=0#32,vtim0:=0x20#32 }) );
    let y : Nat := 7;
    let x := s.proof;
    decide (bit x.ctl 0 = false ∨ bits x.vtim0 12 0 ≤ y)) = true := by
  decide +kernel

theorem wit_RegisterWrites :
  (let ga : W64 := gaw 0 0x400 0 0 0;
    let g := gaOf ga;
    decide (g.bad 4 = true)) = true ∧
  (let s : State := busy;
    let ga : W64 := gaw 0 6 0 0 0;
    let g := gaOf ga;
    decide (isOwn s.topoNow g.plate = false)) = true ∧
  (let s : State := busy;
    let p : Party := .wardenFw;
    let ga : W64 := gaw 2 0x7FF 0 0 0x304;
    let g := gaOf ga;
    let own := isOwn s.topoNow g.plate = true;
    decide (own) && decide (g.bad 4 = false) && decide (g.space = 2) && decide (g.off = 0x304) && decide (p = .wardenFw ∨ p = .pressS ∨ p = .pressM) && decide ((s.fld (fieldAt g.y g.x)).rst = false)) = true ∧
  (let s : State := busy;
    let p : Party := .wardenFw;
    let ga : W64 := gaw 4 0x7FF 0 0 64;
    let g := gaOf ga;
    let own := isOwn s.topoNow g.plate = true;
    decide (own) && decide (g.bad 4 = false) && decide (g.space = 4) && decide ((s.rim g.x).rst = false) && decide (p = .wardenFw) && (let i := 0;
    decide (i < 8) && decide (g.off = 0x40 + 4 * i))) = true ∧
  (let s : State := busy;
    let p : Party := .wardenFw;
    let ga : W64 := gaw 5 0x7FF 0 0 0x208;
    let g := gaOf ga;
    let own := isOwn s.topoNow g.plate = true;
    decide (own) && decide (g.bad 4 = false) && decide (g.space = 5) && decide (g.off = 0x208) && decide (p = .wardenFw ∨ (p = .hostPcie ∨ p = .hostWin) ∧ s.wdn.periphUp = true ∧ s.wdn.zeroWin = false)) = true ∧
  (let s : State := busy;
    let p : Party := .pressS;
    let ga : W64 := gaw 5 0x7FF 0 0 0x208;
    let g := gaOf ga;
    let own := isOwn s.topoNow g.plate = true;
    decide (own) && decide (g.bad 4 = false) && decide (g.space = 5) && decide (g.off = 0x208) && decide (p ∉ [Party.wardenFw, .hostPcie, .hostWin])) = true ∧
  (let s : State := busy;
    let p : Party := .wardenFw;
    let ga : W64 := gaw 5 0x7FF 0 0 1024;
    let g := gaOf ga;
    let own := isOwn s.topoNow g.plate = true;
    decide (own) && decide (g.bad 8 = false) && decide (g.space = 5) && decide (p = .wardenFw) && (let k := 0;
    decide (k < 16) && decide (g.off = 0x400 + 8 * k))) = true ∧
  (let ga : W64 := gaw 0 0x7FF 0 0 4;
    let g := gaOf ga;
    decide (g.off % 8 ≠ 0)) = true := by
  decide +kernel

end W16

namespace W17
def kv (g : Krovas → Krovas) (h : Warden → Warden := id) : State := { busy with krovas := g { busy.krovas with drv := 0xF5#8, pos := 0xF5#8, hostOut := [⟨3, 4, 503⟩], fmOut := [⟨4, 4, 5⟩], lastHost := some ⟨3, 4, 5⟩, lastFm := some ⟨4, 4, 5⟩, fmTag := some 4, log := [.ready], seenHw := some (5, { stage := 3, ready := true, hb := 9 }), seenFw := some (6, { portUp := [1#32] }) }, wdn := h busy.wdn }
def cmap (l : List (Nat × Nat)) : List W32 := (List.range 7).map (fun i => BitVec.ofNat 32 ((l.filter (fun e => e.1 / 16 == i)).foldl (fun n e => n + e.2 * 2 ^ (2 * (e.1 % 16))) 0))
theorem wit_KrovasHost_1 :
  (let s : State := (kv (fun k => { k with standby:=false }) );
    let tag : W32 := 7#32;
    let v : W32 := 5#32;
    let item : ReadItem := .state;
    let which : Setting := .orphanT;
    let fs : FwSet := {manifest:=[1#8],krovas:=[2#8],warden:=[3#8],rim:=[4#8],press:=[],island:=[]};
    let ty : ResetType := .on;
    let mask : BitVec 4 := 5#4;
    let fm : BitVec 10 := 9#10;
    let k := s.krovas;
    let links := [Instr.bypassIn .host tag mask, .bypassOut .host tag mask];
    let owned := [Instr.redfishOn ⟨tag, ty⟩, .forceOff tag, .forceRestart tag, .settingsWrite tag which v, .setTopo .host tag v fm] ++ links;
    let cmds := owned ++ [.powerCycle tag, .firmwarePush tag fs];
    decide (k.standby = false) && (Instr.redfishRead tag item :: cmds).any (fun c =>
    true)) = true ∧
  (let s : State := (kv (fun k => { k with banks:=[(0,{st:=.active,krovas:=[1#8]}),(1,{st:=.rejected,krovas:=[2#8]})] }) );
    let tag : W32 := 7#32;
    let v : W32 := 5#32;
    let item : ReadItem := .state;
    let which : Setting := .orphanT;
    let ty : ResetType := .on;
    let mask : BitVec 4 := 5#4;
    let fm : BitVec 10 := 9#10;
    let k := s.krovas;
    let links := [Instr.bypassIn .host tag mask, .bypassOut .host tag mask];
    let owned := [Instr.redfishOn ⟨tag, ty⟩, .forceOff tag, .forceRestart tag, .settingsWrite tag which v, .setTopo .host tag v fm] ++ links;
    decide (k.romOnly = true) && (Instr.redfishRead tag item :: .powerCycle tag :: owned).any (fun c =>
    true)) = true ∧
  (let s : State := (kv (fun k => k) );
    let tag : W32 := 3#32;
    let v : W32 := 5#32;
    let which : Setting := .orphanT;
    let fs : FwSet := {manifest:=[1#8],krovas:=[2#8],warden:=[3#8],rim:=[4#8],press:=[],island:=[]};
    let ty : ResetType := .on;
    let mask : BitVec 4 := 5#4;
    let fm : BitVec 10 := 9#10;
    let k := s.krovas;
    let links := [Instr.bypassIn .host tag mask, .bypassOut .host tag mask];
    let owned := [Instr.redfishOn ⟨tag, ty⟩, .forceOff tag, .forceRestart tag, .settingsWrite tag which v, .setTopo .host tag v fm] ++ links;
    let cmds := owned ++ [.powerCycle tag, .firmwarePush tag fs];
    let a := ⟨3,4,5⟩;
    decide (k.standby = true) && decide (k.romOnly = false) && decide (k.lastHost = some a) && decide (a.tag = tag.toNat) && (cmds).any (fun c =>
    true)) = true ∧
  (let s : State := (kv (fun k => k) );
    let tag : W32 := 3#32;
    let k := s.krovas;
    let a := ⟨3,4,5⟩;
    decide (k.standby = true) && decide (k.romOnly = false) && decide (k.lastHost = some a) && decide (a.tag = tag.toNat)) = true ∧
  (let s : State := (kv (fun k => { k with trial:=true }) );
    let tag : W32 := 7#32;
    let v : W32 := 5#32;
    let which : Setting := .orphanT;
    let fs : FwSet := {manifest:=[1#8],krovas:=[2#8],warden:=[3#8],rim:=[4#8],press:=[],island:=[]};
    let ty : ResetType := .on;
    let mask : BitVec 4 := 5#4;
    let fm : BitVec 10 := 9#10;
    let k := s.krovas;
    let links := [Instr.bypassIn .host tag mask, .bypassOut .host tag mask];
    let owned := [Instr.redfishOn ⟨tag, ty⟩, .forceOff tag, .forceRestart tag, .settingsWrite tag which v, .setTopo .host tag v fm] ++ links;
    let cmds := owned ++ [.powerCycle tag, .firmwarePush tag fs];
    decide (k.standby = true) && decide (k.romOnly = false) && decide (∀ a, k.lastHost = some a → a.tag ≠ tag.toNat) && decide (k.trial = true ∨ k.fallback = true) && decide (k.pwr = true) && (cmds).any (fun c =>
    true)) = true := by
  decide +kernel

theorem wit_KrovasHost_2 :
  (let s : State := (kv (fun k => { k with now:=999,actTill:=1000 }) );
    let tag : W32 := 7#32;
    let v : W32 := 5#32;
    let which : Setting := .orphanT;
    let fs : FwSet := {manifest:=[1#8],krovas:=[2#8],warden:=[3#8],rim:=[4#8],press:=[],island:=[]};
    let ty : ResetType := .on;
    let mask : BitVec 4 := 5#4;
    let fm : BitVec 10 := 9#10;
    let k := s.krovas;
    let links := [Instr.bypassIn .host tag mask, .bypassOut .host tag mask];
    let owned := [Instr.redfishOn ⟨tag, ty⟩, .forceOff tag, .forceRestart tag, .settingsWrite tag which v, .setTopo .host tag v fm] ++ links;
    let cmds := owned ++ [.powerCycle tag, .firmwarePush tag fs];
    decide (k.standby = true) && decide (k.romOnly = false) && decide (∀ a, k.lastHost = some a → a.tag ≠ tag.toNat) && decide (k.now < k.actTill) && (cmds).any (fun c =>
    true)) = true ∧
  (let s : State := (kv (fun k => { k with hold:=true,pwr:=false }) );
    let tag : W32 := 7#32;
    let v : W32 := 5#32;
    let which : Setting := .orphanT;
    let ty : ResetType := .on;
    let mask : BitVec 4 := 5#4;
    let fm : BitVec 10 := 9#10;
    let k := s.krovas;
    let links := [Instr.bypassIn .host tag mask, .bypassOut .host tag mask];
    let owned := [Instr.redfishOn ⟨tag, ty⟩, .forceOff tag, .forceRestart tag, .settingsWrite tag which v, .setTopo .host tag v fm] ++ links;
    let idle := k.trial = false ∧ k.fallback = false ∧ k.actTill ≤ k.now;
    decide (k.standby = true) && decide (k.romOnly = false) && decide (∀ a, k.lastHost = some a → a.tag ≠ tag.toNat) && decide (k.hold = true) && decide (idle) && (owned).any (fun c =>
    true)) = true ∧
  (let s : State := (kv (fun k => { k with hold:=true,pwr:=false }) );
    let tag : W32 := 7#32;
    let k := s.krovas;
    let idle := k.trial = false ∧ k.fallback = false ∧ k.actTill ≤ k.now;
    let n := 1 - k.run;
    decide (k.standby = true) && decide (k.romOnly = false) && decide (∀ a, k.lastHost = some a → a.tag ≠ tag.toNat) && decide (k.hold = true) && decide (idle) && decide ((k.bank n).st ≠ .staged)) = true ∧
  (let s : State := (kv (fun k => { k with trial:=true }) );
    let tag : W32 := 7#32;
    let k := s.krovas;
    decide (k.standby = true) && decide (k.romOnly = false) && decide (∀ a, k.lastHost = some a → a.tag ≠ tag.toNat)) = true ∧
  (let s : State := (kv (fun k => k) );
    let tag : W32 := 7#32;
    let ty : ResetType := .other;
    let k := s.krovas;
    let idle := k.trial = false ∧ k.fallback = false ∧ k.actTill ≤ k.now;
    let free := idle ∧ k.hold = false;
    decide (k.standby = true) && decide (k.romOnly = false) && decide (∀ a, k.lastHost = some a → a.tag ≠ tag.toNat) && decide (free) && decide (ty = .other)) = true ∧
  (let s : State := (kv (fun k => { k with coolant:=true }) );
    let tag : W32 := 7#32;
    let ty : ResetType := .on;
    let k := s.krovas;
    let idle := k.trial = false ∧ k.fallback = false ∧ k.actTill ≤ k.now;
    let free := idle ∧ k.hold = false;
    decide (k.standby = true) && decide (k.romOnly = false) && decide (∀ a, k.lastHost = some a → a.tag ≠ tag.toNat) && decide (free) && decide (k.unsafe_ = true) && decide (ty = .on)) = true ∧
  (let s : State := (kv (fun k => { k with coolant:=true }) );
    let tag : W32 := 7#32;
    let k := s.krovas;
    let idle := k.trial = false ∧ k.fallback = false ∧ k.actTill ≤ k.now;
    let free := idle ∧ k.hold = false;
    decide (k.standby = true) && decide (k.romOnly = false) && decide (∀ a, k.lastHost = some a → a.tag ≠ tag.toNat) && decide (free) && decide (k.unsafe_ = true)) = true ∧
  (let s : State := (kv (fun k => { k with pwr:=false }) );
    let tag : W32 := 7#32;
    let ty : ResetType := .on;
    let k := s.krovas;
    let idle := k.trial = false ∧ k.fallback = false ∧ k.actTill ≤ k.now;
    let free := idle ∧ k.hold = false;
    let calm := k.unsafe_ = false ∧ k.conflict .host true = none;
    let n := 1 - k.run;
    decide (k.standby = true) && decide (k.romOnly = false) && decide (∀ a, k.lastHost = some a → a.tag ≠ tag.toNat) && decide (free) && decide (calm) && decide (ty = .on) && decide (k.pwr = true ∨ (k.bank n).st ≠ .staged)) = true := by
  decide +kernel

theorem wit_KrovasHost_3 :
  (let tag : W32 := 7#32;
    let s : State := (kv (fun k => { k with pwFm:=some { on:=false, tag:=1, at_:=77 } }) );
    let ty : ResetType := .on;
    let k := s.krovas;
    let idle := k.trial = false ∧ k.fallback = false ∧ k.actTill ≤ k.now;
    let free := idle ∧ k.hold = false;
    decide (k.standby = true) && decide (k.romOnly = false) && decide (∀ a, k.lastHost = some a → a.tag ≠ tag.toNat) && decide (free) && decide (k.unsafe_ = false) && decide (k.conflict .host true ≠ none) && decide (ty = .on) && decide (k.pwr = true)) = true ∧
  (let tag : W32 := 7#32;
    let s : State := (kv (fun k => { k with pwr:=false,pwFm:=some { on:=false, tag:=1, at_:=77 } }) );
    let ty : ResetType := .on;
    let k := s.krovas;
    let idle := k.trial = false ∧ k.fallback = false ∧ k.actTill ≤ k.now;
    let free := idle ∧ k.hold = false;
    decide (k.standby = true) && decide (k.romOnly = false) && decide (∀ a, k.lastHost = some a → a.tag ≠ tag.toNat) && decide (free) && decide (k.unsafe_ = false) && decide (k.conflict .host true ≠ none) && decide (ty = .on) && decide (k.pwr = false)) = true ∧
  (let s : State := (kv (fun k => { k with coolant:=true }) );
    let tag : W32 := 7#32;
    let k := s.krovas;
    let idle := k.trial = false ∧ k.fallback = false ∧ k.actTill ≤ k.now;
    let free := idle ∧ k.hold = false;
    decide (k.standby = true) && decide (k.romOnly = false) && decide (∀ a, k.lastHost = some a → a.tag ≠ tag.toNat) && decide (free) && decide (k.pwr = true)) = true ∧
  (let s : State := (kv (fun k => { k with pwr:=false }) );
    let tag : W32 := 7#32;
    let k := s.krovas;
    let idle := k.trial = false ∧ k.fallback = false ∧ k.actTill ≤ k.now;
    let free := idle ∧ k.hold = false;
    decide (k.standby = true) && decide (k.romOnly = false) && decide (∀ a, k.lastHost = some a → a.tag ≠ tag.toNat) && decide (free) && decide (k.pwr = false)) = true ∧
  (let s : State := (kv (fun k => { k with pwr:=false }) );
    let tag : W32 := 7#32;
    let k := s.krovas;
    let idle := k.trial = false ∧ k.fallback = false ∧ k.actTill ≤ k.now;
    let free := idle ∧ k.hold = false;
    let calm := k.unsafe_ = false ∧ k.conflict .host true = none;
    let n := 1 - k.run;
    decide (k.standby = true) && decide (k.romOnly = false) && decide (∀ a, k.lastHost = some a → a.tag ≠ tag.toNat) && decide (free) && decide (calm) && decide ((k.bank n).st ≠ .staged)) = true ∧
  (let s : State := (kv (fun k => k) );
    let tag : W32 := 7#32;
    let k := s.krovas;
    let idle := k.trial = false ∧ k.fallback = false ∧ k.actTill ≤ k.now;
    let free := idle ∧ k.hold = false;
    let calm := k.unsafe_ = false ∧ k.conflict .host true = none;
    decide (k.standby = true) && decide (k.romOnly = false) && decide (∀ a, k.lastHost = some a → a.tag ≠ tag.toNat) && decide (free) && decide (calm) && decide (k.pwr = true) && decide (s.wdn.trayLow = false) && decide (s.wdn.governs .tray = true)) = true ∧
  (let s : State := (kv (fun k => k) );
    let tag : W32 := 7#32;
    let v : W32 := 1#32;
    let which : Setting := .orphanT;
    let k := s.krovas;
    let idle := k.trial = false ∧ k.fallback = false ∧ k.actTill ≤ k.now;
    let free := idle ∧ k.hold = false;
    decide (k.standby = true) && decide (k.romOnly = false) && decide (∀ a, k.lastHost = some a → a.tag ≠ tag.toNat) && decide (free) && decide (which = .orphanT) && decide (1 ≤ v.toNat) && decide (v.toNat ≤ 120)) = true ∧
  (let s : State := (kv (fun k => k) );
    let tag : W32 := 7#32;
    let v : W32 := 0#32;
    let which : Setting := .orphanT;
    let k := s.krovas;
    let idle := k.trial = false ∧ k.fallback = false ∧ k.actTill ≤ k.now;
    let free := idle ∧ k.hold = false;
    decide (k.standby = true) && decide (k.romOnly = false) && decide (∀ a, k.lastHost = some a → a.tag ≠ tag.toNat) && decide (free) && decide (which = .orphanT) && decide (v.toNat = 0 ∨ 120 < v.toNat)) = true := by
  decide +kernel

theorem wit_KrovasHost_4 :
  (let s : State := (kv (fun k => k) );
    let tag : W32 := 7#32;
    let v : W32 := 30#32;
    let which : Setting := .hbT;
    let k := s.krovas;
    let idle := k.trial = false ∧ k.fallback = false ∧ k.actTill ≤ k.now;
    let free := idle ∧ k.hold = false;
    decide (k.standby = true) && decide (k.romOnly = false) && decide (∀ a, k.lastHost = some a → a.tag ≠ tag.toNat) && decide (free) && decide (which = .hbT) && decide (10 ≤ v.toNat) && decide (v.toNat ≤ 300)) = true ∧
  (let s : State := (kv (fun k => k) );
    let tag : W32 := 7#32;
    let v : W32 := 1#32;
    let which : Setting := .trialT;
    let k := s.krovas;
    let idle := k.trial = false ∧ k.fallback = false ∧ k.actTill ≤ k.now;
    let free := idle ∧ k.hold = false;
    decide (k.standby = true) && decide (k.romOnly = false) && decide (∀ a, k.lastHost = some a → a.tag ≠ tag.toNat) && decide (free) && decide (which = .trialT) && decide (1 ≤ v.toNat) && decide (v.toNat ≤ 30)) = true ∧
  (let s : State := (kv (fun k => k) );
    let tag : W32 := 7#32;
    let v : W32 := 2500#32;
    let which : Setting := .trayPmax;
    let k := s.krovas;
    let idle := k.trial = false ∧ k.fallback = false ∧ k.actTill ≤ k.now;
    let free := idle ∧ k.hold = false;
    decide (k.standby = true) && decide (k.romOnly = false) && decide (∀ a, k.lastHost = some a → a.tag ≠ tag.toNat) && decide (free) && decide (which = .trayPmax) && decide (2500 ≤ v.toNat) && decide (v.toNat ≤ 11 * Config.skuCap s.sku)) = true ∧
  (let s : State := (kv (fun k => k) );
    let tag : W32 := 7#32;
    let v : W32 := 1#32;
    let which : Setting := .policy;
    let k := s.krovas;
    let idle := k.trial = false ∧ k.fallback = false ∧ k.actTill ≤ k.now;
    let free := idle ∧ k.hold = false;
    decide (k.standby = true) && decide (k.romOnly = false) && decide (∀ a, k.lastHost = some a → a.tag ≠ tag.toNat) && decide (free) && decide (which = .policy) && decide (v.toNat ≤ 2)) = true ∧
  (let s : State := (kv (fun k => { k with fmPend:=77 }) );
    let tag : W32 := 7#32;
    let v : W32 := 0x80670005#32;
    let which : Setting := .topology;
    let k := s.krovas;
    let idle := k.trial = false ∧ k.fallback = false ∧ k.actTill ≤ k.now;
    let free := idle ∧ k.hold = false;
    decide (k.standby = true) && decide (k.romOnly = false) && decide (∀ a, k.lastHost = some a → a.tag ≠ tag.toNat) && decide (free) && decide (which = .topology) && decide (k.settings.topo = none) && decide (bit v 31 = true) && decide (onTorus v (bits v 9 0) = true)) = true ∧
  (let s : State := (kv (fun k => { k with banks:=[(0,{st:=.active,copy:={topo:=some (1#32,3)}})] }) );
    let tag : W32 := 7#32;
    let which : Setting := .topology;
    let k := s.krovas;
    let idle := k.trial = false ∧ k.fallback = false ∧ k.actTill ≤ k.now;
    let free := idle ∧ k.hold = false;
    decide (k.standby = true) && decide (k.romOnly = false) && decide (∀ a, k.lastHost = some a → a.tag ≠ tag.toNat) && decide (free) && decide (which = .topology) && decide (k.settings.topo.isSome = true)) = true ∧
  (let s : State := (kv (fun k => k) );
    let tag : W32 := 7#32;
    let mask : BitVec 4 := 5#4;
    let k := s.krovas;
    let links := [Instr.bypassIn .host tag mask, .bypassOut .host tag mask];
    let idle := k.trial = false ∧ k.fallback = false ∧ k.actTill ≤ k.now;
    let free := idle ∧ k.hold = false;
    decide (k.standby = true) && decide (k.romOnly = false) && decide (∀ a, k.lastHost = some a → a.tag ≠ tag.toNat) && decide (free) && (links).any (fun c =>
    true)) = true ∧
  (let s : State := (kv (fun k => { k with banks:=[(0,{st:=.active,copy:={topo:=some (1#32,3)}})] }) );
    let tag : W32 := 7#32;
    let k := s.krovas;
    let idle := k.trial = false ∧ k.fallback = false ∧ k.actTill ≤ k.now;
    let free := idle ∧ k.hold = false;
    decide (k.standby = true) && decide (k.romOnly = false) && decide (∀ a, k.lastHost = some a → a.tag ≠ tag.toNat) && decide (free) && decide (k.settings.topo.isSome = true)) = true := by
  decide +kernel

theorem wit_KrovasHost_5 :
  (let s : State := (kv (fun k => { k with coolant:=true }) );
    let tag : W32 := 7#32;
    let v : W32 := 0x12345678#32;
    let k := s.krovas;
    let idle := k.trial = false ∧ k.fallback = false ∧ k.actTill ≤ k.now;
    let free := idle ∧ k.hold = false;
    decide (k.standby = true) && decide (k.romOnly = false) && decide (∀ a, k.lastHost = some a → a.tag ≠ tag.toNat) && decide (free) && decide (k.settings.topo = none) && decide (topoOk v = false)) = true ∧
  (let s : State := (kv (fun k => { k with fmPend:=77 }) );
    let tag : W32 := 7#32;
    let v : W32 := 0x80670005#32;
    let k := s.krovas;
    let idle := k.trial = false ∧ k.fallback = false ∧ k.actTill ≤ k.now;
    let free := idle ∧ k.hold = false;
    decide (k.standby = true) && decide (k.romOnly = false) && decide (∀ a, k.lastHost = some a → a.tag ≠ tag.toNat) && decide (free) && decide (k.settings.topo = none) && decide (topoOk v = true)) = true ∧
  (let s : State := (kv (fun k => k) (fun w => { w with booted:=false }));
    let tag : W32 := 7#32;
    let k := s.krovas;
    let idle := k.trial = false ∧ k.fallback = false ∧ k.actTill ≤ k.now;
    decide (k.standby = true) && decide (∀ a, k.lastHost = some a → a.tag ≠ tag.toNat) && decide (idle) && decide (k.hold = false) && decide (s.wdn.fwRuns = false)) = true ∧
  (let s : State := (kv (fun k => { k with coolant:=true }) );
    let tag : W32 := 7#32;
    let k := s.krovas;
    let idle := k.trial = false ∧ k.fallback = false ∧ k.actTill ≤ k.now;
    decide (k.standby = true) && decide (∀ a, k.lastHost = some a → a.tag ≠ tag.toNat) && decide (idle) && decide (k.hold = true ∨ s.wdn.fwRuns = true)) = true := by
  decide +kernel

theorem wit_KrovasFabric_1 :
  (let s : State := (kv (fun k => { k with standby:=false }) );
    let src : Nat := 3;
    let tag : W32 := 7#32;
    let t : W32 := 0x80670005#32;
    let mask : BitVec 4 := 5#4;
    let fm : BitVec 10 := 9#10;
    let period : BitVec 16 := 77#16;
    let k := s.krovas;
    let cmds := [(Instr.bypassIn (.plate src) tag mask, 2), (.bypassOut (.plate src) tag mask, 3), (.setTopo (.plate src) tag t fm, 4), (.powerOff src tag, 5)];
    let reads := [(Instr.hello src tag, 1), (.telemSub src tag period, 6)];
    let on := k.standby = true ∧ k.romOnly = false;
    decide (¬ on) && (reads ++ cmds).any (fun c =>
    true)) = true ∧
  (let s : State := (kv (fun k => { k with hold:=true,banks:=[(0,{st:=.active,copy:={topo:=some (1#32,3)}})] }) );
    let src : Nat := 4;
    let tag : W32 := 7#32;
    let t : W32 := 0x80670005#32;
    let mask : BitVec 4 := 5#4;
    let fm : BitVec 10 := 9#10;
    let period : BitVec 16 := 77#16;
    let k := s.krovas;
    let cmds := [(Instr.bypassIn (.plate src) tag mask, 2), (.bypassOut (.plate src) tag mask, 3), (.setTopo (.plate src) tag t fm, 4), (.powerOff src tag, 5)];
    let reads := [(Instr.hello src tag, 1), (.telemSub src tag period, 6)];
    let on := k.standby = true ∧ k.romOnly = false;
    let v := 1#32;
    let p := 3;
    decide (on) && decide (k.settings.topo = some (v, p)) && decide (p ≠ src) && (reads ++ cmds).any (fun c =>
    true)) = true ∧
  (let src : Nat := 3;
    let tag : W32 := 7#32;
    let t : W32 := 0x80670005#32;
    let mask : BitVec 4 := 5#4;
    let s : State := (kv (fun k => { k with wait:=[{tag:=7,mask:=1,src:=3}] }) );
    let fm : BitVec 10 := 9#10;
    let period : BitVec 16 := 77#16;
    let k := s.krovas;
    let cmds := [(Instr.bypassIn (.plate src) tag mask, 2), (.bypassOut (.plate src) tag mask, 3), (.setTopo (.plate src) tag t fm, 4), (.powerOff src tag, 5)];
    let reads := [(Instr.hello src tag, 1), (.telemSub src tag period, 6)];
    let on := k.standby = true ∧ k.romOnly = false;
    let mine := k.settings.topo = none ∨ k.settings.topo.map (·.2) = some src;
    (k.wait).any (fun e =>
    decide (on) && decide (mine) && decide (e.tag = tag.toNat) && (reads ++ cmds).any (fun c =>
    true))) = true ∧
  (let s : State := (kv (fun k => k) );
    let src : Nat := 3;
    let tag : W32 := 4#32;
    let t : W32 := 0x80670005#32;
    let mask : BitVec 4 := 5#4;
    let fm : BitVec 10 := 9#10;
    let period : BitVec 16 := 77#16;
    let k := s.krovas;
    let cmds := [(Instr.bypassIn (.plate src) tag mask, 2), (.bypassOut (.plate src) tag mask, 3), (.setTopo (.plate src) tag t fm, 4), (.powerOff src tag, 5)];
    let reads := [(Instr.hello src tag, 1), (.telemSub src tag period, 6)];
    let on := k.standby = true ∧ k.romOnly = false;
    let mine := k.settings.topo = none ∨ k.settings.topo.map (·.2) = some src;
    let a := ⟨4,4,5⟩;
    decide (on) && decide (mine) && decide (k.wait = []) && decide (k.lastFm = some a) && decide (a.tag = tag.toNat) && (reads ++ cmds).any (fun c =>
    true)) = true := by
  decide +kernel

theorem wit_KrovasFabric_2 :
  (let s : State := (kv (fun k => { k with trial:=true }) );
    let src : Nat := 3;
    let tag : W32 := 7#32;
    let t : W32 := 0x80670005#32;
    let mask : BitVec 4 := 5#4;
    let fm : BitVec 10 := 9#10;
    let k := s.krovas;
    let cmds := [(Instr.bypassIn (.plate src) tag mask, 2), (.bypassOut (.plate src) tag mask, 3), (.setTopo (.plate src) tag t fm, 4), (.powerOff src tag, 5)];
    let on := k.standby = true ∧ k.romOnly = false;
    let mine := k.settings.topo = none ∨ k.settings.topo.map (·.2) = some src;
    decide (on) && decide (mine) && decide (k.wait = []) && decide (∀ a, k.lastFm = some a → a.tag ≠ tag.toNat) && decide (k.trial = true ∨ k.fallback = true) && decide (k.pwr = true) && (cmds).any (fun c =>
    true)) = true ∧
  (let s : State := (kv (fun k => { k with now:=999,actTill:=1000 }) );
    let src : Nat := 3;
    let tag : W32 := 7#32;
    let t : W32 := 0x80670005#32;
    let mask : BitVec 4 := 5#4;
    let fm : BitVec 10 := 9#10;
    let k := s.krovas;
    let cmds := [(Instr.bypassIn (.plate src) tag mask, 2), (.bypassOut (.plate src) tag mask, 3), (.setTopo (.plate src) tag t fm, 4), (.powerOff src tag, 5)];
    let on := k.standby = true ∧ k.romOnly = false;
    let mine := k.settings.topo = none ∨ k.settings.topo.map (·.2) = some src;
    decide (on) && decide (mine) && decide (k.wait = []) && decide (∀ a, k.lastFm = some a → a.tag ≠ tag.toNat) && decide (k.now < k.actTill) && (cmds).any (fun c =>
    true)) = true ∧
  (let s : State := (kv (fun k => { k with hold:=true }) );
    let src : Nat := 3;
    let tag : W32 := 7#32;
    let t : W32 := 0x80670005#32;
    let mask : BitVec 4 := 5#4;
    let fm : BitVec 10 := 9#10;
    let k := s.krovas;
    let cmds := [(Instr.bypassIn (.plate src) tag mask, 2), (.bypassOut (.plate src) tag mask, 3), (.setTopo (.plate src) tag t fm, 4), (.powerOff src tag, 5)];
    let idle := k.trial = false ∧ k.fallback = false ∧ k.actTill ≤ k.now;
    let on := k.standby = true ∧ k.romOnly = false;
    let mine := k.settings.topo = none ∨ k.settings.topo.map (·.2) = some src;
    decide (on) && decide (mine) && decide (k.wait = []) && decide (∀ a, k.lastFm = some a → a.tag ≠ tag.toNat) && decide (k.hold = true) && decide (idle) && (cmds).any (fun c =>
    true)) = true ∧
  (let s : State := (kv (fun k => { k with trial:=true }) );
    let src : Nat := 3;
    let tag : W32 := 7#32;
    let k := s.krovas;
    let on := k.standby = true ∧ k.romOnly = false;
    let mine := k.settings.topo = none ∨ k.settings.topo.map (·.2) = some src;
    decide (on) && decide (mine) && decide (k.wait = []) && decide (∀ a, k.lastFm = some a → a.tag ≠ tag.toNat)) = true ∧
  (let s : State := (kv (fun k => { k with pwr:=false }) );
    let src : Nat := 3;
    let tag : W32 := 7#32;
    let k := s.krovas;
    let idle := k.trial = false ∧ k.fallback = false ∧ k.actTill ≤ k.now;
    let free := idle ∧ k.hold = false;
    let on := k.standby = true ∧ k.romOnly = false;
    let mine := k.settings.topo = none ∨ k.settings.topo.map (·.2) = some src;
    decide (on) && decide (mine) && decide (k.wait = []) && decide (∀ a, k.lastFm = some a → a.tag ≠ tag.toNat) && decide (free)) = true ∧
  (let s : State := (kv (fun k => { k with pkgHot:=true }) );
    let src : Nat := 3;
    let tag : W32 := 7#32;
    let k := s.krovas;
    let idle := k.trial = false ∧ k.fallback = false ∧ k.actTill ≤ k.now;
    let free := idle ∧ k.hold = false;
    let on := k.standby = true ∧ k.romOnly = false;
    let mine := k.settings.topo = none ∨ k.settings.topo.map (·.2) = some src;
    decide (on) && decide (mine) && decide (k.wait = []) && decide (∀ a, k.lastFm = some a → a.tag ≠ tag.toNat) && decide (free) && decide (k.unsafe_ = true)) = true := by
  decide +kernel

theorem wit_KrovasFabric_3 :
  (let s : State := (kv (fun k => { k with pwr:=false }) );
    let src : Nat := 3;
    let tag : W32 := 7#32;
    let k := s.krovas;
    let idle := k.trial = false ∧ k.fallback = false ∧ k.actTill ≤ k.now;
    let free := idle ∧ k.hold = false;
    let on := k.standby = true ∧ k.romOnly = false;
    let mine := k.settings.topo = none ∨ k.settings.topo.map (·.2) = some src;
    decide (on) && decide (mine) && decide (k.wait = []) && decide (∀ a, k.lastFm = some a → a.tag ≠ tag.toNat) && decide (free) && decide (k.unsafe_ = false) && decide (k.pwr = false ∨ s.wdn.rstOut = true)) = true ∧
  (let s : State := (kv (fun k => k) );
    let src : Nat := 3;
    let tag : W32 := 7#32;
    let mask : BitVec 4 := 0#4;
    let k := s.krovas;
    let idle := k.trial = false ∧ k.fallback = false ∧ k.actTill ≤ k.now;
    let free := idle ∧ k.hold = false;
    let on := k.standby = true ∧ k.romOnly = false;
    let mine := k.settings.topo = none ∨ k.settings.topo.map (·.2) = some src;
    decide (on) && decide (mine) && decide (k.wait = []) && decide (∀ a, k.lastFm = some a → a.tag ≠ tag.toNat) && decide (free) && decide (k.pwr = true) && decide (s.wdn.rstOut = false) && decide (k.unsafe_ = false) && decide (k.pos &&& mask.setWidth 8 = mask.setWidth 8)) = true ∧
  (let s : State := (kv (fun k => k) );
    let src : Nat := 3;
    let tag : W32 := 7#32;
    let mask : BitVec 4 := 2#4;
    let k := s.krovas;
    let idle := k.trial = false ∧ k.fallback = false ∧ k.actTill ≤ k.now;
    let free := idle ∧ k.hold = false;
    let on := k.standby = true ∧ k.romOnly = false;
    let mine := k.settings.topo = none ∨ k.settings.topo.map (·.2) = some src;
    decide (on) && decide (mine) && decide (k.wait = []) && decide (∀ a, k.lastFm = some a → a.tag ≠ tag.toNat) && decide (free) && decide (k.pwr = true) && decide (s.wdn.rstOut = false) && decide (k.unsafe_ = false) && decide (k.pos &&& mask.setWidth 8 ≠ mask.setWidth 8)) = true ∧
  (let s : State := (kv (fun k => k) );
    let src : Nat := 3;
    let tag : W32 := 7#32;
    let t : W32 := 5#32;
    let k := s.krovas;
    let idle := k.trial = false ∧ k.fallback = false ∧ k.actTill ≤ k.now;
    let free := idle ∧ k.hold = false;
    let on := k.standby = true ∧ k.romOnly = false;
    let mine := k.settings.topo = none ∨ k.settings.topo.map (·.2) = some src;
    decide (on) && decide (mine) && decide (k.wait = []) && decide (∀ a, k.lastFm = some a → a.tag ≠ tag.toNat) && decide (free) && decide (topoOk t = false)) = true ∧
  (let s : State := (kv (fun k => k) );
    let src : Nat := 3;
    let tag : W32 := 7#32;
    let t : W32 := 0x80670005#32;
    let k := s.krovas;
    let idle := k.trial = false ∧ k.fallback = false ∧ k.actTill ≤ k.now;
    let free := idle ∧ k.hold = false;
    let on := k.standby = true ∧ k.romOnly = false;
    let mine := k.settings.topo = none ∨ k.settings.topo.map (·.2) = some src;
    decide (on) && decide (mine) && decide (k.wait = []) && decide (∀ a, k.lastFm = some a → a.tag ≠ tag.toNat) && decide (free) && decide (topoOk t = true) && decide (bit s.topoNow 31 = true)) = true ∧
  (let s : State := { (kv (fun k => { k with pwr:=false }) ) with rims := [(0,{topo:=0x7FFFFFFF#32})] };
    let src : Nat := 3;
    let tag : W32 := 7#32;
    let t : W32 := 0x80670005#32;
    let k := s.krovas;
    let idle := k.trial = false ∧ k.fallback = false ∧ k.actTill ≤ k.now;
    let free := idle ∧ k.hold = false;
    let on := k.standby = true ∧ k.romOnly = false;
    let mine := k.settings.topo = none ∨ k.settings.topo.map (·.2) = some src;
    decide (on) && decide (mine) && decide (k.wait = []) && decide (∀ a, k.lastFm = some a → a.tag ≠ tag.toNat) && decide (free) && decide (topoOk t = true) && decide (bit s.topoNow 31 = false) && decide (k.pwr = false)) = true := by
  decide +kernel

theorem wit_KrovasFabric_4 :
  (let s : State := { (kv (fun k => k) ) with rims := [(0,{rst:=false,topo:=0#32}),(1,{rst:=false})] };
    let src : Nat := 3;
    let tag : W32 := 7#32;
    let t : W32 := 0x80670005#32;
    let k := s.krovas;
    let idle := k.trial = false ∧ k.fallback = false ∧ k.actTill ≤ k.now;
    let free := idle ∧ k.hold = false;
    let on := k.standby = true ∧ k.romOnly = false;
    let mine := k.settings.topo = none ∨ k.settings.topo.map (·.2) = some src;
    decide (on) && decide (mine) && decide (k.wait = []) && decide (∀ a, k.lastFm = some a → a.tag ≠ tag.toNat) && decide (free) && decide (topoOk t = true) && decide (bit s.topoNow 31 = false) && decide (k.pwr = true) && decide (s.wdn.fwRuns = true)) = true ∧
  (let s : State := (kv (fun k => { k with pkgHot:=true }) );
    let src : Nat := 3;
    let tag : W32 := 7#32;
    let k := s.krovas;
    let idle := k.trial = false ∧ k.fallback = false ∧ k.actTill ≤ k.now;
    let free := idle ∧ k.hold = false;
    let on := k.standby = true ∧ k.romOnly = false;
    let mine := k.settings.topo = none ∨ k.settings.topo.map (·.2) = some src;
    decide (on) && decide (mine) && decide (k.wait = []) && decide (∀ a, k.lastFm = some a → a.tag ≠ tag.toNat) && decide (free) && decide (k.pwr = true)) = true ∧
  (let s : State := { (kv (fun k => { k with pwr:=false }) ) with rims := [(0,{topo:=0x7FFFFFFF#32})] };
    let src : Nat := 3;
    let tag : W32 := 7#32;
    let k := s.krovas;
    let idle := k.trial = false ∧ k.fallback = false ∧ k.actTill ≤ k.now;
    let free := idle ∧ k.hold = false;
    let on := k.standby = true ∧ k.romOnly = false;
    let mine := k.settings.topo = none ∨ k.settings.topo.map (·.2) = some src;
    decide (on) && decide (mine) && decide (k.wait = []) && decide (∀ a, k.lastFm = some a → a.tag ≠ tag.toNat) && decide (free) && decide (k.pwr = false) && decide (k.conflict .fm false = none)) = true := by
  decide +kernel

theorem wit_KrovasSafety_1 :
  (let s : State := (kv (fun k => k) );
    let inlet : Int := default;
    let c : Int := default;
    let t : Int := default;
    let leak : Bool := true;
    let k := s.krovas;
    let trips := [(Instr.coolantOvertemp ⟨inlet, c⟩, decide (45 < c), fun (x : Krovas) => x.coolant), (.packageOvertemp t, decide (110 < t), fun x => x.pkgHot), (.leakOrSupplyFault leak, leak, fun x => x.leak)];
    decide (k.standby = true) && decide (k.pwr = true) && (trips).any (fun e =>
    decide (e.2.1 = true))) = true ∧
  (let inlet : Int := default;
    let c : Int := default;
    let t : Int := default;
    let leak : Bool := true;
    let s : State := (kv (fun k => { k with coolant:=true,pkgHot:=true,leak:=true }) );
    let k := s.krovas;
    let trips := [(Instr.coolantOvertemp ⟨inlet, c⟩, decide (45 < c), fun (x : Krovas) => x.coolant), (.packageOvertemp t, decide (110 < t), fun x => x.pkgHot), (.leakOrSupplyFault leak, leak, fun x => x.leak)];
    decide (k.standby = true) && (trips).any (fun e =>
    decide (e.2.1 = false ∨ k.pwr = false))) = true ∧
  (let leak : Bool := true;
    let s : State := (kv (fun k => { k with coolant:=true,pkgHot:=true,leak:=true }) );
    let k := s.krovas;
    decide (k.standby = true)) = true ∧
  (let s : State := (kv (fun k => k) );
    let w : Nat := 20000;
    let k := s.krovas;
    decide (k.standby = true) && decide (k.settings.trayPmax < w)) = true ∧
  (let s : State := (kv (fun k => k) );
    let w : Nat := 15000;
    let k := s.krovas;
    decide (k.standby = true) && decide (w ≤ k.settings.trayPmax)) = true ∧
  (let w : Nat := 14999;
    let s : State := (kv (fun k => { k with overP:=true,alertLow:=true }) (fun w => { w with alertPin:=true,alert:=true }));
    let k := s.krovas;
    decide (k.standby = true) && decide (w < k.settings.trayPmax)) = true ∧
  (let s : State := (kv (fun k => k) );
    let w : Nat := 15000;
    let k := s.krovas;
    decide (k.standby = true) && decide (k.settings.trayPmax ≤ w)) = true ∧
  (let s : State := (kv (fun k => k) );
    let k := s.krovas;
    decide (k.standby = true) && decide (k.ready = true) && decide (k.hbSeen = none ∨ k.hbSeen = some s.wdn.hb)) = true := by
  decide +kernel

theorem wit_KrovasSafety_2 :
  (let s : State := (kv (fun k => { k with ready:=false }) );
    let k := s.krovas;
    decide (k.standby = true) && decide (k.ready = false)) = true ∧
  (let s : State := (kv (fun k => { k with hbSeen:=some 1 }) );
    let k := s.krovas;
    decide (k.standby = true) && (let h : Nat := 1;
    decide (k.hbSeen = some h) && decide (h ≠ s.wdn.hb))) = true ∧
  (let s : State := (kv (fun k => { k with lockstep:=true,orphans:=[] }) );
    let k := s.krovas;
    decide (k.standby = true) && decide (k.pwr = true) && decide (k.lockstep = true ∨ k.stall = true ∨ k.noReady = true) && decide (s.wdn.trayLow = false) && decide (s.wdn.governs .tray = true) && decide (k.orphans = [])) = true ∧
  (let s : State := (kv (fun k => { k with lockstep:=true,now:=8640000000005,orphans:=[6,6] }) );
    let k := s.krovas;
    decide (k.standby = true) && decide (k.pwr = true) && decide (k.lockstep = true ∨ k.stall = true ∨ k.noReady = true) && decide (s.wdn.trayLow = false) && decide (s.wdn.governs .tray = true) && (let a := 6;
    let b := 6;
    decide (k.orphans = [a, b]) && decide (k.now < a + 8640000000000) && decide (k.now < b + 8640000000000))) = true ∧
  (let s : State := (kv (fun k => k) );
    let k := s.krovas;
    decide (k.standby = true) && decide (k.lockstep = false) && decide (k.stall = false) && decide (k.noReady = false)) = true ∧
  (let s : State := (kv (fun k => { k with pos:=0#8 }) );
    let d : DieId := 0;
    let k := s.krovas;
    decide (k.standby = true) && decide (bit k.pos d.val ≠ bit k.drv d.val) && decide (k.wait = [])) = true ∧
  (let s : State := (kv (fun k => k) );
    let d : DieId := 1;
    let k := s.krovas;
    decide (k.standby = true) && decide (bit k.pos d.val = bit k.drv d.val)) = true ∧
  (let w : Nat := 3;
    let s : State := (kv (fun k => k) (fun w => { w with rstOut:=true }));
    let k := s.krovas;
    decide (k.standby = true) && decide (s.wdn.rstOut = true) && decide (k.wait = [])) = true := by
  decide +kernel

theorem wit_KrovasSafety_3 :
  (let s : State := (kv (fun k => k) );
    let k := s.krovas;
    decide (k.standby = true) && decide (s.wdn.rstOut = false)) = true ∧
  (let s : State := (kv (fun k => { k with standby:=false }) );
    let inlet : Int := default;
    let c : Int := default;
    let t : Int := default;
    let leak : Bool := true;
    let w : Nat := 3;
    let d : DieId := 2;
    let k := s.krovas;
    decide (k.standby = false) && ([Instr.coolantOvertemp ⟨inlet, c⟩, .packageOvertemp t, .leakOrSupplyFault leak, .trayOverpower w, .trayPowerNormal w, .sisErrNChange, .heartbeatStall, .orphanTimeout, .trialTimeout, .bypassMismatch d, .plateRstOutAssert, .standbyLoss, .krovasIbi, .telemetryFrame]).any (fun i =>
    true)) = true ∧
  (let s : State := (kv (fun k => { k with standby:=false }) );
    let k := s.krovas;
    decide (k.standby = false) && decide (k.settings.policy = 0 ∨ k.hold = true ∨ k.unsafe_ = true)) = true ∧
  (let s : State := (kv (fun k => { k with standby:=false,pwr:=false,banks:=[(0,{copy:={policy:=1}})] }) );
    let k := s.krovas;
    decide (k.standby = false) && decide (k.settings.policy = 1 ∨ k.settings.policy = 2 ∧ k.wasOn = true) && decide (k.hold = false) && decide (k.unsafe_ = false) && decide ((k.bank (1 - k.run)).st ≠ .staged) && decide (k.trial = true → (k.bank k.run).committed = true)) = true := by
  decide +kernel

theorem wit_KrovasSets_1 :
  (let s : State := (kv (fun k => { k with hold:=true,banks:=[(0,{st:=.active,setVer:=4,copySchema:=2}),(1,{st:=.staged,schema:=4,migMin:=2,manifest:=(List.replicate 264 0#8 ++ [5#8,0#8] ++ List.replicate 6 0#8 ++ [5#8] ++ List.replicate 7 0#8 ++ sha384 [] ++ List.replicate 8 0#8 ++ (List.range 4).flatMap (fun i => BitVec.ofNat 8 i :: List.replicate 63 0#8))})] }) );
    let tag : W32 := 7#32;
    let k := s.krovas;
    let n := 1 - k.run;
    decide (k.standby = true) && decide (k.run < 2) && decide (k.trial = false) && decide (k.fallback = false) && decide (k.unsafe_ = false) && decide (k.conflict .host true = none) && decide (∀ a, k.lastHost = some a → a.tag ≠ tag.toNat) && decide (k.romOnly = false) && decide (k.actTill ≤ k.now) && decide ((k.bank n).st = .staged) && decide ((k.bank k.run).st ≠ .staging) && decide ((k.bank n).committed = false) && decide ((k.bank n).imageOk = true) && decide (manifestHas (k.bank n).manifest 5 (k.bank n).krovas = true) && decide ((k.bank n).migMin ≤ (k.bank k.run).copySchema)) = true ∧
  (let s : State := (kv (fun k => { k with banks:=[(0,{st:=.active,setVer:=4}),(1,{st:=.staged,krovas:=[1#8],copySchema:=4})] }) );
    let tag : W32 := 7#32;
    let k := s.krovas;
    let n := 1 - k.run;
    decide (k.standby = true) && decide (k.run < 2) && decide (k.trial = false) && decide (k.fallback = false) && decide (k.unsafe_ = false) && decide (k.conflict .host true = none) && decide (∀ a, k.lastHost = some a → a.tag ≠ tag.toNat) && decide (k.romOnly = false) && decide (k.actTill ≤ k.now) && decide ((k.bank n).st = .staged) && decide ((k.bank k.run).st ≠ .staging) && decide ((k.bank n).committed = false) && (let why : Nat := 1;
    decide (why = (if (k.bank n).imageOk = false then 1 else if manifestHas (k.bank n).manifest 5 (k.bank n).krovas = false then 2 else if (k.bank k.run).copySchema < (k.bank n).migMin then 3 else 0)) && decide (why ≠ 0) && decide ((k.bank k.run).imageOk = true))) = true ∧
  (let s : State := (kv (fun k => { k with noReady:=true,fallback:=true }) (fun w => { w with ibi:=[6,7] }));
    let b : Nat := 6;
    let rest : List Nat := [7];
    let k := s.krovas;
    decide (k.standby = true) && decide (k.run < 2) && decide (k.pwr = true) && decide (s.wdn.ibi = b :: rest) && decide (b % 256 = 6) && decide (k.settings.topo = none)) = true ∧
  (let s : State := (kv (fun k => { k with trial:=true,banks:=[(0,{st:=.active,setVer:=4,copy:={topo:=some (1#32,3)}})] }) (fun w => { w with ibi:=[6,7] }));
    let b : Nat := 6;
    let rest : List Nat := [7];
    let k := s.krovas;
    decide (k.standby = true) && decide (k.run < 2) && decide (k.pwr = true) && decide (s.wdn.ibi = b :: rest) && (let t := 1#32;
    let fm := 3;
    decide (b % 256 = 6) && decide (k.settings.topo = some (t, fm)) && decide (fm < 1024) && decide (s.wdn.fwRuns = true))) = true ∧
  (let s : State := (kv (fun k => k) (fun w => { w with ibi:=[3,7] }));
    let b : Nat := 3;
    let rest : List Nat := [7];
    let k := s.krovas;
    decide (k.standby = true) && decide (k.run < 2) && decide (k.pwr = true) && decide (s.wdn.ibi = b :: rest) && decide (b % 256 = 3)) = true ∧
  (let s : State := (kv (fun k => k) (fun w => { w with ibi:=[260,7] }));
    let b : Nat := 260;
    let rest : List Nat := [7];
    let k := s.krovas;
    decide (k.standby = true) && decide (k.run < 2) && decide (k.pwr = true) && decide (s.wdn.ibi = b :: rest) && decide (b % 256 = 4)) = true ∧
  (let s : State := (kv (fun k => k) (fun w => { w with ibi:=[2,7] }));
    let b : Nat := 2;
    let rest : List Nat := [7];
    let k := s.krovas;
    decide (k.standby = true) && decide (k.run < 2) && decide (k.pwr = true) && decide (s.wdn.ibi = b :: rest) && decide (b % 256 = 2) && decide (b / 256 ≠ 3)) = true ∧
  (let s : State := (kv (fun k => { k with trial:=true,run:=1,banks:=[(0,{st:=.active,krovas:=[],setVer:=4}),(1,{st:=.trial,setVer:=5})] }) (fun w => { w with ibi:=[5,7] }));
    let b : Nat := 5;
    let rest : List Nat := [7];
    let k := s.krovas;
    let n := 1 - k.run;
    let next := (k.bank n).imageOk = true;
    decide (k.standby = true) && decide (k.run < 2) && decide (k.pwr = true) && decide (s.wdn.ibi = b :: rest) && decide (b % 256 = 5) && decide (k.trial = true) && decide (next)) = true := by
  decide +kernel

theorem wit_KrovasSets_2 :
  (let s : State := (kv (fun k => { k with fallback:=true }) (fun w => { w with ibi:=[5,7] }));
    let b : Nat := 5;
    let rest : List Nat := [7];
    let k := s.krovas;
    decide (k.standby = true) && decide (k.run < 2) && decide (k.pwr = true) && decide (s.wdn.ibi = b :: rest) && decide (b % 256 = 5) && decide (k.trial = false) && decide (k.fallback = true)) = true ∧
  (let s : State := (kv (fun k => { k with trial:=true,run:=1,banks:=[(0,{st:=.active,krovas:=[],setVer:=4}),(1,{st:=.trial,setVer:=5})] }) (fun w => { w with ibi:=[770,7] }));
    let b : Nat := 770;
    let rest : List Nat := [7];
    let k := s.krovas;
    let n := 1 - k.run;
    let next := (k.bank n).imageOk = true;
    decide (k.standby = true) && decide (k.run < 2) && decide (k.pwr = true) && decide (s.wdn.ibi = b :: rest) && decide (b % 256 = 2) && decide (b / 256 = 3) && decide (k.trial = true) && decide (next)) = true ∧
  (let s : State := (kv (fun k => { k with trial:=true,run:=1,banks:=[(0,{st:=.active,krovas:=[],setVer:=4}),(1,{st:=.trial,setVer:=5})] }) );
    let k := s.krovas;
    let n := 1 - k.run;
    let next := (k.bank n).imageOk = true;
    decide (k.standby = true) && decide (k.run < 2) && decide (k.pwr = true) && decide (k.trial = true) && decide (next)) = true ∧
  (let s : State := (kv (fun k => { k with trial:=true,run:=1,banks:=[(0,{st:=.active,krovas:=[1#8],setVer:=4}),(1,{st:=.trial,setVer:=5})] }) );
    let k := s.krovas;
    let n := 1 - k.run;
    decide (k.standby = true) && decide (k.run < 2) && decide (k.pwr = true) && decide (k.trial = true) && decide ((k.bank n).imageOk = false) && decide ((k.bank n).st ≠ .staging)) = true ∧
  (let s : State := (kv (fun k => { k with ready:=false,fallback:=true }) );
    let k := s.krovas;
    decide (k.standby = true) && decide (k.run < 2) && decide (k.pwr = true) && decide (k.trial = false) && decide (k.fallback = true)) = true ∧
  (let s : State := (kv (fun k => { k with ready:=false }) );
    let k := s.krovas;
    decide (k.standby = true) && decide (k.run < 2) && decide (k.pwr = true) && decide (k.trial = false) && decide (k.fallback = false) && decide (k.ready = false)) = true ∧
  (let s : State := (kv (fun k => { k with ready:=true }) );
    let k := s.krovas;
    decide (k.standby = true) && decide (k.run < 2) && decide (k.pwr = true) && decide (k.trial = false) && decide (k.fallback = false) && decide (k.ready = true)) = true ∧
  (let s : State := (kv (fun k => { k with ready:=true }) );
    let k := s.krovas;
    decide (k.standby = true) && decide (k.run < 2) && decide (k.pwr = true) && decide (s.wdn.answers = true) && decide (k.ready = true) && decide (k.hbSeen = none ∨ k.hbSeen = some s.wdn.hb)) = true := by
  decide +kernel

theorem wit_KrovasSets_3 :
  (let s : State := (kv (fun k => { k with ready:=true,trial:=true,stall:=true,hbSeen:=some 1,run:=1,banks:=[(0,{st:=.active,krovas:=[],setVer:=4}),(1,{st:=.trial,setVer:=5})] }) );
    let k := s.krovas;
    decide (k.standby = true) && decide (k.run < 2) && decide (k.pwr = true) && decide (s.wdn.answers = true) && decide (k.ready = true) && (let h : Nat := 1;
    decide (k.hbSeen = some h) && decide (h ≠ s.wdn.hb))) = true ∧
  (let s : State := (kv (fun k => { k with drv:=0x08#8,pos:=0#8 }) );
    let d : DieId := 3;
    let k := s.krovas;
    decide (k.standby = true) && decide (k.run < 2) && decide (bit k.pos d.val = false) && decide (bit k.drv d.val = true) && decide (s.wdn.rstOut = false) && decide (k.wait = [])) = true ∧
  (let tag : W32 := 0x12345678#32;
    let s : State := (kv (fun k => { k with drv:=0x08#8,pos:=0#8,wait:=[{tag:=5,mask:=8,src:=2}] }) );
    let d : DieId := 3;
    let k := s.krovas;
    decide (k.standby = true) && decide (k.run < 2) && decide (bit k.pos d.val = false) && decide (bit k.drv d.val = true) && decide (s.wdn.rstOut = false) && (let t := 5;
    let p := 2;
    decide (k.wait = [{ tag := t, mask := 2 ^ d.val, src := p }]))) = true ∧
  (let s : State := (kv (fun k => { k with drv:=0x07#8,pos:=0#8 }) );
    let d : DieId := 3;
    let k := s.krovas;
    decide (k.standby = true) && decide (k.run < 2) && decide (bit k.pos d.val = false) && decide (bit k.drv d.val = false ∨ s.wdn.rstOut = true)) = true ∧
  (let s : State := (kv (fun k => k) );
    let d : DieId := 0;
    let k := s.krovas;
    decide (k.standby = true) && decide (k.run < 2) && decide (bit k.pos d.val = true)) = true ∧
  (let s : State := (kv (fun k => { k with telPeriod:=5,pwr:=false }) );
    let k := s.krovas;
    decide (k.standby = true) && decide (k.run < 2) && decide (k.telPeriod ≠ 0)) = true ∧
  (let s : State := (kv (fun k => { k with telPeriod:=0 }) );
    let k := s.krovas;
    decide (k.standby = true) && decide (k.run < 2) && decide (k.telPeriod = 0)) = true := by
  decide +kernel

theorem wit_Epochs_1 :
  (let f : FieldId := 9;
    let s : State := { busy with epochQ := [{f:=9,id:=4,cut:=true,lastf:=5},{f:=1,id:=2,cut:=false,lastf:=1}], wdn := { busy.wdn with dead:=0x300#64 }  };
    let e : EpochEv := {f:=9,id:=4,cut:=true,lastf:=5};
    let rest : List EpochEv := [{f:=1,id:=2,cut:=false,lastf:=1}];
    let w := s.wdn;
    decide (w.ep = none) && decide (s.epochQ = e :: rest)) = true ∧
  (let f : FieldId := 9;
    let s : State := { busy with epochQ := [{f:=9,id:=4,cut:=true,lastf:=5},{f:=1,id:=2,cut:=false,lastf:=1}], wdn := { busy.wdn with ep:=some {f:=9,id:=4,cut:=true,lastf:=5} }  };
    let e : EpochEv := {f:=9,id:=4,cut:=true,lastf:=5};
    let w := s.wdn;
    decide (w.ep = some e ∨ s.epochQ = [])) = true ∧
  (let f : FieldId := 9;
    let s : State := { busy with epochQ := [{f:=9,id:=4,cut:=true,lastf:=5},{f:=1,id:=2,cut:=false,lastf:=1}], wdn := { busy.wdn with epF:=[9,4] } ,fields := [(9,{fup with sealSh:=0x1FC0#32,colmapSh:=cmap [(3,1)],ecnt:=0,barRoot:=[(4,{fmask:=0x2000000000000201,remainf:=3})]}),(0,fup),(63,{})] };
    let w := s.wdn;
    let c := s.fld f.val;
    decide (f.val ∈ w.epF) && decide (c.rst = false)) = true ∧
  (let s : State := busy;
    let f : FieldId := 9;
    let w := s.wdn;
    let c := s.fld f.val;
    decide (f.val ∉ w.epF ∨ c.rst = true)) = true ∧
  (let f : FieldId := 9;
    let s : State := { busy with epochQ := [{f:=9,id:=4,cut:=true,lastf:=5},{f:=1,id:=2,cut:=false,lastf:=1}], wdn := { busy.wdn with epD:=[2,3,2] } , rims := [(2,{rst:=false,keymapSh:=[(1,4#32)],bktSh:=[],ports:=[],moved:=[(5,1)]})] };
    let d : DieId := 2;
    let w := s.wdn;
    let x := s.rim d.val;
    decide (d.val ∈ w.epD) && decide (x.rst = false) && decide (x.bktSh = x.bkt)) = true ∧
  (let s : State := { busy with wdn := { busy.wdn with epD:=[2,3,2] }, rims := [(2,{rst:=false,keymapSh:=[(1,4#32)],bktSh:=(List.range 8).map (fun i => (i,0x22222222#32)),ports:=[(2,{st:=2,pcfg:=1#32})],fo:=[{ port:=3, buckets:=[4], frames:=[] }]})] };
    let d : DieId := 2;
    let w := s.wdn;
    let x := s.rim d.val;
    decide (d.val ∈ w.epD) && decide (x.rst = false) && decide (x.bktSh ≠ x.bkt) && decide (x.fo ≠ [])) = true ∧
  (let s : State := { busy with wdn := { busy.wdn with epD:=[2,3,2] }, rims := [(2,{rst:=false,keymapSh:=[(1,4#32)],bktSh:=(List.range 8).map (fun i => (i,0x22222222#32)),ports:=[(2,{st:=2,pcfg:=1#32})]})] };
    let d : DieId := 2;
    let w := s.wdn;
    let x := s.rim d.val;
    decide (d.val ∈ w.epD) && decide (x.rst = false) && decide (x.bktSh ≠ x.bkt) && decide (x.fo = []) && decide (x.held = []) && decide (∀ b, b < 64 → bits (sget 0#32 x.bktSh (b / 8)) (4 * (b % 8) + 3) (4 * (b % 8)) ∈ x.upPorts) && decide (∀ n : PortId, (x.port n.val).up = true ∨ (x.port n.val).q = [])) = true ∧
  (let s : State := busy;
    let d : DieId := 2;
    let w := s.wdn;
    let x := s.rim d.val;
    decide (d.val ∉ w.epD ∨ x.rst = true)) = true := by
  decide +kernel

theorem wit_Epochs_2 :
  (let f : FieldId := 9;
    let s : State := { busy with epochQ := [{f:=9,id:=4,cut:=true,lastf:=5},{f:=1,id:=2,cut:=false,lastf:=1}], wdn := { busy.wdn with ep:=some {f:=9,id:=4,cut:=true,lastf:=5,lost:=true} }  };
    let e : EpochEv := {f:=9,id:=4,cut:=true,lastf:=5,lost:=true};
    let w := s.wdn;
    decide (w.ep = some e) && decide (w.epF = []) && decide (w.epM = []) && decide (w.epD = []) && decide (e.lost = true ∨ (s.fld e.f).rst = true)) = true ∧
  (let f : FieldId := 9;
    let s : State := { busy with epochQ := [{f:=9,id:=4,cut:=true,lastf:=5},{f:=1,id:=2,cut:=false,lastf:=1}], wdn := { busy.wdn with epCount:=65535,ep:=some {f:=9,id:=4,cut:=true,lastf:=5} } ,fields := [(9,{fup with sealSh:=0#32,colmapSh:=[],ecnt:=0,barRoot:=[(4,{fmask:=0x2000000000000201,remainf:=3})]}),(0,fup),(63,{})] };
    let e : EpochEv := {f:=9,id:=4,cut:=true,lastf:=5};
    let w := s.wdn;
    decide (w.ep = some e) && decide (w.epF = []) && decide (w.epM = []) && decide (w.epD = []) && decide (e.lost = false) && decide ((s.fld e.f).rst = false)) = true ∧
  (let s : State := busy;
    let w := s.wdn;
    decide (w.epF ≠ [] ∨ w.epM ≠ [] ∨ w.epD ≠ [] ∨ w.ep = none)) = true := by
  decide +kernel

theorem wit_ColumnMaps_1 :
  (let s : State := { busy with fields := [(9,{fup with colmap:=(cmap [(97,1),(98,1),(3,2)]),colmapSh:=(cmap [(97,1),(98,1),(3,2)])})], wdn := { busy.wdn with epM:=[4,9] }  };
    let p : Party := .wardenFw;
    let f : FieldId := 9;
    let n : Fin 7 := 6;
    let v : W32 := 0xFFFFFFFF#32;
    let c := s.fld f.val;
    let sh := lset c.colmapSh n.val (if n.val = 6 then v &&& 0xFF#32 else v);
    decide (c.rst = false) && decide (p = .wardenFw) && decide (retireOf c.colmap sh = none)) = true ∧
  (let s : State := { busy with fields := [(9,{fup with colmap:=(cmap [(97,1),(98,1),(3,2)]),colmapSh:=(cmap [(97,1),(98,1),(3,2),(9,2)])})], wdn := { busy.wdn with epM:=[4,9] }  };
    let p : Party := .wardenFw;
    let f : FieldId := 9;
    let n : Fin 7 := 6;
    let v : W32 := 0x10#32;
    let a : Nat := 9;
    let b : Nat := 97;
    let w := s.wdn;
    let c := s.fld f.val;
    let sh := lset c.colmapSh n.val (if n.val = 6 then v &&& 0xFF#32 else v);
    decide (c.rst = false) && decide (p = .wardenFw) && decide (retireOf c.colmap sh = some (a, b)) && (List.range 4).all (fun k => decide (w.slot f.val k = .erased))) = true ∧
  (let s : State := { busy with fields := [(9,{fup with colmap:=(cmap [(97,1),(98,1),(3,2)]),colmapSh:=(cmap [(97,1),(98,1),(3,2)])})], wdn := { busy.wdn with epM:=[4,9] }  };
    let p : Party := .pressM;
    let f : FieldId := 9;
    let c := s.fld f.val;
    decide (c.rst = false) && decide (p ≠ .wardenFw)) = true ∧
  (let s : State := { busy with fields := [(9,{fup with colmap:=(cmap [(97,1),(98,1),(3,2)]),colmapSh:=(cmap [(97,1),(98,1),(3,2)])})], wdn := { busy.wdn with epM:=[4,9] }  };
    let f : FieldId := 9;
    let w := s.wdn;
    let c := s.fld f.val;
    decide (c.rst = false) && decide (f.val ∈ w.epM) && decide (c.colmapSh = c.colmap)) = true ∧
  (let s : State := { busy with fields := [(9,{fup with colmap:=(cmap [(97,1),(98,1),(3,2)]),colmapSh:=(cmap [(98,1),(3,2),(9,2)])})], wdn := { busy.wdn with epM:=[4,9] } , mesh := { lanes := [(laneKey (originOf 9) .ctl 0 false,[fl1 {}])] } };
    let f : FieldId := 9;
    let w := s.wdn;
    let c := s.fld f.val;
    decide (c.rst = false) && decide (f.val ∈ w.epM) && decide (c.colmapSh ≠ c.colmap) && decide (s.drained f.val = false)) = true ∧
  (let s : State := { busy with fields := [(9,{fup with colmap:=(cmap [(97,1),(98,1),(3,2)]),colmapSh:=(cmap [(97,1),(98,1),(3,2),(9,2)])})], wdn := { busy.wdn with epM:=[4,9] }  };
    let f : FieldId := 9;
    let w := s.wdn;
    let c := s.fld f.val;
    decide (c.rst = false) && decide (f.val ∈ w.epM) && decide (c.colmapSh ≠ c.colmap) && decide (s.drained f.val = true) && decide (retireOf c.colmap c.colmapSh = none)) = true ∧
  (let s : State := { busy with fields := [(9,{fup with colmap:=(cmap [(97,1),(98,1),(3,2)]),colmapSh:=(cmap [(98,1),(3,2),(9,2)])})], wdn := { busy.wdn with epM:=[4,9] }  };
    let f : FieldId := 9;
    let a : Nat := 9;
    let b : Nat := 97;
    let w := s.wdn;
    let c := s.fld f.val;
    decide (c.rst = false) && decide (f.val ∈ w.epM) && decide (s.drained f.val = true) && decide (retireOf c.colmap c.colmapSh = some (a, b))) = true ∧
  (let s : State := busy;
    let f : FieldId := 10;
    let w := s.wdn;
    let c := s.fld f.val;
    decide (c.rst = false) && decide (f.val ∉ w.epM)) = true := by
  decide +kernel

theorem wit_ColumnMaps_2 :
  (let s : State := { busy with fields := [(9,{fup with colmap:=(cmap [(97,1),(98,1),(3,2)]),colmapSh:=(cmap [(97,1),(98,1),(3,2),(9,2)])})], wdn := { busy.wdn with epM:=[4,9] }  };
    let f : FieldId := 9;
    let n : Fin 7 := 6;
    let v : W32 := 0x10#32;
    let a : Nat := 9;
    let b : Nat := 97;
    let c := s.fld f.val;
    let sh := lset c.colmapSh n.val (if n.val = 6 then v &&& 0xFF#32 else v);
    decide (c.rst = false) && decide (a < 100) && decide (b < 100) && decide (a ≠ b) && decide (colCode c.colmap a = 0) && decide (colCode c.colmap b = 1) && decide (colCode sh a = 2) && decide (colCode sh b = 0) && (List.range 100).all (fun k => decide (k = a ∨ k = b ∨ colCode c.colmap k = colCode sh k))) = true := by
  decide +kernel

end W17

namespace W19

theorem wit_StepTakesFront :
  (let c : Instr := .stopComplete 1;
    let cs : List Instr := [.stopComplete 0];
    let s : State := { busy with pending := [.stopComplete 1,.stopComplete 0] };
    decide (s.pending = c :: cs)) = true := by
  decide +kernel

theorem wit_IdleStep :
  (let s : State := { busy with pending := [] };
    decide (s.pending = [])) = true := by
  decide +kernel

end W19

end Sys2Proof.Tests
end

section
/-! How a row of the instruction set ends on a tile: the lemmas of `Laws/Tile.lean`, once for every row. -/

namespace Sys2Proof.Machine

/-- The command `c` of a hart is the row `m` of the instruction set, and runs on the reference clock. -/
def IsRow (c : Hart → Instr) (m : Mn) : Prop :=
  ∀ g, ownClock (c g) = false ∧ ∀ s, exec (c g) s = .next (s.runHart g m)

theorem Gives.mono {c : Instr} {s : State} {P Q : State → Prop} (h : Gives c s P) (hpq : ∀ u, P u → Q u) :
    Gives c s Q := by
  obtain ⟨u, hu, hp⟩ := h
  refine ⟨u, hu, ?_⟩
  split
  · rename_i hk; exact hpq u (by simpa only [if_pos hk] using hp)
  · rename_i hk; simpa only [if_neg hk] using hp

theorem Steady.refl (t : Tile) : Steady t t := ⟨rfl, rfl, rfl, rfl, rfl, rfl, rfl, rfl, .inl rfl⟩

theorem Steady.setS {t0 t : Tile} (h : Steady t0 t) (n : Nat) (v : W32) : Steady t0 (t.setS n v) := by
  rw [setS_eq]; exact h

theorem Calm.refl (t : Tile) : Calm t t := ⟨rfl, rfl, rfl, rfl, rfl, rfl, rfl, rfl, rfl, rfl, rfl, rfl, rfl⟩

/-- A write of the tile as it reads leaves no trace once the fetch is noted. -/
theorem noteFetch_setTile_self (s : State) (r : Nat) (pc : W32) (n : Nat) :
    (s.setTile r (s.tile r)).noteFetch r pc n = s.noteFetch r pc n := by
  have h : (s.setTile r (s.tile r)).tile r = s.tile r := by rw [State.tile_setTile]; rfl
  simp only [State.noteFetch, State.modTile, h, State.setTile_setTile]

/-- What the note of the fetch makes of a state. -/
theorem noteFetch_setTile (s : State) (r : Nat) (t : Tile) (pc : W32) (n : Nat) :
    ∃ c w, (s.setTile r t).noteFetch r pc n = s.setTile r { t with rst := s.held r, eccCe := c, wb := w, noted := true }
      ∧ (t.upset = [] → c = t.eccCe ∧ w = t.wb) := by
  obtain ⟨c, w, hn, hu⟩ := noteAt_eq { t with rst := s.held r } pc n
  refine ⟨c, w, ?_, hu⟩
  simp only [State.noteFetch, State.modTile, State.tile_setTile, State.setTile_setTile]
  rw [hn]

section
variable {s : State} {r : TileId} {f : Fields} {len : Nat} {c : Hart → Instr} {m : Mn} {g : LBody} {t : Tile}
  {x : FaultRec} {npc : W32}

/-- A row, named by itself or as LIMM (R213), ends as its body does. -/
theorem IsRow.gives {P : State → Prop} (hr : IsRow c m) (h : s.issues r.val f len = true) (hm : f.mn = m)
    (hp : P (s.finish r.val (s.tile r.val).pc (len / 4)
      (tileBody m r.val f (s.tile r.val).pc ((s.tile r.val).nextPc len) s))) :
    Gives (named len c (.tile r)) s P := by
  subst hm
  exact gives_named h c (fun g => (hr g).2 s) (fun g => (hr g).1) hp

theorem IsRow.retires (hr : IsRow c m) (h : s.issues r.val f len = true) (hm : f.mn = m) (hg : tileBody m = localBody g)
    (hb : g f (s.tile r.val).pc ((s.tile r.val).nextPc len) (s.tile r.val) = .ok t npc) (hs : Steady (s.tile r.val) t) :
    Gives (named len c (.tile r)) s (fun u => Retired s u r.val t npc) := by
  subst hm
  exact gives_local h c g (fun g => (hr g).2 s) (fun g => (hr g).1) hg hb hs

theorem IsRow.faults (hr : IsRow c m) (h : s.issues r.val f len = true) (hm : f.mn = m) (hg : tileBody m = localBody g)
    (hb : g f (s.tile r.val).pc ((s.tile r.val).nextPc len) (s.tile r.val) = .fault (s.tile r.val) x) :
    Gives (named len c (.tile r)) s (fun u => Faults s u r.val x.code x.detail x.info) := by
  subst hm
  exact gives_fault h c g (fun g => (hr g).2 s) (fun g => (hr g).1) hg hb (Calm.refl _)

end

end Sys2Proof.Machine
end

section
/-! Rows whose body speaks of the whole state, and the ends of a local body. -/

namespace Sys2Proof.Machine

section
variable {s : State} {r n : Nat} {f : Fields} {pc npc : W32} {g : LBody} {t : Tile} {x : FaultRec} {w : Bool}

theorem localBody_ok (hb : g f pc npc (s.tile r) = .ok t npc) : localBody g r f pc npc s = .ok (s.setTile r t) npc := by
  simp only [localBody, hb]

theorem localBody_wait (hb : g f pc npc (s.tile r) = .wait t w) : localBody g r f pc npc s = .wait (s.setTile r t) w := by
  simp only [localBody, hb]

theorem localBody_fault (hb : g f pc npc (s.tile r) = .fault t x) :
    localBody g r f pc npc s = .fault (s.setTile r t) x false := by
  simp only [localBody, hb]

/-- An instruction that leaves the state to its end, and one that writes its tile back as it was, end alike. -/
theorem finish_ok_setTile_self :
    s.finish r pc n (.ok (s.setTile r (s.tile r)) npc) = s.finish r pc n (.ok s npc) := by
  simp only [State.finish, noteFetch_setTile_self]

theorem finish_fault_setTile_self :
    s.finish r pc n (.fault (s.setTile r (s.tile r)) x w) = s.finish r pc n (.fault s x w) := by
  simp only [State.finish, noteFetch_setTile_self]

/-- A body that waits with its tile as `t` holds it. -/
theorem held_of (hrst : t.rst = s.held r) (hup : t.upset = (s.tile r).upset) :
    let u := s.finish r pc n (.wait (s.setTile r t) w)
    Held s u r t ∧ (u.tile r).waiting = w := by
  obtain ⟨c, l, hn, hu⟩ := noteFetch_setTile s r t pc n
  have hT : s.finish r pc n (.wait (s.setTile r t) w)
      = s.setTile r { t with rst := s.held r, eccCe := c, wb := l, noted := true, waiting := w } := by
    simp only [State.finish, hn, State.modTile, State.tile_setTile, State.setTile_setTile]
  rw [hT]
  refine ⟨⟨⟨rfl, fun k hk => sget_sput_ne _ _ _ hk⟩, ?_, fun h0 => ?_⟩, ?_⟩
  · rw [State.tile_setTile, ← hrst]
  · simpa only [State.tile_setTile] using hu (hup.trans h0)
  · rw [State.tile_setTile]

theorem coreFault_latch_pend (s : State) (r : Nat) (x : FaultRec) (pc : W32) :
    ((s.coreFault r x pc false).tile r).latch = (s.tile r).latch
      ∧ ((s.coreFault r x pc false).tile r).pend = (s.tile r).pend := by
  obtain ⟨t, multi, hr, -, he⟩ := coreFault_eq s r x pc
  obtain ⟨st, hE⟩ := enterFault_eq { t with rst := s.held r } x pc false multi
  have hT : (s.coreFault r x pc false).tile r = ((s.setTile r t).tileFault r x pc false multi).tile r := by rw [he]; rfl
  rw [hT, tileFault_eq, State.tile_setTile, hE]
  obtain ⟨_, _, _, _, rfl⟩ := hr
  exact ⟨rfl, rfl⟩

/-- A fault leaves the remote error latch and the pending table as the body left them. -/
theorem fault_latch_pend (ha : (s.tile r).afault = none) :
    let u := s.finish r pc n (.fault (s.setTile r t) x false)
    (u.tile r).latch = t.latch ∧ (u.tile r).pend = t.pend := by
  obtain ⟨c, l, hn, -⟩ := noteFetch_setTile s r t pc n
  have h := coreFault_latch_pend ((s.setTile r t).noteFetch r pc n) r x pc
  simp only [State.finish, ha, Option.isSome_none, Bool.or_false]
  rw [h.1, h.2, hn, State.tile_setTile]
  exact ⟨rfl, rfl⟩

end

section
variable {s : State} {r : TileId} {f : Fields} {len : Nat} {c : Hart → Instr} {m : Mn} {t : Tile}
  {x : FaultRec} {w : Bool} {npc : W32}

theorem IsRow.retiresAs (hr : IsRow c m) (h : s.issues r.val f len = true) (hm : f.mn = m)
    (hb : tileBody m r.val f (s.tile r.val).pc ((s.tile r.val).nextPc len) s = .ok (s.setTile r.val t) npc)
    (hs : Steady (s.tile r.val) t) : Gives (named len c (.tile r)) s (fun u => Retired s u r.val t npc) :=
  hr.gives h hm (by rw [hb]; exact retired_of h hs _)

theorem IsRow.retiresSame (hr : IsRow c m) (h : s.issues r.val f len = true) (hm : f.mn = m)
    (hb : tileBody m r.val f (s.tile r.val).pc ((s.tile r.val).nextPc len) s = .ok s npc) :
    Gives (named len c (.tile r)) s (fun u => Retired s u r.val (s.tile r.val) npc) :=
  hr.gives h hm (by rw [hb, ← finish_ok_setTile_self]; exact retired_of h (Steady.refl _) _)

theorem IsRow.holds (hr : IsRow c m) (h : s.issues r.val f len = true) (hm : f.mn = m)
    (hb : tileBody m r.val f (s.tile r.val).pc ((s.tile r.val).nextPc len) s = .wait (s.setTile r.val t) w)
    (hrst : t.rst = s.held r.val) (hup : t.upset = (s.tile r.val).upset) :
    Gives (named len c (.tile r)) s (fun u => Held s u r.val t ∧ (u.tile r.val).waiting = w) :=
  hr.gives h hm (by rw [hb]; exact held_of hrst hup)

theorem IsRow.faultsAs (hr : IsRow c m) (h : s.issues r.val f len = true) (hm : f.mn = m)
    (hb : tileBody m r.val f (s.tile r.val).pc ((s.tile r.val).nextPc len) s = .fault (s.setTile r.val t) x false)
    (hs : Calm (s.tile r.val) t) :
    Gives (named len c (.tile r)) s (fun u => Faults s u r.val x.code x.detail x.info
      ∧ (u.tile r.val).latch = t.latch ∧ (u.tile r.val).pend = t.pend) := by
  refine hr.gives h hm ?_
  obtain ⟨-, -, -, ha⟩ := issues_cases h
  rw [hb]
  exact ⟨faults_of h hs _, fault_latch_pend ha⟩

theorem IsRow.faultsSame (hr : IsRow c m) (h : s.issues r.val f len = true) (hm : f.mn = m)
    (hb : tileBody m r.val f (s.tile r.val).pc ((s.tile r.val).nextPc len) s = .fault s x false) :
    Gives (named len c (.tile r)) s (fun u => Faults s u r.val x.code x.detail x.info) :=
  hr.gives h hm (by rw [hb, ← finish_fault_setTile_self]; exact faults_of h (Calm.refl _) _)

end

end Sys2Proof.Machine
end

section
/-! Branches, jumps, HALT and BRK of a tile (6.5). -/

namespace Sys2Proof.Machine

theorem shiftLeft_two (x : W32) : x <<< 2 = x * 4#32 := by
  apply BitVec.eq_of_toNat_eq
  simp [Nat.shiftLeft_eq]

theorem bits_low {n : Nat} (w : BitVec n) (hi : Nat) : bits w hi 0 = w.toNat % 2 ^ (hi + 1) := rfl

/-! ### Branches (R221) -/

section
variable {g : W32 → W32 → Bool} {f : Fields} {pc npc : W32} {t : Tile}

theorem branchBody_notTaken (h : g (t.sreg f.d) (t.sreg f.a) = false) : branchBody g f pc npc t = .ok t npc := by
  simp [branchBody, h]

theorem branchBody_taken (h : g (t.sreg f.d) (t.sreg f.a) = true) (hb : (pc + f.imm * 4#32).toNat < 0x18000) :
    branchBody g f pc npc t = .ok t (pc + f.imm * 4#32) := by
  simp only [branchBody, h, shiftLeft_two, if_pos hb, if_true]

theorem branchBody_outside (h : g (t.sreg f.d) (t.sreg f.a) = true) (hb : 0x18000 ≤ (pc + f.imm * 4#32).toNat) :
    branchBody g f pc npc t = .fault t (addrFault (pc + f.imm * 4#32)) := by
  simp only [branchBody, h, shiftLeft_two, if_neg (Nat.not_lt.mpr hb), if_true]

end

/-- Each branch of the table runs `branchBody` with the condition given there. -/
theorem branches_rows : ∀ o ∈ Tables.branches, IsRow o.1 o.2.1 ∧ tileBody o.2.1 = localBody (branchBody o.2.2) := by
  have hne : cNe = fun a b => decide (a ≠ b) := by
    funext a b; simp only [cNe, bne, Bool.beq_eq_decide_eq, decide_not]
  have hge : cGe = fun a b => decide (b.toInt ≤ a.toInt) := by
    funext a b; simp only [cGe, BitVec.slt, ← decide_not, Int.not_lt]
  have hgeu : cGeu = fun a b => decide (b.toNat ≤ a.toNat) := by
    funext a b; simp only [cGeu, BitVec.ult, ← decide_not, Nat.not_lt]
  simp only [Tables.branches, List.forall_mem_cons]
  refine ⟨⟨?_, rfl⟩, ⟨?_, ?_⟩, ⟨?_, rfl⟩, ⟨?_, ?_⟩, ⟨?_, rfl⟩, ⟨?_, ?_⟩, nofun⟩
  case refine_3 => rw [← hne]; rfl
  case refine_6 => rw [← hge]; rfl
  case refine_9 => rw [← hgeu]; rfl
  all_goals exact fun _ => ⟨rfl, fun _ => rfl⟩

theorem tileBranches : Claims.TileBranches := by
  intro o ho s r f len t tgt h hm
  obtain ⟨hr, hg⟩ := branches_rows o ho
  refine ⟨fun hc => ?_, fun hc hb => ?_, fun hc hb => ?_⟩
  · exact hr.retires h hm hg (branchBody_notTaken hc) (Steady.refl _)
  · exact hr.retires h hm hg (branchBody_taken hc hb) (Steady.refl _)
  · exact hr.faults h hm hg (branchBody_outside hc hb)

/-! ### Jumps (R222) -/

section
variable {f : Fields} {pc npc : W32} {t : Tile}

theorem bodyJal_inside (hb : (pc + f.imm * 4#32).toNat < 0x18000) :
    bodyJal f pc npc t = .ok (t.setS f.d npc) (pc + f.imm * 4#32) := by
  simp only [bodyJal, shiftLeft_two, if_pos hb]

theorem bodyJal_outside (hb : 0x18000 ≤ (pc + f.imm * 4#32).toNat) :
    bodyJal f pc npc t = .fault t (addrFault (pc + f.imm * 4#32)) := by
  simp only [bodyJal, shiftLeft_two, if_neg (Nat.not_lt.mpr hb)]

theorem bodyJalr_inside (ha : (t.sreg f.a + f.imm).toNat % 4 = 0) (hb : (t.sreg f.a + f.imm).toNat < 0x18000) :
    bodyJalr f pc npc t = .ok (t.setS f.d npc) (t.sreg f.a + f.imm) := by
  simp only [bodyJalr, bits_low, Nat.reduceAdd, Nat.reducePow, ha, hb, ne_eq, not_true, if_false, if_true]

theorem bodyJalr_misaligned (ha : (t.sreg f.a + f.imm).toNat % 4 ≠ 0) :
    bodyJalr f pc npc t = .fault t (misFault 4 (BitVec.ofNat 64 (t.sreg f.a + f.imm).toNat)) := if_pos ha

theorem bodyJalr_outside (ha : (t.sreg f.a + f.imm).toNat % 4 = 0) (hb : 0x18000 ≤ (t.sreg f.a + f.imm).toNat) :
    bodyJalr f pc npc t = .fault t (addrFault (t.sreg f.a + f.imm)) := by
  simp only [bodyJalr, bits_low, Nat.reduceAdd, Nat.reducePow, ha, if_neg (Nat.not_lt.mpr hb), ne_eq, not_true, if_false]

end

theorem tileJumps : Claims.TileJumps := by
  intro s r f len t j k h
  have jal : IsRow .jal .jal := fun _ => ⟨rfl, fun _ => rfl⟩
  have jalr : IsRow .jalr .jalr := fun _ => ⟨rfl, fun _ => rfl⟩
  refine ⟨fun hm hb => ?_, fun hm hb => ?_, fun hm ha hb => ?_, fun hm ha => ?_, fun hm ha hb => ?_⟩
  · exact jal.retires h hm rfl (bodyJal_inside hb) ((Steady.refl _).setS _ _)
  · exact jal.faults h hm rfl (bodyJal_outside hb)
  · exact jalr.retires h hm rfl (bodyJalr_inside ha hb) ((Steady.refl _).setS _ _)
  · exact jalr.faults h hm rfl (bodyJalr_misaligned ha)
  · exact jalr.faults h hm rfl (bodyJalr_outside ha hb)

/-! ### HALT and BRK (R223, R224) -/

/-- What HALT leaves: tile r HALTED at `npc` and otherwise as it was, and the log of its field controller. -/
def HaltsAt (s u : State) (r : Nat) (npc : W32) : Prop :=
  ∃ t, u = (s.setTile r t).modFld (fieldOf r) (·.logFault true 0 (rowOf r % 96) (colOf r % 96))
    ∧ t.rst = s.held r ∧ t.state = .halted ∧ t.pc = npc ∧ t.core = (s.tile r).core

theorem finish_halt {s : State} {r len : Nat} {f : Fields} (h : s.issues r f len = true) (n : Nat) (npc : W32) :
    HaltsAt s (s.finish r (s.tile r).pc n (.halt s npc)) r npc := by
  obtain ⟨hc, -, -, ha⟩ := issues_cases h
  obtain ⟨-, -, -, -, -, hw⟩ := canIssue_cases hc
  obtain ⟨c, w, hn, -⟩ := noteFetch_setTile s r (s.tile r) (s.tile r).pc n
  rw [noteFetch_setTile_self] at hn
  refine ⟨{ (s.tile r).dropWait with
    eccCe := c, wb := w, state := .halted, stepping := false, pc := npc, afault := none }, ?_, rfl, rfl, rfl, ?_⟩
  · simp only [State.finish, State.halt, hn, State.tile_setTile, ha, State.setTile_setTile]
    rfl
  · simp [Tile.core, Tile.dropWait, filter_noCore hw, ha]

theorem tileHaltAndBreak : Claims.TileHaltAndBreak := by
  intro s r f len t h
  have halt : IsRow .halt .halt := fun _ => ⟨rfl, fun _ => rfl⟩
  have brk : IsRow .brk .brk := fun _ => ⟨rfl, fun _ => rfl⟩
  refine ⟨fun hm => (halt.gives (P := (HaltsAt s · r.val (t.nextPc len))) h hm (finish_halt h _ _)).mono ?_,
    fun hm => brk.faults (g := bodyBrk) (x := ⟨0xB, bits f.imm 7 0, 0#64⟩) h hm rfl rfl⟩
  rintro u ⟨v, rfl, hrst, hst, hpc, hcore⟩
  have hv : ((s.setTile r.val v).modFld (fieldOf r.val)
      (·.logFault true 0 (rowOf r.val % 96) (colOf r.val % 96))).tile r.val = v := by
    rw [tile_logFault, State.tile_setTile, ← hrst]
  refine ⟨?_, ?_, ?_, State.fld_setFld _ _ _, rfl,
    fun k hk => sget_sput_ne _ _ _ hk, fun g hg => State.fld_setFld_ne _ _ hg⟩
  · rw [hv, hst]
  · rw [hv, hpc]
  · rw [hv, hcore]

/-- Settles O7: a branch checks its target only when it is taken, and a faulting jump is over
before it writes its link. -/
theorem tileControlFlow : Obligations.TileControlFlow := ⟨tileBranches, tileJumps, tileHaltAndBreak⟩

end Sys2Proof.Machine
end

section
/-! Forming a Global Address (6.8, R233): the checks of `formGa`, one after another. -/

namespace Sys2Proof.Machine

/-- OFFSET plus the immediate, before any check. -/
def Ga.offPlus (g : Ga) (imm : W32) : Int := (g.off : Int) + imm.toInt

/-- A GA with that OFFSET. -/
def Ga.plus (g : Ga) (imm : W32) : Ga := { g with off := (g.offPlus imm).toNat }

/-- The last checks of R233, of a GA `g` resolved to `res`: its region, R57 and its alignment. -/
def lastChecks (al size : Nat) (g : Ga) : Option Ga → Except FaultRec Ga
  | none => .error ⟨3, 2, g.word⟩
  | some h =>
    if h.bad size then .error ⟨3, 1, h.word⟩ else if h.off % al ≠ 0 then .error ⟨2, al, h.word⟩ else .ok h

section
variable {t : Tile} {n : Nat} {imm : W32} {spaces : List Nat} {al size : Nat} {g h : Ga} {origin : W32}

theorem formGa_outside (hg : gaOf (t.spair n) = g) (ho : g.offPlus imm < 0 ∨ 2 ^ 29 ≤ g.offPlus imm) :
    formGa t n imm spaces al size = .error ⟨3, 1, t.spair n⟩ := by
  subst hg
  exact if_pos ho

/-- Past the check of OFFSET comes that of the space, and the rest depends on what the GA resolves to. -/
theorem formGa_inside (hg : gaOf (t.spair n) = g) (h0 : 0 ≤ g.offPlus imm) (h1 : g.offPlus imm < 2 ^ 29) :
    formGa t n imm spaces al size
      = if g.space ∈ spaces then lastChecks al size (g.plus imm) ((g.plus imm).resolve t.origin)
        else .error ⟨3, 1, (g.plus imm).word⟩ := by
  have ho : ¬((g.off : Int) + imm.toInt < 0 ∨ (g.off : Int) + imm.toInt ≥ 2 ^ 29) := by
    unfold Ga.offPlus at h0 h1; omega
  simp only [formGa, hg, if_neg ho]
  by_cases hs : g.space ∈ spaces
  · simp only [hs, List.contains_iff_mem.mpr hs, Bool.not_true, Bool.false_eq_true, if_false, if_true, Ga.plus,
      Ga.offPlus]
    cases Ga.resolve _ _ <;> rfl
  · simp only [hs, Bool.eq_false_iff.mpr (mt List.contains_iff_mem.mp hs), Bool.not_false, if_true, if_false, Ga.plus,
      Ga.offPlus]

theorem formGa_resolved (hg : gaOf (t.spair n) = g) (h0 : 0 ≤ g.offPlus imm) (h1 : g.offPlus imm < 2 ^ 29)
    (hs : g.space ∈ spaces) {res : Option Ga} (hr : (g.plus imm).resolve t.origin = res) :
    formGa t n imm spaces al size = lastChecks al size (g.plus imm) res := by
  rw [formGa_inside hg h0 h1, if_pos hs, hr]

theorem lastChecks_ok (hb : h.bad size = false) (ha : h.off % al = 0) : lastChecks al size g (some h) = .ok h := by
  simp [lastChecks, hb, ha]

theorem lastChecks_bad (hb : h.bad size = true) : lastChecks al size g (some h) = .error ⟨3, 1, h.word⟩ := by
  simp [lastChecks, hb]

theorem lastChecks_misaligned (hb : h.bad size = false) (ha : h.off % al ≠ 0) :
    lastChecks al size g (some h) = .error ⟨2, al, h.word⟩ := by
  simp [lastChecks, hb, ha]

/-! ### Region-relative spaces (R65) -/

theorem resolve_absolute (hs : g.space < 8) : g.resolve origin = some g := if_neg (by omega)

theorem resolve_region (hs : g.space = 8 ∨ g.space = 9) (hy : g.y < 96 * (bits origin 25 23 + 1))
    (hx : g.x < 96 * (bits origin 22 20 + 1)) :
    g.resolve origin = some { g with space := g.space - 8, y := (g.y + bits origin 19 10) % 1024,
                                     x := (g.x + bits origin 9 0) % 1024 } :=
  (if_pos hs).trans (if_pos ⟨hy, hx⟩)

theorem resolve_outside (hs : g.space = 8 ∨ g.space = 9)
    (h : 96 * (bits origin 25 23 + 1) ≤ g.y ∨ 96 * (bits origin 22 20 + 1) ≤ g.x) : g.resolve origin = none :=
  (if_pos hs).trans (if_neg (by omega))

end

/-- Settles O9: each case of the statement is one path through the checks of `formGa`, in their order. -/
theorem globalAddress : Obligations.GlobalAddress := by
  intro t n imm spaces al size w g off h m
  have hg : gaOf (t.spair n) = g := rfl
  -- Only the fields of `g` count from here on, and the kernel need not compare them as bits of the pair.
  clear_value g
  refine ⟨formGa_outside hg, fun h0 h1 hs => (formGa_inside hg h0 h1).trans (if_neg hs), fun h0 h1 hs h8 hb ha => ?_,
    fun h0 h1 hs h8 hb => ?_, fun h0 h1 hs h8 hb ha => ?_, fun h0 h1 hs h89 hy hx hb ha => ?_,
    fun h0 h1 hs h89 hy hx hb => ?_, fun h0 h1 hs h89 hy hx hb ha => ?_, fun h0 h1 hs h89 ho => ?_⟩
  · exact (formGa_resolved hg h0 h1 hs (resolve_absolute h8)).trans (lastChecks_ok hb ha)
  · exact (formGa_resolved hg h0 h1 hs (resolve_absolute h8)).trans (lastChecks_bad hb)
  · exact (formGa_resolved hg h0 h1 hs (resolve_absolute h8)).trans (lastChecks_misaligned hb ha)
  · exact (formGa_resolved hg h0 h1 hs (resolve_region h89 hy hx)).trans (lastChecks_ok hb ha)
  · exact (formGa_resolved hg h0 h1 hs (resolve_region h89 hy hx)).trans (lastChecks_bad hb)
  · exact (formGa_resolved hg h0 h1 hs (resolve_region h89 hy hx)).trans (lastChecks_misaligned hb ha)
  · exact formGa_resolved hg h0 h1 hs (resolve_outside h89 ho)

end Sys2Proof.Machine
end

section
/-! REMFENCE (R238). -/

namespace Sys2Proof.Machine

section
variable {s : State} {r : Nat} {f : Fields} {pc npc : W32} {l : Nat × W64}

theorem bodyRemfence_latched (h : (s.tile r).latch = some l) (hmore : (s.tile r).latchMore = false) :
    bodyRemfence r f pc npc s = .fault (s.setTile r (s.tile r).clearLatch) (latchFault l) false := by
  simp only [bodyRemfence, Tile.fenceTest, h, hmore]

theorem bodyRemfence_pass (h : (s.tile r).latch = none)
    (hf : (s.tile r).fence = some [] ∨ (s.tile r).fence = none ∧ (s.tile r).openC0 = []) :
    bodyRemfence r f pc npc s = .ok s npc := by
  rcases hf with hf | ⟨hf, ho⟩
  · simp only [bodyRemfence, Tile.fenceTest, h, hf]
  · simp only [bodyRemfence, Tile.fenceTest, h, hf, ho, List.isEmpty_nil, if_true]

theorem bodyRemfence_hold (h : (s.tile r).latch = none) (hf : (s.tile r).fence = none) (ho : (s.tile r).openC0 ≠ []) :
    bodyRemfence r f pc npc s = .wait (s.setTile r { s.tile r with fence := some (s.tile r).openC0 }) true := by
  simp only [bodyRemfence, Tile.fenceTest, Tile.beginFence, h, hf, List.isEmpty_iff, if_neg ho, Option.isSome_none,
    Bool.false_eq_true, if_false]

end

theorem tileRemfence : Claims.TileRemfence := by
  intro s r f len t h hm
  have row : IsRow .remfence .remfence := fun _ => ⟨rfl, fun _ => rfl⟩
  refine ⟨fun hl hf => ?_, fun hl hf ho => ?_, fun st ga hl hmore => ?_⟩
  · exact row.retiresSame h hm (bodyRemfence_pass (f := f) (pc := t.pc) hl hf)
  · exact row.holds h hm (bodyRemfence_hold (f := f) (pc := t.pc) (npc := t.nextPc len) hl hf ho) rfl rfl
  · have hb := bodyRemfence_latched (f := f) (pc := t.pc) (npc := t.nextPc len) hl hmore
    exact (row.faultsAs h hm hb (Calm.refl _)).mono fun u ⟨hu, hlatch, _⟩ => ⟨hu, hlatch⟩

end Sys2Proof.Machine
end

section
/-! GAXY, QTRY and QCNT (R234, R246, R247). -/

namespace Sys2Proof.Machine

/-! ### Sources and scalar registers -/

theorem srcAB_got {t0 t : Tile} {f : Fields} {a b : W32} (h : SrcAB t0 f t a b) :
    ∃ qs c, t = { t0 with queues := qs, eccCe := c } := by
  obtain ⟨t1, ha, hb⟩ := h
  obtain ⟨_, _, rfl⟩ := srcS_got ha
  obtain ⟨_, _, rfl⟩ := srcS_got hb
  exact ⟨_, _, rfl⟩

theorem srcAB_steady {t0 t : Tile} {f : Fields} {a b : W32} (h : SrcAB t0 f t a b) : Steady t0 t := by
  obtain ⟨_, _, rfl⟩ := srcAB_got h
  exact Steady.refl t0

theorem withAB_of {t0 t : Tile} {f : Fields} {a b : W32} (h : SrcAB t0 f t a b) (k : Tile → W32 → W32 → LRes) :
    withAB t0 f k = k t a b := by
  obtain ⟨t1, ha, hb⟩ := h
  simp only [withAB, ha, hb]

theorem sreg_setS {t : Tile} {n : Nat} (v : W32) (h : n ≠ 0) : (t.setS n v).sreg n = v := by
  simp [Tile.setS, Tile.sreg, h]

theorem sreg_setS_ne (t : Tile) {n m : Nat} (v : W32) (h : m ≠ n) : (t.setS n v).sreg m = t.sreg m := by
  unfold Tile.setS
  split
  · rfl
  · simp only [Tile.sreg, sget_sput_ne _ _ _ h]

theorem setS_zero (t : Tile) (v : W32) : t.setS 0 v = t := rfl

/-! ### GAXY -/

theorem toNat_setBits {n : Nat} (w : BitVec n) (hi lo v : Nat) :
    (setBits w hi lo v).toNat
      = (w.toNat - w.toNat / 2 ^ lo % 2 ^ (hi + 1 - lo) * 2 ^ lo + v % 2 ^ (hi + 1 - lo) * 2 ^ lo) % 2 ^ n := by
  simp only [setBits, bits, Nat.shiftRight_eq_div_pow, BitVec.toNat_ofNat]

theorem toNat_setBits_low17 (w : W32) {v : Nat} (hv : v < 2 ^ 17) :
    (setBits w 16 0 v).toNat = 2 ^ 17 * (w.toNat / 2 ^ 17) + v := by
  have hw := w.isLt
  rw [toNat_setBits]
  omega

theorem toNat_setBits_high3 (w : W32) {v : Nat} (hv : v < 8) :
    (setBits w 31 29 v).toNat = 2 ^ 29 * v + w.toNat % 2 ^ 29 := by
  have hw := w.isLt
  rw [toNat_setBits]
  omega

/-- Table 2.5 over the two words of a pair: SPACE and PLATE are the high 15 bits of the high word, OFFSET the low 29
of the low one. -/
theorem gaOf_pair (hi lo : W32) :
    let g := gaOf (BitVec.ofNat 64 (hi.toNat * 2 ^ 32 + lo.toNat))
    g.space = hi.toNat / 2 ^ 28 ∧ g.plate = hi.toNat / 2 ^ 17 % 2 ^ 11 ∧ g.off = lo.toNat % 2 ^ 29 := by
  have hh := hi.isLt
  have hl := lo.isLt
  simp only [gaOf, bits, Nat.shiftRight_eq_div_pow, BitVec.toNat_ofNat]
  omega

/-- The words of a pair with new Y and X fields: 17 bits in the high word, 3 in the low one (Table 2.5). -/
theorem gaxy_word (hi lo : W32) (y x : Nat) (hy : y < 1024) (hx : x < 1024) :
    BitVec.ofNat 64 ((setBits hi 16 0 (y * 128 + x / 8)).toNat * 2 ^ 32 + (setBits lo 31 29 (x % 8)).toNat)
      = Ga.word { gaOf (BitVec.ofNat 64 (hi.toNat * 2 ^ 32 + lo.toNat)) with y := y, x := x } := by
  obtain ⟨hspace, hplate, hoff⟩ := gaOf_pair hi lo
  rw [toNat_setBits_low17 hi (show y * 128 + x / 8 < 2 ^ 17 by omega), toNat_setBits_high3 lo (Nat.mod_lt _ (by omega))]
  simp only [Ga.word, hspace, hplate, hoff]
  refine congrArg (BitVec.ofNat 64) ?_
  omega

/-- The low 17 bits of a word replaced, as a mask and an OR. -/
theorem setBits_low17 (w : W32) (v : Nat) (hv : v < 2 ^ 17) :
    setBits w 16 0 v = (w &&& 0xFFFE0000#32) ||| BitVec.ofNat 32 v := by
  have mask : ∀ i < 32, (0xFFFE0000#32).getLsbD i = decide (17 ≤ i) := by decide
  apply BitVec.eq_of_getLsbD_eq
  intro i hi
  rw [← BitVec.testBit_toNat, toNat_setBits_low17 w hv, Nat.testBit_two_pow_mul_add _ hv, BitVec.getLsbD_or,
    BitVec.getLsbD_and, mask i hi, BitVec.getLsbD_ofNat]
  by_cases h : i < 17
  · rw [if_pos h, decide_eq_false (Nat.not_le.mpr h), decide_eq_true hi, Bool.and_false, Bool.false_or, Bool.true_and]
  · have hi17 : 17 ≤ i := Nat.not_lt.mp h
    have hz : v.testBit i = false :=
      Nat.testBit_lt_two_pow (Nat.lt_of_lt_of_le hv (Nat.pow_le_pow_right (Nat.succ_pos 1) hi17))
    rw [if_neg h, hz, Nat.testBit_div_two_pow, Nat.sub_add_cancel hi17, BitVec.testBit_toNat, decide_eq_true hi17,
      Bool.and_true, Bool.and_false, Bool.or_false]

theorem bodyGaxy_eq {t0 t : Tile} {f : Fields} {a b pc npc : W32} (h : SrcAB t0 f t a b) :
    bodyGaxy f pc npc t0
      = .ok ((t.setS f.d (setBits (t.sreg f.d) 31 29 (bits b 9 0 % 8))).setS (f.d + 1)
          (setBits (t.sreg (f.d + 1)) 16 0 (bits a 9 0 * 128 + bits b 9 0 / 8))) npc :=
  withAB_of h _

/-- The pair that GAXY leaves, and what it leaves alone. -/
theorem gaxy_pair (t : Tile) {d : Nat} (hd : d ≠ 0) {y x : Nat} (hy : y < 1024) (hx : x < 1024) :
    let v := (t.setS d (setBits (t.sreg d) 31 29 (x % 8))).setS (d + 1) (setBits (t.sreg (d + 1)) 16 0 (y * 128 + x / 8))
    v.spair d = Ga.word { gaOf (t.spair d) with y := y, x := x } ∧ v = { t with sregs := v.sregs }
      ∧ ∀ n, n ≠ d → n ≠ d + 1 → v.sreg n = t.sreg n := by
  refine ⟨?_, ?_, fun n h0 h1 => ?_⟩
  · rw [Tile.spair, sreg_setS _ (Nat.succ_ne_zero d), sreg_setS_ne _ _ (Nat.ne_of_lt (Nat.lt_succ_self d)),
      sreg_setS _ hd]
    exact gaxy_word _ _ y x hy hx
  · rw [setS_eq, setS_eq t]
  · rw [sreg_setS_ne _ _ h1, sreg_setS_ne _ _ h0]

/-! ### QTRY and QCNT -/

/-- A queue whose head is good gives it up, and counts nothing. -/
theorem popN_good {t : Tile} {q : Nat} {w : QWord} {ws : List QWord} (h : t.queue q = w :: ws) (he : w.e = .good) :
    t.popN q 1 = .got (t.setQ q ws) [w.v] := by
  simp [Tile.popN, h, he, Tile.setQ]

section
variable {f : Fields} {pc npc : W32} {t : Tile}

theorem bodyQtry_empty (h : t.queue f.a = []) :
    bodyQtry f pc npc t = .ok ((t.setS f.d 0#32).setS (f.d + 1) 0#32) npc := by
  simp only [bodyQtry, h, List.isEmpty_nil, if_true]

theorem bodyQtry_pops {w : QWord} {ws : List QWord} (h : t.queue f.a = w :: ws) (he : w.e = .good) :
    bodyQtry f pc npc t = .ok (((t.setQ f.a ws).setS f.d w.v).setS (f.d + 1) 1#32) npc := by
  simp only [bodyQtry, popN_good h he, h, List.isEmpty_cons, Bool.false_eq_true, if_false, List.getD_cons_zero]

end

theorem tileQueueTest : Claims.TileQueueTest := by
  intro s r f len t h
  have gaxy : IsRow .gaxy .gaxy := fun _ => ⟨rfl, fun _ => rfl⟩
  have qtry : IsRow .qtry .qtry := fun _ => ⟨rfl, fun _ => rfl⟩
  have qcnt : IsRow .qcnt .qcnt := fun _ => ⟨rfl, fun _ => rfl⟩
  refine ⟨fun t2 a b hm hs _ _ hd => ?_, fun t2 a b hm hs hd => ?_,
    fun hm hq => ?_, fun w ws hm hq he => ?_, fun hm => ?_⟩
  · exact (gaxy.retires h hm rfl (bodyGaxy_eq hs) (((srcAB_steady hs).setS _ _).setS _ _)).mono
      fun u hu => ⟨_, hu, gaxy_pair t2 hd (bits_lt a 9 0) (bits_lt b 9 0)⟩
  · have hy := bits_lt a 9 0
    have hx := bits_lt b 9 0
    rw [← setBits_low17 _ _ (by omega)]
    refine gaxy.retires h hm rfl ((bodyGaxy_eq hs).trans ?_) ((srcAB_steady hs).setS _ _)
    rw [hd, setS_zero]
  · exact qtry.retires h hm rfl (bodyQtry_empty hq) (((Steady.refl _).setS _ _).setS _ _)
  · exact qtry.retires h hm rfl (bodyQtry_pops hq he) (Steady.setS (Steady.setS (Steady.refl _) _ _) _ _)
  · exact qcnt.retires (g := bodyQcnt) h hm rfl rfl ((Steady.refl _).setS _ _)

end Sys2Proof.Machine
end

section
/-! A packet that begins at a tile's own port (R81, R85). -/

namespace Sys2Proof.Machine

/-- The lane takes the flits that have a credit and the rest wait: none is lost, and their order stays. -/
theorem feed_sent (m : Mesh) (r : Nat) (port : RPort) (p : Packet) : Sent r port p m (m.feed r port p.h.ch p.flits) := by
  let n := m.room r port p.h.ch
  let q := m.queued r port p.h.ch ++ p.flits
  have hlane : (m.feed r port p.h.ch p.flits).lane (laneKey r port p.h.ch false)
      = m.lane (laneKey r port p.h.ch false) ++ q.take n := sget_sput _ _ _ _
  have hqueue : (m.feed r port p.h.ch p.flits).queued r port p.h.ch = q.drop n := by
    show sget [] (if (q.drop n).isEmpty then _ else _) _ = _
    split
    · rename_i he
      rw [sget_sdel, if_pos rfl, List.isEmpty_iff.mp he]
    · exact sget_sput _ _ _ _
  refine ⟨rfl, ?_, fun j hj => sget_sput_ne _ _ _ hj, fun j hj => ?_⟩
  · rw [hlane, hqueue, List.append_assoc, List.take_append_drop, ← List.append_assoc]
  · show sget [] (if (q.drop n).isEmpty then _ else _) j = _
    split
    · rw [sget_sdel, if_neg hj]
    · exact sget_sput_ne _ _ _ hj

/-- A packet with the ROUTE that its entry router writes (R356). -/
def State.routed (s : State) (r : Nat) (pk : Packet) : Packet :=
  { pk with h := { pk.h with route := entryRoute r (destOf (s.fld (fieldOf r)).topo pk.h pk.back).1 } }

/-- A tile's own port is no crossing, so nothing is dropped there (R86). -/
theorem inject_loc (s : State) (r : Nat) (pk : Packet) :
    s.inject r .loc pk = s.setMesh (s.mesh.feed r .loc (s.routed r pk).h.ch (s.routed r pk).flits) := rfl

/-- An instruction that completes over its tile, once the packets that `m` holds beyond the mesh have left. -/
theorem leaves_of {s : State} {r len : Nat} {f : Fields} {m : Mesh} {p : Packet} {t : Tile} {npc : W32}
    (h : s.issues r f len = true) (hs : Steady (s.tile r) t) (hp : Sent r .loc p s.mesh m) (n : Nat) :
    let u := s.finish r (s.tile r).pc n (.ok ((s.setMesh m).setTile r t) npc)
    Leaves s u r p ∧ Ends s u r t npc := by
  intro u
  have hi : (s.setMesh m).issues r f len = true := h
  obtain ⟨⟨hu, hk⟩, he⟩ := retired_of (npc := npc) hi hs n
  have hm : u.mesh = m := congrArg State.mesh hu
  exact ⟨⟨hm ▸ hp, by rw [hm]; exact hu, hk⟩, he⟩

end Sys2Proof.Machine
end

section
/-! BARRIVE, BARWAIT and BARTEST (R249 to R253, Table 10.6). -/

namespace Sys2Proof.Machine

/-! ### Arrivals (R250, R398) -/

section
variable {s : State} {r n : Nat} {rest : List Nat}

theorem sendArrivals_none (h : (s.tile r).arrivals = []) (k : Nat) : s.sendArrivals r k = s := by
  cases k with
  | zero => rfl
  | succ k => simp only [State.sendArrivals, h]

theorem sendArrivals_waits (h : (s.tile r).arrivals = n :: rest) (hw : (sget {} (s.tile r).pend n).waits ≠ [])
    (k : Nat) : s.sendArrivals r k = s := by
  cases k with
  | zero => rfl
  | succ k => simp [State.sendArrivals, h, hw]

theorem sendArrivals_sends (h : (s.tile r).arrivals = n :: rest) (hw : (sget {} (s.tile r).pend n).waits = [])
    (hc : s.canInject r .loc 3 = true) (hr : (s.tile r).rst = false) (k : Nat) :
    s.sendArrivals r (k + 1)
      = ((s.setTile r { s.tile r with
            arrivals := rest, pend := sput (s.tile r).pend n { sget {} (s.tile r).pend n with sent := true } }).inject r .loc
          (barPacket (s.tileHdr r) (fieldOf r)
            (barPayload false false 0 0 (sget {} (s.tile r).pend n).id))).sendArrivals r k := by
  simp only [State.sendArrivals, h, hw, hc, hr, List.isEmpty_nil, Bool.not_false, Bool.and_self, if_true]
  rfl

end

theorem Steady.pend {t0 t : Tile} (h : Steady t0 t) (l : Sparse Pend) : Steady t0 { t with pend := l } := h

/-- The entry that BARRIVE makes for id i in entry n, before the arrival leaves. -/
def Tile.entered (t : Tile) (n i : Nat) : Tile :=
  { t with pend := sput t.pend n { valid := true, id := i, waits := if bit t.compat 1 then [] else t.openC0 },
           arrivals := t.arrivals ++ [n] }

/-- The arrival of id i from tile r. -/
def State.arrival (s : State) (r i : Nat) : Packet :=
  s.routed r (barPacket (s.tileHdr r) (fieldOf r) (barPayload false false 0 0 i))

theorem arrival_payload (s : State) (r i : Nat) : (s.arrival r i).h.payload = BitVec.ofNat 32 i := by
  show BitVec.ofNat 32 (b2n false * 2 ^ 24 + b2n false * 2 ^ 23 + 0 * 2 ^ 17 + 0 * 2 ^ 14 + i) = _
  simp [b2n]

theorem arrival_dest (s : State) (r i : Nat) :
    routerOf (s.arrival r i).h.dy (s.arrival r i).h.dx = originOf (fieldOf r) := by
  show 768 * (originOf (fieldOf r) / 768) + originOf (fieldOf r) % 768 = _
  omega

theorem arrival_sent (s : State) (r i : Nat) :
    Sent r .loc (s.arrival r i) s.mesh (s.mesh.feed r .loc 3 (s.arrival r i).flits) := feed_sent _ _ _ (s.arrival r i)

/-- With nothing to follow and a credit on C3, the arrival of the entry just made leaves at once. -/
theorem entered_sends {s : State} {r n i : Nat} (ha : (s.tile r).arrivals = []) (hr : (s.tile r).rst = false)
    (hw : bit (s.tile r).compat 1 = true ∨ (s.tile r).openC0 = []) (hc : s.canInject r .loc 3 = true) :
    (s.setTile r ((s.tile r).entered n i)).sendArrivals r arriveFuel
      = (s.setMesh (s.mesh.feed r .loc 3 (s.arrival r i).flits)).setTile r
          { s.tile r with pend := sput (s.tile r).pend n { valid := true, sent := true, id := i } } := by
  have hnone : (if bit (s.tile r).compat 1 then [] else (s.tile r).openC0) = [] := by
    rcases hw with hw | hw <;> simp [hw]
  have ht : (s.setTile r ((s.tile r).entered n i)).tile r = (s.tile r).entered n i := State.tile_setTile _ _ _
  have he : sget {} ((s.setTile r ((s.tile r).entered n i)).tile r).pend n = { valid := true, id := i } := by
    rw [ht]
    exact (sget_sput _ _ _ _).trans (by rw [hnone])
  have hc' : (s.setTile r ((s.tile r).entered n i)).canInject r .loc 3 = true := hc
  have hone : ((s.setTile r ((s.tile r).entered n i)).tile r).arrivals = [n] := by rw [ht, Tile.entered, ha]; rfl
  rw [show arriveFuel = 15 + 1 from rfl, sendArrivals_sends hone (by rw [he]) hc' (by rw [ht]; exact hr), he, ht,
    State.setTile_setTile, inject_loc, sendArrivals_none]
  · simp only [Tile.entered, sput_sput, ha]
    rfl
  · rw [State.tile_setMesh, State.tile_setTile]

/-- With C0 packets outstanding, and TILE_COMPAT not lifting the order, the arrival waits. -/
theorem entered_waits {s : State} {r n i : Nat} (ha : (s.tile r).arrivals = [])
    (hw : bit (s.tile r).compat 1 = false) (ho : (s.tile r).openC0 ≠ []) :
    (s.setTile r ((s.tile r).entered n i)).sendArrivals r arriveFuel
      = s.setTile r { s.tile r with pend := sput (s.tile r).pend n { valid := true, id := i, waits := (s.tile r).openC0 },
                                    arrivals := [n] } := by
  have ht : (s.setTile r ((s.tile r).entered n i)).tile r = (s.tile r).entered n i := State.tile_setTile _ _ _
  rw [sendArrivals_waits (n := n) (rest := [])]
  · simp only [Tile.entered, hw, ha, Bool.false_eq_true, if_false, List.nil_append]
  · rw [ht, Tile.entered, ha]; rfl
  · rw [ht, Tile.entered, sget_sput]
    simpa [hw] using ho

/-! ### The cases of each body -/

section
variable {s : State} {r n : Nat} {f : Fields} {pc npc : W32} {t : Tile}

theorem bodyBarrive_outside (hi : 16384 ≤ (effAddr (s.tile r) f).toNat) :
    bodyBarrive r f pc npc s = .fault s (barFault 1 (effAddr (s.tile r) f)) false := if_pos hi

theorem bodyBarrive_pending (hi : (effAddr (s.tile r) f).toNat < 16384)
    (hp : (s.tile r).pendOf (effAddr (s.tile r) f).toNat = some n) :
    bodyBarrive r f pc npc s = .fault s (barFault 2 (effAddr (s.tile r) f)) false := by
  simp only [bodyBarrive, ge_iff_le, if_neg (Nat.not_le.mpr hi), hp, Option.isSome_some, if_true]

theorem bodyBarrive_full (hi : (effAddr (s.tile r) f).toNat < 16384)
    (hp : (s.tile r).pendOf (effAddr (s.tile r) f).toNat = none) (hf : (s.tile r).pendFree = none) :
    bodyBarrive r f pc npc s = .fault s (barFault 3 (effAddr (s.tile r) f)) false := by
  simp only [bodyBarrive, ge_iff_le, if_neg (Nat.not_le.mpr hi), hp, hf, Option.isSome_none, Bool.false_eq_true, if_false]

theorem bodyBarrive_enters (hi : (effAddr (s.tile r) f).toNat < 16384)
    (hp : (s.tile r).pendOf (effAddr (s.tile r) f).toNat = none) (hf : (s.tile r).pendFree = some n) :
    bodyBarrive r f pc npc s
      = .ok ((s.setTile r ((s.tile r).entered n (effAddr (s.tile r) f).toNat)).sendArrivals r arriveFuel) npc := by
  simp only [bodyBarrive, ge_iff_le, if_neg (Nat.not_le.mpr hi), hp, hf, Option.isSome_none, Bool.false_eq_true, if_false]
  rfl

/-- BARWAIT tests its id first, so a latched error is not taken by a misuse (R252). -/
theorem bodyBarwaitS_eq_local (h : (s.tile r).latch = none ∨ 16384 ≤ (effAddr (s.tile r) f).toNat
      ∨ (s.tile r).pendOf (effAddr (s.tile r) f).toNat = none) :
    bodyBarwaitS r f pc npc s = localBody bodyBarwait r f pc npc s := by
  cases hl : (s.tile r).latch with
  | none => simp only [bodyBarwaitS, hl]
  | some l =>
    have hn : ¬((effAddr (s.tile r) f).toNat < 16384
        ∧ ((s.tile r).pendOf (effAddr (s.tile r) f).toNat).isSome = true) := by
      rintro ⟨hi, hp⟩
      rcases h with h | h | h
      · exact Option.some_ne_none _ (hl.symm.trans h)
      · exact Nat.not_le.mpr hi h
      · rw [h] at hp; cases hp
    simp only [bodyBarwaitS, hl, if_neg hn]

theorem bodyBarwaitS_latched {l : Nat × W64} (hl : (s.tile r).latch = some l) (hi : (effAddr (s.tile r) f).toNat < 16384)
    (hmore : (s.tile r).latchMore = false) (hp : (s.tile r).pendOf (effAddr (s.tile r) f).toNat = some n) :
    bodyBarwaitS r f pc npc s = .fault (s.setTile r (s.tile r).clearLatch) (latchFault l) false := by
  simp only [bodyBarwaitS, hl, hi, hp, hmore, Option.isSome_some, and_self, if_true]

theorem bodyBarwait_outside (hi : 16384 ≤ (effAddr t f).toNat) :
    bodyBarwait f pc npc t = .fault t (barFault 1 (effAddr t f)) := if_pos hi

theorem bodyBarwait_missing (hi : (effAddr t f).toNat < 16384) (hp : t.pendOf (effAddr t f).toNat = none) :
    bodyBarwait f pc npc t = .fault t (barFault 4 (effAddr t f)) := by
  simp only [bodyBarwait, ge_iff_le, if_neg (Nat.not_le.mpr hi), hp]

theorem bodyBarwait_released (hi : (effAddr t f).toNat < 16384) (hp : t.pendOf (effAddr t f).toNat = some n)
    (hr : (sget {} t.pend n).released = true) : bodyBarwait f pc npc t = .ok (t.clearPend n) npc := by
  simp only [bodyBarwait, ge_iff_le, if_neg (Nat.not_le.mpr hi), hp, hr, if_true]

theorem bodyBarwait_waits (hi : (effAddr t f).toNat < 16384) (hp : t.pendOf (effAddr t f).toNat = some n)
    (hr : (sget {} t.pend n).released = false) : bodyBarwait f pc npc t = .wait t true := by
  simp only [bodyBarwait, ge_iff_le, if_neg (Nat.not_le.mpr hi), hp, hr, Bool.false_eq_true, if_false]

theorem bodyBartest_outside (hi : 16384 ≤ (effAddr t f).toNat) :
    bodyBartest f pc npc t = .fault t (barFault 1 (effAddr t f)) := if_pos hi

theorem bodyBartest_missing (hi : (effAddr t f).toNat < 16384) (hp : t.pendOf (effAddr t f).toNat = none) :
    bodyBartest f pc npc t = .fault t (barFault 4 (effAddr t f)) := by
  simp only [bodyBartest, ge_iff_le, if_neg (Nat.not_le.mpr hi), hp]

theorem bodyBartest_released (hi : (effAddr t f).toNat < 16384) (hp : t.pendOf (effAddr t f).toNat = some n)
    (hr : (sget {} t.pend n).released = true) : bodyBartest f pc npc t = .ok ((t.clearPend n).setS f.d 1#32) npc := by
  simp only [bodyBartest, ge_iff_le, if_neg (Nat.not_le.mpr hi), hp, hr, if_true]

theorem bodyBartest_pending (hi : (effAddr t f).toNat < 16384) (hp : t.pendOf (effAddr t f).toNat = some n)
    (hr : (sget {} t.pend n).released = false) : bodyBartest f pc npc t = .ok (t.setS f.d 0#32) npc := by
  simp only [bodyBartest, ge_iff_le, if_neg (Nat.not_le.mpr hi), hp, hr, Bool.false_eq_true, if_false]

end

/-! ### The rows -/

theorem barrive_row : IsRow .barrive .barrive := fun _ => ⟨rfl, fun _ => rfl⟩
theorem barwait_row : IsRow .barwait .barwait := fun _ => ⟨rfl, fun _ => rfl⟩
theorem bartest_row : IsRow .bartest .bartest := fun _ => ⟨rfl, fun _ => rfl⟩

section
variable {s : State} {r : TileId} {f : Fields} {len n : Nat}

/-- The arrival has left and the instruction completes: Table 10.4's packet stands in the lane. -/
theorem barrive_sends (h : s.issues r.val f len = true) (hm : f.mn = .barrive)
    (hi : (effAddr (s.tile r.val) f).toNat < 16384) (hp : (s.tile r.val).pendOf (effAddr (s.tile r.val) f).toNat = none)
    (hf : (s.tile r.val).pendFree = some n) (ha : (s.tile r.val).arrivals = [])
    (hw : bit (s.tile r.val).compat 1 = true ∨ (s.tile r.val).openC0 = []) (hc : s.canInject r.val .loc 3 = true) :
    Gives (named len .barrive (.tile r)) s (fun u =>
      Leaves s u r.val (s.arrival r.val (effAddr (s.tile r.val) f).toNat)
        ∧ Ends s u r.val { s.tile r.val with
            pend := sput (s.tile r.val).pend n { valid := true, sent := true, id := (effAddr (s.tile r.val) f).toNat } }
            ((s.tile r.val).nextPc len)) := by
  obtain ⟨hissue, -, -, -⟩ := issues_cases h
  obtain ⟨hrst, -⟩ := canIssue_cases hissue
  refine barrive_row.gives h hm ?_
  rw [show tileBody .barrive = bodyBarrive from rfl, bodyBarrive_enters hi hp hf, entered_sends ha hrst hw hc]
  exact leaves_of h ((Steady.refl _).pend _) (arrival_sent _ _ _) _

end

theorem tileBarriers : Claims.TileBarriers := by
  intro s r f len n t i h
  refine ⟨fun hi => ?_, fun hi => ⟨fun hm hp hf ha hw hc => ?_, fun hm hp hf ha hw ho => ?_, fun hm hp => ?_,
    fun hm hp hf => ?_, fun hm hl hp hr => ?_, fun hm hl hp hr => ?_, fun st ga hm hl hmore hp => ?_, fun hm hp hr => ?_,
    fun hm hp hr => ?_, ?_⟩⟩
  · simp only [List.forall_mem_cons]
    refine ⟨fun hm => ?_, fun hm => ?_, fun hm => ?_, nofun⟩
    · exact barrive_row.faultsSame h hm (bodyBarrive_outside (pc := t.pc) (npc := t.nextPc len) hi)
    · exact (barwait_row.faultsAs h hm ((bodyBarwaitS_eq_local (.inr (.inl hi))).trans
        (localBody_fault (bodyBarwait_outside hi))) (Calm.refl _)).mono fun _ hu => hu.1
    · exact bartest_row.faults h hm rfl (bodyBartest_outside hi)
  · exact (barrive_sends h hm hi hp hf ha hw hc).mono fun u ⟨hl, he⟩ =>
      ⟨_, rfl, rfl, rfl, arrival_payload _ _ _, arrival_dest _ _ _, hl, he⟩
  · exact barrive_row.retiresAs h hm
      ((bodyBarrive_enters (pc := t.pc) hi hp hf).trans (by rw [entered_waits ha hw ho]; rfl)) (Steady.refl _)
  · exact barrive_row.faultsSame h hm (bodyBarrive_pending (pc := t.pc) (npc := t.nextPc len) hi hp)
  · exact barrive_row.faultsSame h hm (bodyBarrive_full (pc := t.pc) (npc := t.nextPc len) hi hp hf)
  · exact barwait_row.retiresAs h hm
      ((bodyBarwaitS_eq_local (.inl hl)).trans (localBody_ok (bodyBarwait_released hi hp hr))) (Steady.refl _)
  · exact barwait_row.holds h hm
      ((bodyBarwaitS_eq_local (.inl hl)).trans (localBody_wait (bodyBarwait_waits hi hp hr))) rfl rfl
  · exact barwait_row.faultsAs h hm (bodyBarwaitS_latched hl hi hmore hp) (Calm.refl _)
  · exact bartest_row.retires h hm rfl (bodyBartest_released hi hp hr) (Steady.setS (Steady.refl _) _ _)
  · exact bartest_row.retires h hm rfl (bodyBartest_pending hi hp hr) ((Steady.refl _).setS _ _)
  · simp only [List.forall_mem_cons]
    refine ⟨fun hm hp => ?_, fun hm hp => ?_, nofun⟩
    · exact (barwait_row.faultsAs h hm ((bodyBarwaitS_eq_local (.inr (.inr hp))).trans
        (localBody_fault (bodyBarwait_missing hi hp))) (Calm.refl _)).mono fun _ hu => hu.1
    · exact bartest_row.faults h hm rfl (bodyBartest_missing hi hp)

/-- Settles O11: each clause is one case of its row's body, ended by the lemma for how that case ends. -/
theorem tileFences : Obligations.TileFences := ⟨tileRemfence, tileQueueTest, tileBarriers⟩

end Sys2Proof.Machine
end
